-- ==== Sys2Proof/Word.lean ====
section
/-! DEFINITION. The word types of the Jokfen 230: the 8-bit data bus and the 16-bit address bus of the host and of the memory (00_scope.md, Place on the bus), and the one notion of time the model keeps. -/

namespace Sys2Proof

/-- A byte of the host's 8-bit data bus. -/
abbrev Byte := BitVec 8

/-- An address of the 16-bit address bus; arithmetic on it is modulo 10000h. -/
abbrev Addr := BitVec 16

/-- An offset 00h to 3Fh within the control block (R166). -/
abbrev Offset := BitVec 6

/-- A subset of head rows 1 to 7; bit i stands for row i + 1 (the font table of 07_dot_firing_and_head_sensing.md). -/
abbrev Rows := BitVec 7

/-- A named timer: `none` is stopped, `some period` is running with the period that was fixed when it started (in ms, or in µs where its owner says so).
The time that has passed since the start is not kept: the command that stands for the expiry says that the period is over. -/
abbrev Timer := Option Nat

end Sys2Proof
end

