-- ==== Sys2Proof/Syntax.lean ====
section
/-! DEFINITION. The commands of the Jokfen 230: one constructor of `Instr` for each row of spec/opcode_table.json, in the table's order.
The table gives no operand, so a command carries what comes from OUTSIDE the part at that step: the byte and the place of a host write, the data that memory returns to a read of the part, a sample of an input pin (log 2). What the part itself holds is never an operand. -/

namespace Sys2Proof

/-- The four sources of characters (R1). -/
inductive Source where
  | keyboard | lineIn | sendRing | answerback
deriving DecidableEq, Repr

/-- The three sources that can hold a character back (R10). -/
inductive WaitingSource where
  | keyboard | sendRing | answerback
deriving DecidableEq, Repr

/-- The tone decision of a line sample, and the two states of a line bit: mark is 1, space is 0 (R60, R64). -/
inductive Tone where
  | mark | space
deriving DecidableEq, Repr

/-- The two pairs of tones: the low pair 1270 Hz and 1070 Hz, the high pair 2225 Hz and 2025 Hz (R60). -/
inductive TonePair where
  | low | high
deriving DecidableEq, Repr

/-- What the receive filter tuned to a pair yields for one sample: the energy of that pair, and its stronger tone (R60). -/
structure FilterReading where
  energy : Byte
  tone : Tone
deriving DecidableEq, Repr

/-- The line at one sample: what a filter tuned to each of the two pairs yields. Which of the two the part hears is its own to decide (R60). -/
structure LineInput where
  low : FilterReading
  high : FilterReading
deriving DecidableEq, Repr

/-- The six requesters of the Memory Cycle Arbiter, in the order of R172. -/
inductive Requester where
  | startUp | receiveWriter | font | keymap | answerback | sendRing
deriving DecidableEq, Repr

/-- The byte of a two-byte setup field: the low byte lies at the lower offset (R167). -/
inductive Half where
  | low | high
deriving DecidableEq, Repr

/-- The four bytes of the masks (08h, 09h) and of the urgent group (0Ah, 0Bh) (R186). -/
inductive MaskByte where
  | maskLow | maskHigh | urgentLow | urgentHigh
deriving DecidableEq, Repr

/-- The placement bytes of the two rings: 1Eh, 1Fh, 20h and 25h, 26h, 27h (R24). -/
inductive RingByte where
  | receiveBaseLow | receiveBaseHigh | receiveSize | sendBaseLow | sendBaseHigh | sendSize
deriving DecidableEq, Repr

/-- The answerback setup bytes 33h, 34h and 35h (R108). -/
inductive AnswerbackByte where
  | baseLow | baseHigh | length
deriving DecidableEq, Repr

/-- The four bytes of the key-map header, offsets 0 to 3 from the key-map base (R29). -/
inductive HeaderEntry where
  | shiftA | shiftB | control | lock
deriving DecidableEq, Repr

/-- The commands: host cycles, host commands, timer expiries, completions of memory grants, and events of the line, the keyboard and the mechanism. -/
inductive Instr where
  -- reset and start-up (R164)
  | pinReset
  | rstiRelease
  /-- The two option bytes as memory returns them, the battery voltage in mV and the head temperature in thousandths of °C at the release of the host reset. -/
  | startUpFetch (option0 option1 : Byte) (batteryMillivolts : Nat) (headMillidegrees : Int)
  -- host cycles on the control block and on watched addresses
  | attentionCodeRead
  | serviceEnd (data : Byte)
  | statusWrite (data : Byte)
  | refusedCauseWrite (data : Byte)
  | maskWrite (field : MaskByte) (data : Byte)
  | joinRowWrite (row : Source) (data : Byte)
  | ringPlacementWrite (field : RingByte) (data : Byte)
  | keymapBaseWrite (half : Half) (data : Byte)
  | lineSetupWrite (data : Byte)
  | lineOptionsWrite (data : Byte)
  | ringPauseLevelWrite (data : Byte)
  | answerbackSetupWrite (field : AnswerbackByte) (data : Byte)
  | keyboardOptionsWrite (data : Byte)
  | setupWrite (offset : Offset) (data : Byte)
  | withheldWrite (address : Addr) (data : Byte)
  | headCapture (data : Byte)
  | headerCapture (entry : HeaderEntry) (data : Byte)
  /-- The byte that memory supplies to the host for the read. -/
  | consumeRead (data : Byte)
  -- host commands, codes 01h to 0Ch written to offset 00h; the operand is the one in force at 01h (R176)
  | lineOnOriginate
  | lineOnAnswer
  | lineOff
  | sendBreak
  | sendAnswerback
  | setMode
  | flushPrint
  | feedLine
  | setTab
  | clearTab
  | clearAllTabs
  | restart
  | unknown (code : Byte)
  -- keyboard
  /-- The 64 readings of the pass: bit d × 8 + s is 1 when drive line d reads down at sense line s. -/
  | scanPass (readings : BitVec 64)
  | headerLoad (byte0 byte1 byte2 byte3 : Byte)
  | eligibilityRead (data : Byte)
  | repeatTimerExpiry
  | translationRead (data : Byte)
  | feedAppend
  | take (source : WaitingSource)
  -- line receiver: a sample of the line (R60, R61)
  | carrierPresent (low high : FilterReading)
  | carrierAbsent (low high : FilterReading)
  | listenExpiry
  | qualifyExpiry
  | fadeExpiry
  | frameReceived (low high : FilterReading)
  | receivedBreak (low high : FilterReading)
  -- line transmitter
  | frameStart
  | frameEnd
  | flowCodePlaced
  | breakStart
  | breakTimerExpiry
  | postBreakEnd
  | remotePauseTimerExpiry
  | sounderTimerExpiry
  -- carriage
  | entryHandling
  | motionEnd
  /-- Whether the home sensor shows home at the end of the return. -/
  | returnEnd (home : Bool)
  | feedEnd
  | paperOut
  | paperPresent
  | paperTimerExpiry
  | homeSeekStart
  | homeFound
  | seekTimerExpiry
  -- dot firing and head sensing
  /-- The five bytes of the glyph, leftmost column first, as memory returns them. -/
  | glyphFetch (column1 column2 column3 column4 column5 : Byte)
  | backStep
  | settleExpiry
  /-- The head row, 1 (top) to 7 (bottom), whose strobe line is released. -/
  | strobeRelease (row : Nat)
  | groupStart
  | columnTimerExpiry
  /-- The battery voltage in mV and the head temperature in thousandths of °C, as the inputs VBS and THM show them. -/
  | sensorReading (batteryMillivolts : Nat) (headMillidegrees : Int)
  -- memory cycle arbiter and grant completions
  | grantStart
  | waitTimerExpiry (requester : Requester)
  | receivePlacement
  | sendFetch (data : Byte)
  | answerbackRead (data : Byte)
  -- clocks
  | lineSample (low high : FilterReading)
  | bitBoundary
  | synthesisSample
  | commandWriteWithheld (code : Byte)
deriving DecidableEq, Repr

end Sys2Proof
end

