-- ==== Sys2Proof/Decode.lean ====
section
/-! DEFINITION. The command that a word spells. The Jokfen 230 decodes no instruction words: opcode_table.json gives none of its 82 rows any bits ("fields": [], no "fixed"), so no word spells a command. -/

namespace Sys2Proof

/-- No row of the table gives bits, so there is no word to read: the answer is none for every word. -/
def decodeTableWord (_nbits _w : Nat) : Option Instr := none

end Sys2Proof
end

