-- ==== Sys2Proof/Config.lean ====
section
/-! DEFINITION. The constants of the Jokfen 230 that its manual fixes. The manual leaves no value to the implementation, so no constant here is free. -/

namespace Sys2Proof.Config

/-- R34: the key queue holds up to 8 key events. -/
def keyQueueCapacity : Nat := 8
/-- R119: the print queue holds at most 48 entries. -/
def printQueueCapacity : Nat := 48
/-- R17: the staging queue holds at most 4 records. -/
def stagingCapacity : Nat := 4
/-- R126: the tab-stop set holds at most 16 cells. -/
def tabStopCapacity : Nat := 16
/-- R108: the answerback length is at most 32. -/
def answerbackMaxLength : Nat := 32
/-- R97: the print demand is held at 32 entries or more. -/
def printDemandHold : Nat := 32
/-- R97: the print demand is withdrawn at 8 entries or fewer. -/
def printDemandWithdraw : Nat := 8
/-- R26: the scan timer, in ms. -/
def scanPeriod : Nat := 8
/-- R156: the sample timer of the Sensor Monitor, in ms. -/
def samplePeriod : Nat := 100
/-- R129: the paper timer, in ms. -/
def paperPeriod : Nat := 2000
/-- R131: the seek timer, in ms. -/
def seekPeriod : Nat := 240
/-- R140: the column timer, in µs. -/
def columnPeriod : Nat := 5000
/-- R140: the settle timer, in µs. -/
def settlePeriod : Nat := 300
/-- R152: the gap between two dot groups, in µs. -/
def groupGap : Nat := 20
/-- R61: the energy history holds the last 128 sample energies. -/
def historyLength : Nat := 128
/-- R165: the address of the first option byte. -/
def optionAddress : Addr := 0x00F4#16
/-- R38 and R162: the key map is 196 bytes. -/
def keymapLength : Nat := 196
/-- R75: the first quarter of the sine table, entries 0 to 16. -/
def sineQuarter : List Int := [0, 12, 23, 35, 46, 57, 67, 76, 85, 93, 100, 106, 111, 115, 118, 119, 120]

end Sys2Proof.Config
end

