-- ==== Sys2Proof/Machine/State.lean ====
section
/-! DEFINITION. The state of the Jokfen 230, block by block as the manual divides it (00_scope.md, Block overview), and its value right after pin reset.
Each block owns its own state; `State` holds one record per block, the sticky flags of the status byte, what the part drives on its bus pins, and the queue of waiting commands. -/

namespace Sys2Proof.Machine

/-! ## Bus Passage Unit (08) -/

/-- R164: the start-up state. -/
inductive StartUp where
  | holding | fetching | released
deriving DecidableEq, Repr

/-- R161, R170: the refused cause, values 0 to 3 in this order. -/
inductive RefusedCause where
  | noCause | answerbackLock | keymapLock | commandBusy
deriving DecidableEq, Repr

/-- The Bus Passage Unit's state (the table that opens chapter 08), without the sticky flags of the status byte, which stand in `StatusFlags`. -/
structure BusPassage where
  startUp : StartUp
  /-- R165: the control block lies at page × 256. -/
  page : Byte
  answerbackLock : Bool
  keymapLock : Bool
  lastRefused : Addr
  refusedCause : RefusedCause
  /-- R169: command-overrun, bit 7 of 3Eh. -/
  commandOverrun : Bool
  /-- R167: the operand at 01h. -/
  operand : Byte
deriving DecidableEq, Repr

/-- R168: the six sticky flags of the status byte. -/
structure StatusFlags where
  setupRefused : Bool
  keyLost : Bool
  txDiscarded : Bool
  printOverrun : Bool
  ringLoss : Bool
  sendOverflow : Bool
deriving DecidableEq, Repr

/-! ## The bus pins -/

/-- One cycle on the memory side of the part: the pins MA0 to MA15, MD0 to MD7, MRD and MWR over one cycle. -/
inductive MemCycle where
  | read (address : Addr) (data : Byte)
  | write (address : Addr) (data : Byte)
deriving DecidableEq, Repr

/-- What stands at the part's pins, as far as the rules speak of it (log 3). -/
structure Pins where
  /-- The memory-side cycles of the latest host cycle or grant, in order; empty when that host cycle drove no memory strobe (R161, R166). -/
  memory : List MemCycle
  /-- HD0 to HD7 as returned to the host by the latest host read. -/
  hostData : Byte
  /-- PAPER: whether the paper sensor shows paper present (R129). -/
  paper : Bool
deriving DecidableEq, Repr

/-! ## Memory Cycle Arbiter (08) -/

/-- A requester's entry and its wait timer (R173): no request, a request whose timer runs, or a request that has waited 16 µs. -/
inductive Wait where
  | absent | waiting | overdue
deriving DecidableEq, Repr

/-- R38: the reads that wait for the key-map requester. -/
inductive KeymapRead where
  | headerLoad
  | eligibility (position : Fin 64)
  | translation
deriving DecidableEq, Repr

/-- The grant that is running, with the addresses fixed when it started and whether its owner will discard its data (R172). -/
inductive Grant where
  | startUp
  /-- R18: the address of the tag byte, and the two bytes written. -/
  | placement (address : Addr) (tag code : Byte) (discarded : Bool)
  | glyph (address : Addr) (discarded : Bool)
  | headerLoad (address : Addr) (discarded : Bool)
  | eligibility (position : Fin 64) (address : Addr)
  | translation (address : Addr) (discarded : Bool)
  | answerback (address : Addr) (discarded : Bool)
  | send (address : Addr) (discarded : Bool)
deriving DecidableEq, Repr

/-- R160: how a host write was judged at its start. -/
inductive WriteOutcome where
  | commandBusy
  | control (offset : Offset)
  | withheld (cause : RefusedCause)
  /-- Passed to memory: whether it is reported as a head write, and the header entry it is reported to. -/
  | passed (head : Bool) (entry : Option HeaderEntry)
deriving DecidableEq, Repr

/-- R160: how a host read was judged at its start. -/
inductive ReadOutcome where
  | control (offset : Offset)
  | passed (consume : Bool)
deriving DecidableEq, Repr

/-- A host cycle that HWAIT holds: it has been judged and has not yet passed (R171). -/
inductive HostCycle where
  | write (address : Addr) (data : Byte) (outcome : WriteOutcome)
  | read (address : Addr) (data : Byte) (outcome : ReadOutcome)
deriving DecidableEq, Repr

/-- The arbiter's six entries with their wait timers, the grant that is running and the host cycle that is held (R171 to R173). -/
structure Arbiter where
  startUp : Wait
  receiveWriter : Wait
  font : Wait
  /-- The wait of the read at the front of the key-map queue. -/
  keymap : Wait
  answerback : Wait
  sendRing : Wait
  /-- R172: the reads of the key-map requester, in the order they were requested. -/
  keymapQueue : List KeymapRead
  grant : Option Grant
  held : Option HostCycle
deriving DecidableEq, Repr

/-! ## Character Switch (01) -/

/-- R2: a row of the join table. -/
structure Row where
  lineOut : Bool
  print : Bool
  ring : Bool
deriving DecidableEq, Repr

/-- R4: the presets. -/
inductive Preset where
  | localMode | full | half
deriving DecidableEq, Repr

/-- R9: the source the round-robin pointer names. -/
inductive RoundRobin where
  | keyboard | sendRing
deriving DecidableEq, Repr

/-- R6: since when each waiter has waited for PRINT. A smaller number is an earlier moment, equal numbers are one moment. -/
structure PrintWaits where
  keyboard : Option Nat
  sendRing : Option Nat
  answerback : Option Nat
  feed : Option Nat
deriving DecidableEq, Repr

/-- R13: the Character Switch's state, with the order in which the waiters for PRINT began to wait (R6). -/
structure CharSwitch where
  keyboard : Row
  lineIn : Row
  sendRing : Row
  answerback : Row
  deferred : Option Row
  roundRobin : RoundRobin
  printWaits : PrintWaits
  /-- R6: an entry has left a full print queue, more than one waiter could fill its place, and since then no entry has been appended and no further one has left. -/
  freedPlace : Bool
deriving DecidableEq, Repr

/-! ## Ring Unit (01) -/

/-- R15: the kinds of a receive record, codes 1 to 4 in this order. -/
inductive RecordKind where
  | lineCharacter | keyboardCharacter | keyboardFunction | breakMarker
deriving DecidableEq, Repr

/-- R15: a receive record. -/
structure ReceiveRecord where
  kind : RecordKind
  parityError : Bool
  framingError : Bool
  noise : Bool
  lossBefore : Bool
  code : Byte
deriving DecidableEq, Repr

/-- R25: the Ring Unit's state. -/
structure Rings where
  receiveBase : Addr
  /-- R14: the receive size code, 0 to 4. -/
  receiveSize : Nat
  receiveHead : Nat
  receiveTail : Nat
  /-- R17: the staged records, oldest first. -/
  staged : List ReceiveRecord
  lossMark : Bool
  notifyLevel : Nat
  sendBase : Addr
  /-- R21: the send size code, 0 to 5. -/
  sendSize : Nat
  sendHead : Nat
  sendTail : Nat
  prefetched : Option Byte
  roomLevel : Nat
deriving DecidableEq, Repr

/-! ## Keyboard Scanner and Key Translator (02) -/

/-- A keyboard position, drive line × 8 + sense line. -/
abbrev Position := Fin 64

/-- R27: the debounce states. -/
inductive KeyState where
  | up | pressPending | down | releasePending
deriving DecidableEq, Repr

/-- R29: the header copy; `none` means that no position plays the role. -/
structure Header where
  shiftA : Option Position
  shiftB : Option Position
  control : Option Position
  lock : Option Position
deriving DecidableEq, Repr

/-- R33, R34: a queued key event. -/
structure KeyEvent where
  position : Position
  shift : Bool
  control : Bool
  lock : Bool
deriving DecidableEq, Repr

/-- R35: an eligibility read that has not completed, and whether its result will be discarded. -/
structure EligibilityPending where
  position : Position
  discarded : Bool
deriving DecidableEq, Repr

/-- R35: the eligibility reads of one pass: those still to complete, and the positions found eligible so far. -/
structure EligibilityPass where
  outstanding : List EligibilityPending
  eligible : List Position
deriving DecidableEq, Repr

/-- R47: the on-line preset. -/
inductive OnlinePreset where
  | full | half
deriving DecidableEq, Repr

/-- The Keyboard Scanner's state (the table that opens chapter 02) with its setup values. -/
structure Keyboard where
  positions : Vector KeyState 64
  header : Header
  lock : Bool
  /-- R36: the shift and control values left by the most recent pass. -/
  passShift : Bool
  passControl : Bool
  /-- R34: the key events, oldest first. -/
  queue : List KeyEvent
  repeatKey : Option Position
  /-- R36, in ms. -/
  repeatTimer : Timer
  /-- R26, in ms. -/
  scanTimer : Timer
  eligibility : List EligibilityPass
  keymapBase : Addr
  delayCode : Nat
  rateCode : Nat
  click : Bool
  repeatEnable : Bool
  onlinePreset : OnlinePreset
deriving DecidableEq, Repr

/-- R38: the Key Translator's state; the event it serves is at the head of the key queue. -/
inductive Translator where
  | idle | fetching
  | offering (character : Byte)
  | feedWait
deriving DecidableEq, Repr

/-! ## Line Receiver (03) -/

/-- R49: the line states, values 0 to 4 in this order. -/
inductive LineState where
  | idle | listen | qualify | data | fade
deriving DecidableEq, Repr

/-- R61: the energy window: acquisition (32 samples) or tracking (128 samples). -/
inductive Window where
  | acquisition | tracking
deriving DecidableEq, Repr

/-- R60: the channel. -/
inductive Channel where
  | originate | answer
deriving DecidableEq, Repr

/-- R65, R66: a frame in progress. -/
structure FrameProgress where
  /-- The bit reached, counted from the start bit as bit 0. -/
  bit : Nat
  /-- The last sample taken of that bit, 1 to 16. -/
  sample : Nat
  /-- The decisions at samples 7 and 8 of that bit, as far as they have been taken. -/
  early : List Tone
  /-- The votes of the bits decided so far, the start bit's first. -/
  votes : List Tone
  noise : Bool
deriving DecidableEq, Repr

/-- R65 to R68: the framer. It runs only in DATA; `stopped` is its state while the line is IDLE, LISTEN or QUALIFY. -/
inductive Framer where
  | stopped
  | hunt (previous : Tone)
  | frame (progress : FrameProgress)
  | breakWait
deriving DecidableEq, Repr

/-- R72: the line options byte. -/
structure LineOptions where
  inboundFlow : Bool
  outboundFlow : Bool
  enqAnswer : Bool
  crImpliesLf : Bool
  breakFlushesPrint : Bool
deriving DecidableEq, Repr

/-- The Line Receiver's state (the table that opens chapter 03) with its setup values. -/
structure LineReceiver where
  line : LineState
  carrier : Bool
  /-- R61: the last 128 sample energies, the latest first. -/
  history : List Byte
  window : Window
  /-- R61: the energy average E as last formed. -/
  energy : Nat
  /-- R58, in ms. -/
  listenTimer : Timer
  qualifyTimer : Timer
  fadeTimer : Timer
  framer : Framer
  channel : Channel
  rateCode : Nat
  formatCode : Nat
  onThreshold : Byte
  /-- R62: the off-threshold as written. -/
  offThreshold : Byte
  qualifyCode : Nat
  fadeCode : Nat
  listenCode : Nat
  options : LineOptions
  pauseCode : Byte
  resumeCode : Byte
deriving DecidableEq, Repr

/-! ## Line Transmitter and Tone Synthesizer (04) -/

/-- The transmitter's states; POST-BREAK counts the bit boundaries seen since the break timer's expiry (R91). -/
inductive TxState where
  | off | markIdle | sending | breaking
  | postBreak (boundaries : Nat)
deriving DecidableEq, Repr

/-- R88: the two flow codes. -/
inductive FlowCode where
  | pause | resume
deriving DecidableEq, Repr

/-- R85, R88: the holding slot. -/
inductive Slot where
  | empty
  | character (code : Byte)
  | flow (kind : FlowCode) (code : Byte)
deriving DecidableEq, Repr

/-- The frame in the shifter: its bits and the bit reached. -/
structure Shifting where
  bits : List Tone
  reached : Nat
deriving DecidableEq, Repr

/-- The Line Transmitter's state (the table before R84). -/
structure LineTransmitter where
  state : TxState
  slot : Slot
  shifter : Option Shifting
  flowRequest : Option FlowCode
  breakPending : Bool
  /-- Whether the pending or running break was asked for by SEND-BREAK. -/
  breakByCommand : Bool
  /-- R84: the sample-clock periods counted since the last bit boundary; `none` is stopped. -/
  bitClock : Option Nat
  /-- R84: the bit clock has reached a bit boundary that has not yet been taken (log 6). -/
  boundaryDue : Bool
  /-- R91, in ms. -/
  breakTimer : Timer
  breakLengthCode : Nat
deriving DecidableEq, Repr

/-- R74: a voice: SILENT or SOUNDING, its phase accumulator and increment, and its DAC output. -/
structure Voice where
  sounding : Bool
  accumulator : BitVec 16
  increment : BitVec 16
  output : Byte
deriving DecidableEq, Repr

/-- R80: the sounder requests. -/
inductive Sound where
  | bell | chirp | click
deriving DecidableEq, Repr

/-- The Tone Synthesizer's state (the table that opens chapter 04). -/
structure ToneSynthesizer where
  line : Voice
  sounder : Voice
  request : Option Sound
  /-- R80, in ms. -/
  sounderTimer : Timer
  lineLevel : BitVec 4
  sounderLevel : BitVec 4
deriving DecidableEq, Repr

/-! ## Flow Controller and Answerback Unit (05) -/

/-- R100, R101: the outbound flow states. -/
inductive FlowState where
  | clear | pausePending | paused | resumePending
deriving DecidableEq, Repr

/-- The Flow Controller's state (the table that opens chapter 05). -/
structure FlowController where
  state : FlowState
  printDemand : Bool
  ringDemand : Bool
  remotePause : Bool
  /-- R105, in ms. -/
  remotePauseTimer : Timer
  ringPauseLevel : Nat
  timeoutCode : Nat
deriving DecidableEq, Repr

/-- R109: the last result, values 0 to 2 in this order. -/
inductive AnswerbackResult where
  | noResult | complete | aborted
deriving DecidableEq, Repr

/-- The Answerback Unit's state (the table that opens chapter 05). -/
structure AnswerbackUnit where
  running : Bool
  pointer : Addr
  remaining : Nat
  prefetched : Option Byte
  lastResult : AnswerbackResult
  base : Addr
  length : Nat
deriving DecidableEq, Repr

/-! ## Carriage Controller (06) -/

/-- R118: a print entry. -/
inductive PrintEntry where
  | character (code : BitVec 7)
  | errorGlyph
  | feed
deriving DecidableEq, Repr

/-- The carriage states, values 0 to 6 in this order (the table before R120). -/
inductive CarriageState where
  | homeSeek | ready | printing | moving | returning | feeding | halted
deriving DecidableEq, Repr

/-- R121 to R125: the operations of an entry's handling. -/
inductive Operation where
  | print (glyph : BitVec 7)
  | space | backspace | tab
  | carriageReturn | feed
deriving DecidableEq, Repr

/-- The Carriage Controller's state (the table that opens chapter 06); CR implies LF stands in the line options byte. -/
structure Carriage where
  queue : List PrintEntry
  state : CarriageState
  /-- R120: the position p, `none` while it is undefined. -/
  position : Option Nat
  pending : List Operation
  /-- R126: the tab stops, ascending. -/
  tabStops : List Nat
  paper : Bool
  hot : Bool
  battery : Bool
  jam : Bool
  /-- R129, in ms. -/
  paperTimer : Timer
  /-- R131, in ms. -/
  seekTimer : Timer
  /-- R183: the operation that RESTART is stopping; the home seek waits for its step under way. -/
  stopping : Option CarriageState
  /-- R123: the cell at which the motion under way ends. -/
  target : Nat
  /-- R123, R124: the length of the motion, return or feed under way, in ms. -/
  motionTimer : Timer
  consumedSinceIdle : Bool
  /-- R122: the margin action: true is WRAP, false is HOLD. -/
  wrap : Bool
deriving DecidableEq, Repr

/-! ## Dot Firing Unit and Sensor Monitor (07) -/

/-- The unit states of the Dot Firing Unit; BACK-STEP counts the steps made (R139). -/
inductive DotState where
  | idle
  | backStep (made : Nat)
  | settle | firing | dwell
deriving DecidableEq, Repr

/-- R136: the glyph: absent, requested, or five column patterns. -/
inductive Glyph where
  | absent | requested
  | held (column1 column2 column3 column4 column5 : Rows)
deriving DecidableEq, Repr

/-- R146: the column inputs, fixed at the column's step. -/
structure ColumnInputs where
  density : Nat
  /-- R149: the effective budget B. -/
  budget : Nat
  battery : Nat
  temperature : Int
deriving DecidableEq, Repr

/-- The Dot Firing Unit's state (the table that opens chapter 07). -/
structure DotFiring where
  state : DotState
  glyph : Glyph
  code : BitVec 7
  column : Nat
  history : Rows
  inputs : ColumnInputs
  freshWidth : Nat
  warmWidth : Nat
  /-- R140, in µs. -/
  columnTimer : Timer
  settleTimer : Timer
  /-- R152: the strobe lines HS1 to HS7 that are driven. -/
  strobes : Rows
  /-- R152: the dot groups of the column that have not started. -/
  groups : List Rows
  /-- R155: RESTART has come and the step or firing under way is being finished. -/
  stopping : Bool
  density : Nat
  budget : Nat
  fontBase : Addr
deriving DecidableEq, Repr

/-- R156, R157: the readings in force and the sample timer. -/
structure SensorMonitor where
  battery : Nat
  temperature : Int
  /-- In ms. -/
  sampleTimer : Timer
deriving DecidableEq, Repr

/-! ## Command Unit (09) and Attention Controller (10) -/

/-- R170: the command results, values 0 to 6 in this order. -/
inductive CommandResult where
  | noResult | done | running | refusedBusy | refusedState | unknown | badOperand
deriving DecidableEq, Repr

/-- The running command. -/
inductive RunningCommand where
  | sendBreak | restart
deriving DecidableEq, Repr

/-- The Command Unit's state (the table that opens chapter 09); the operand stands in `BusPassage`. -/
structure CommandUnit where
  last : Byte
  result : CommandResult
  running : Option RunningCommand
deriving DecidableEq, Repr

/-- R184: the ten attention sources, codes 1 to 10 in this order. -/
inductive AttentionSource where
  | line | breakIn | rxLevel | txRoom | printFault | printIdle | answerbackEnd | commandEnd | loss | protect
deriving DecidableEq, Repr

/-- The group of an in-service entry. -/
inductive ServiceGroup where
  | normal | urgent
deriving DecidableEq, Repr

/-- R59: the line causes, values 0 to 4 in this order. -/
inductive LineCause where
  | noCause | qualified | noAnswer | carrierLost | operatorOff
deriving DecidableEq, Repr

/-- The Attention Controller's state (the table that opens chapter 10); bit n of a ten-bit field stands for the source of code n + 1. -/
structure Attention where
  flags : BitVec 10
  masks : BitVec 10
  urgent : BitVec 10
  /-- R188: the in-service stack, the top entry first. -/
  stack : List ServiceGroup
  lineCause : LineCause
  severalChanges : Bool
deriving DecidableEq, Repr

/-! ## The machine -/

/-- The whole state of the part, and the commands that wait, first in first out. -/
structure State where
  passage : BusPassage
  status : StatusFlags
  pins : Pins
  arbiter : Arbiter
  switch : CharSwitch
  rings : Rings
  keyboard : Keyboard
  translator : Translator
  receiver : LineReceiver
  transmitter : LineTransmitter
  tones : ToneSynthesizer
  flow : FlowController
  answerback : AnswerbackUnit
  carriage : Carriage
  dot : DotFiring
  sensor : SensorMonitor
  command : CommandUnit
  attention : Attention
  pending : List Instr
deriving DecidableEq, Repr

/-- The faults of a step. No rule of the manual stops the part, so there is none: every command answers a next state. -/
inductive Fault where
deriving DecidableEq, Repr

/-- The refusals of a step. -/
inductive Refusal where
  /-- Raised by `exec` for a row of the table that has no meaning yet; safe, since the machine stops. No arm raises it. -/
  | notModelled (mnemonic : String)
deriving DecidableEq, Repr

/-! ## Block updates -/

namespace State

def onPassage (s : State) (f : BusPassage → BusPassage) : State := { s with passage := f s.passage }
def onStatus (s : State) (f : StatusFlags → StatusFlags) : State := { s with status := f s.status }
def onPins (s : State) (f : Pins → Pins) : State := { s with pins := f s.pins }
def onArbiter (s : State) (f : Arbiter → Arbiter) : State := { s with arbiter := f s.arbiter }
def onSwitch (s : State) (f : CharSwitch → CharSwitch) : State := { s with switch := f s.switch }
def onRings (s : State) (f : Rings → Rings) : State := { s with rings := f s.rings }
def onKeyboard (s : State) (f : Keyboard → Keyboard) : State := { s with keyboard := f s.keyboard }
def onTranslator (s : State) (f : Translator → Translator) : State := { s with translator := f s.translator }
def onReceiver (s : State) (f : LineReceiver → LineReceiver) : State := { s with receiver := f s.receiver }
def onTransmitter (s : State) (f : LineTransmitter → LineTransmitter) : State := { s with transmitter := f s.transmitter }
def onTones (s : State) (f : ToneSynthesizer → ToneSynthesizer) : State := { s with tones := f s.tones }
def onFlow (s : State) (f : FlowController → FlowController) : State := { s with flow := f s.flow }
def onAnswerback (s : State) (f : AnswerbackUnit → AnswerbackUnit) : State := { s with answerback := f s.answerback }
def onCarriage (s : State) (f : Carriage → Carriage) : State := { s with carriage := f s.carriage }
def onDot (s : State) (f : DotFiring → DotFiring) : State := { s with dot := f s.dot }
def onSensor (s : State) (f : SensorMonitor → SensorMonitor) : State := { s with sensor := f s.sensor }
def onCommand (s : State) (f : CommandUnit → CommandUnit) : State := { s with command := f s.command }
def onAttention (s : State) (f : Attention → Attention) : State := { s with attention := f s.attention }

end State

/-! ## Reset -/

/-- R4: the KEYBOARD row of a preset. -/
def Preset.keyboardRow : Preset → Row
  | .localMode => ⟨false, true, true⟩
  | .full => ⟨true, false, true⟩
  | .half => ⟨true, true, true⟩

/-- R4: the LINE-IN row of a preset. -/
def Preset.lineInRow : Preset → Row
  | _ => ⟨false, true, true⟩

/-- R4: the SEND RING row, which is also the ANSWERBACK row, of a preset. -/
def Preset.sendRow : Preset → Row
  | .localMode => ⟨false, true, false⟩
  | .full => ⟨true, false, false⟩
  | .half => ⟨true, true, false⟩

/-- R126: the tab stops after pin reset. -/
def resetTabStops : List Nat := [8, 16, 24, 32, 40, 48, 56, 64, 72]

/-- R83: a voice after pin reset. Its increment is not defined until it starts; the model names 0 (log 5). -/
def Voice.reset : Voice := ⟨false, 0, 0, 128⟩

/-- The part right after the assertion of RSTI (R164): every block holds its pin-reset values and the start-up state is HOLDING.
What the option record and the first readings give only at the release of the host reset holds the values of log 4 until then.
DESIGN CHOICE (log 4): between the assertion and the release of the host reset the carriage stands in HOME-SEEK with its seek timer stopped; R135 gives HOME-SEEK from the release, and no state before it. -/
def State.reset : State where
  passage := ⟨.holding, 0xFE#8, false, false, 0, .noCause, false, 0⟩
  status := ⟨false, false, false, false, false, false⟩
  pins := ⟨[], 0, true⟩
  arbiter := ⟨.absent, .absent, .absent, .absent, .absent, .absent, [], none, none⟩
  switch := {
    keyboard := Preset.localMode.keyboardRow
    lineIn := Preset.localMode.lineInRow
    sendRing := Preset.localMode.sendRow
    answerback := Preset.localMode.sendRow
    deferred := none
    roundRobin := .keyboard
    printWaits := ⟨none, none, none, none⟩
    freedPlace := false }
  rings := {
    receiveBase := 0, receiveSize := 0, receiveHead := 0, receiveTail := 0, staged := [], lossMark := false
    notifyLevel := 1
    sendBase := 0, sendSize := 0, sendHead := 0, sendTail := 0, prefetched := none, roomLevel := 0 }
  keyboard := {
    positions := Vector.replicate 64 .up
    header := ⟨none, none, none, none⟩
    lock := false, passShift := false, passControl := false
    queue := [], repeatKey := none, repeatTimer := none, scanTimer := none, eligibility := []
    keymapBase := 0, delayCode := 1, rateCode := 1
    click := true, repeatEnable := true, onlinePreset := .full }
  translator := .idle
  receiver := {
    line := .idle, carrier := false
    history := List.replicate Config.historyLength 0
    window := .acquisition, energy := 0
    listenTimer := none, qualifyTimer := none, fadeTimer := none
    framer := .stopped, channel := .originate, rateCode := 2, formatCode := 0
    onThreshold := 40, offThreshold := 28
    qualifyCode := 6, fadeCode := 4, listenCode := 6
    options := ⟨true, true, false, false, false⟩
    pauseCode := 0x13#8, resumeCode := 0x11#8 }
  transmitter := {
    state := .off, slot := .empty, shifter := none, flowRequest := none
    breakPending := false, breakByCommand := false
    bitClock := none, boundaryDue := false, breakTimer := none, breakLengthCode := 1 }
  tones := ⟨Voice.reset, Voice.reset, none, none, 12, 8⟩
  flow := ⟨.clear, false, false, false, none, 8, 6⟩
  answerback := ⟨false, 0, 0, none, .noResult, 0, 0⟩
  carriage := {
    queue := [], state := .homeSeek, position := none, pending := [], tabStops := resetTabStops
    paper := false, hot := false, battery := false, jam := false
    paperTimer := none, seekTimer := none, stopping := none
    target := 0, motionTimer := none, consumedSinceIdle := false, wrap := false }
  dot := {
    state := .idle, glyph := .absent, code := 0, column := 0, history := 0
    inputs := ⟨3, 4, 0, 0⟩
    freshWidth := 0, warmWidth := 0, columnTimer := none, settleTimer := none
    strobes := 0, groups := [], stopping := false
    density := 3, budget := 4, fontBase := 0 }
  sensor := ⟨0, 0, none⟩
  command := ⟨0, .noResult, none⟩
  attention := ⟨0, 0x3FE#10, 0x013#10, [], .noCause, false⟩
  pending := []

end Sys2Proof.Machine
end

