-- ==== Sys2Proof/Machine/Operands.lean ====
section
/-! DEFINITION. How the part reads the bytes and samples that reach it: the fields and clamps of every setup byte (R170 and the owners' rules), the option record (R165), the period tables of the timers, the frame formats (R64), the ring sizes (R14, R21) and the units of the sensors (R157). -/

namespace Sys2Proof.Machine

/-! ## Clamps -/

/-- 00_scope.md, Conventions: a setup quantity outside its range is clamped to the nearer end. -/
def clamp (low high n : Nat) : Nat := max low (min n high)

/-- The field of `width` bits from bit `start` of a byte, as a number. -/
def field (data : Byte) (start width : Nat) : Nat := data.toNat / 2 ^ start % 2 ^ width

/-- The byte that shows a number (R170: fields whose layout is a whole byte hold a number). -/
def byteOf (n : Nat) : Byte := BitVec.ofNat 8 n

/-- A Bool as bit `i` of a byte. -/
def flagBit (b : Bool) (i : Nat) : Byte := if b then BitVec.twoPow 8 i else 0

/-- R167: one byte of a two-byte field is replaced, the other is kept; the low byte lies at the lower offset. -/
def setHalf (half : Half) (data : Byte) (value : Addr) : Addr :=
  match half with
  | .low => value.extractLsb' 8 8 ++ data
  | .high => data ++ value.extractLsb' 0 8

def lowByte (value : Addr) : Byte := value.extractLsb' 0 8
def highByte (value : Addr) : Byte := value.extractLsb' 8 8

/-! ## Join rows and options -/

/-- R2: the row a written byte is taken as: illegal cells of the source stay unjoined, bits 3 to 7 are ignored. -/
def rowOfByte (source : Source) (data : Byte) : Row where
  lineOut := data.getLsbD 0 && source ≠ .lineIn
  print := data.getLsbD 1
  ring := data.getLsbD 2 && (source = .keyboard || source = .lineIn)

/-- R2, R170: the byte a row reads as. -/
def Row.toByte (row : Row) : Byte := flagBit row.lineOut 0 ||| flagBit row.print 1 ||| flagBit row.ring 2

/-- R72, R170: the line options byte. -/
def optionsOfByte (data : Byte) : LineOptions :=
  ⟨data.getLsbD 0, data.getLsbD 1, data.getLsbD 2, data.getLsbD 3, data.getLsbD 4⟩

def LineOptions.toByte (o : LineOptions) : Byte :=
  flagBit o.inboundFlow 0 ||| flagBit o.outboundFlow 1 ||| flagBit o.enqAnswer 2 ||| flagBit o.crImpliesLf 3
    ||| flagBit o.breakFlushesPrint 4

/-- R170: bit 0 of 0Eh and bit 3 of the second option byte name the channel: 0 originate, 1 answer. -/
def channelOfBit (answer : Bool) : Channel := if answer then .answer else .originate

/-- R170: bit 2 of 2Eh names the on-line preset: 0 FULL, 1 HALF. -/
def onlinePresetOfBit (half : Bool) : OnlinePreset := if half then .half else .full

def OnlinePreset.toPreset : OnlinePreset → Preset
  | .full => .full
  | .half => .half

/-- R46: the other on-line preset. -/
def OnlinePreset.toggle : OnlinePreset → OnlinePreset
  | .full => .half
  | .half => .full

/-- R4, R180: the preset the operand of SET-MODE names. -/
def presetOfOperand (operand : Byte) : Option Preset :=
  match operand.toNat with
  | 0 => some .localMode
  | 1 => some .full
  | 2 => some .half
  | _ => none

/-- R29: a header byte 00h to 3Fh names a position, 40h to FFh none. -/
def headerPosition (data : Byte) : Option Position :=
  if h : data.toNat < 64 then some ⟨data.toNat, h⟩ else none

/-- R29: the offset of a header entry from the key-map base. -/
def headerEntryOffset : HeaderEntry → Nat
  | .shiftA => 0
  | .shiftB => 1
  | .control => 2
  | .lock => 3

def Header.set (h : Header) (entry : HeaderEntry) (p : Option Position) : Header :=
  match entry with
  | .shiftA => { h with shiftA := p }
  | .shiftB => { h with shiftB := p }
  | .control => { h with control := p }
  | .lock => { h with lock := p }

/-! ## Offsets of the control block (R170) -/

def maskByteOffset : MaskByte → Offset
  | .maskLow => 0x08#6
  | .maskHigh => 0x09#6
  | .urgentLow => 0x0A#6
  | .urgentHigh => 0x0B#6

def joinRowOffset : Source → Offset
  | .keyboard => 0x1A#6
  | .lineIn => 0x1B#6
  | .sendRing => 0x1C#6
  | .answerback => 0x1D#6

def ringByteOffset : RingByte → Offset
  | .receiveBaseLow => 0x1E#6
  | .receiveBaseHigh => 0x1F#6
  | .receiveSize => 0x20#6
  | .sendBaseLow => 0x25#6
  | .sendBaseHigh => 0x26#6
  | .sendSize => 0x27#6

def keymapBaseOffset : Half → Offset
  | .low => 0x2B#6
  | .high => 0x2C#6

def answerbackByteOffset : AnswerbackByte → Offset
  | .baseLow => 0x33#6
  | .baseHigh => 0x34#6
  | .length => 0x35#6

/-- R166: the address of an offset of the control block: page × 256 + offset. -/
def controlAddress (page : Byte) (offset : Offset) : Addr := page ++ (0#2 ++ offset : Byte)

/-- R166: the offset of an address within the control block of a page, if it lies there. -/
def controlOffset (page : Byte) (address : Addr) : Option Offset :=
  if address.extractLsb' 8 8 = page ∧ address.extractLsb' 6 2 = 0#2 then some (address.extractLsb' 0 6) else none

/-- R162: whether an address lies in [base, base + length), formed modulo 10000h. -/
def inRegion (base : Addr) (length : Nat) (address : Addr) : Bool := (address - base).toNat < length

/-! ## The option record (R165) -/

/-- R165: a page of 00h or FFh is taken as FEh. -/
def pageOfOption (data : Byte) : Byte := if data = 0x00#8 ∨ data = 0xFF#8 then 0xFE#8 else data

/-! ## Ring sizes (R14, R21) -/

/-- R14, R21: the slots of a size code: 0 for off, else 16, 32, 64, 128, 256 for codes 1 to 5. -/
def ringSlots (code : Nat) : Nat := if code = 0 then 0 else 2 ^ (code + 3)

/-- R14, R21: the capacity is one less than the slots; 0 when the ring is off. -/
def ringCapacity (code : Nat) : Nat := ringSlots code - 1

/-- R14, R21: occupancy is (head − tail) mod size. -/
def ringOccupancy (head tail size : Nat) : Nat := (head + size - tail) % size

/-- R14, R21: the index after i. -/
def ringNext (i size : Nat) : Nat := (i + 1) % size

/-! ## Line rates and formats (R63, R64) -/

/-- R63: the divider M of the sample clock. -/
def rateDivider : Nat → Nat
  | 0 => 2095
  | 1 => 1536
  | 2 => 768
  | _ => 512

/-- R64: the parity of a format. -/
inductive Parity where
  | even | odd | mark | space | none
deriving DecidableEq, Repr

/-- R64: parity by format code. -/
def formatParity : Nat → Parity
  | 0 => .even
  | 1 => .odd
  | 2 => .mark
  | 3 => .space
  | 5 => .even
  | 6 => .odd
  | _ => .none

/-- R64: data bits by format code: 8 in formats 4 and 7, else 7. -/
def formatDataBits (format : Nat) : Nat := if format = 4 ∨ format = 7 then 8 else 7

/-- R64: stop bits by format code: 2 in formats 5, 6 and 7, else 1. -/
def formatStopBits (format : Nat) : Nat := if format < 5 then 1 else 2

/-- R64: whether the format has a parity bit. -/
def formatHasParity (format : Nat) : Bool := formatParity format ≠ .none

/-- R67: the bit of a received frame that is its voted stop bit, the start bit being bit 0. -/
def stopBitIndex (format : Nat) : Nat :=
  1 + formatDataBits format + (if formatHasParity format then 1 else 0)

/-- A line bit as a tone: mark is 1, space is 0 (R64). -/
def toneOfBit (b : Bool) : Tone := if b then .mark else .space

/-- R64: the parity bit of a format over the data bits; none when the format has no parity bit. -/
def parityBit (format : Nat) (data : List Bool) : Option Bool :=
  let odd := data.foldl (· != ·) false
  match formatParity format with
  | .even => some odd
  | .odd => some !odd
  | .mark => some true
  | .space => some false
  | .none => none

/-- R86: the data bits of a character, least significant first: 7 or 8 of them. -/
def dataBits (format : Nat) (character : Byte) : List Bool :=
  (List.range (formatDataBits format)).map character.getLsbD

/-- R86: the bits of the frame that sends a character: start bit, data bits, parity bit if any, stop bits. -/
def frameBits (format : Nat) (character : Byte) : List Tone :=
  let data := dataBits format character
  [Tone.space] ++ data.map toneOfBit ++ ((parityBit format data).toList.map toneOfBit)
    ++ List.replicate (formatStopBits format) Tone.mark

/-! ## Timer periods, in ms -/

/-- R58: listen code × 5 s. -/
def listenPeriod (code : Nat) : Nat := code * 5000
/-- R58: qualify code × 100 ms. -/
def qualifyPeriod (code : Nat) : Nat := code * 100
/-- R58: fade code × 100 ms. -/
def fadePeriod (code : Nat) : Nat := code * 100

/-- R36: the repeat delay. -/
def repeatDelay : Nat → Nat
  | 0 => 250
  | 1 => 500
  | 2 => 750
  | _ => 1000

/-- R36: the repeat interval. -/
def repeatInterval : Nat → Nat
  | 0 => 200
  | 1 => 100
  | 2 => 67
  | _ => 50

/-- R91: the break length. -/
def breakLength : Nat → Nat
  | 0 => 100
  | 1 => 250
  | 2 => 500
  | _ => 1000

/-- R105: the remote-pause timeout: code 0 runs no timer, else code × 5 s. -/
def remotePausePeriod (code : Nat) : Timer := if code = 0 then none else some (code * 5000)

/-! ## Sounds and tones (R75, R78, R80) -/

/-- R80: the duration of a sounder request, in ms. -/
def Sound.duration : Sound → Nat
  | .bell => 200
  | .chirp => 80
  | .click => 3

/-- R80: the rank of a sounder request. -/
def Sound.rank : Sound → Nat
  | .bell => 3
  | .chirp => 2
  | .click => 1

/-- R80: the increment K of a sounder request. -/
def Sound.increment : Sound → BitVec 16
  | .bell => 1001
  | .chirp => 501
  | .click => 3413

/-- R78: the increment of a tone of the pair that the channel sends. -/
def lineIncrement : Channel → Tone → BitVec 16
  | .originate, .mark => 1445
  | .originate, .space => 1217
  | .answer, .mark => 2532
  | .answer, .space => 2304

/-- R75: the sine table for indices 0 to 31. -/
def sineHalf (i : Nat) : Int := Config.sineQuarter.getD (if i ≤ 16 then i else 32 - i) 0

/-- R75: the sine table of 64 entries. -/
def sineTable (i : Nat) : Int := if i < 32 then sineHalf i else -sineHalf (i - 32)

/-- R75: the DAC output 128 + floor(level × table[i] / 15), where i is the top 6 bits of the accumulator. -/
def dacOutput (level : BitVec 4) (accumulator : BitVec 16) : Byte :=
  BitVec.ofInt 8 (128 + Int.fdiv (level.toNat * sineTable (accumulator.toNat / 1024)) 15)

/-! ## Sensors (R157) -/

/-- R157: the battery reading in units of 0.05 V, rounded down, limited to 0 to 255. -/
def batteryReading (millivolts : Nat) : Nat := min (millivolts / 50) 255

/-- R157: the head temperature in whole degrees, rounded down, limited to −40 to +100. -/
def temperatureReading (millidegrees : Int) : Int := max (-40) (min (Int.fdiv millidegrees 1000) 100)

end Sys2Proof.Machine
end

