-- ==== Sys2Proof/Machine/Flags.lean ====
section
/-! DEFINITION. The flags: the sticky and live flags of the status byte (R168, R96), the request flags of the Attention Controller, eligibility and the attention line (R184 to R190), and the carrier's judgement (R62). -/

namespace Sys2Proof.Machine

/-! ## Attention -/

/-- R184: the bit of a source, its code less one. -/
def AttentionSource.bit : AttentionSource → Nat
  | .line => 0
  | .breakIn => 1
  | .rxLevel => 2
  | .txRoom => 3
  | .printFault => 4
  | .printIdle => 5
  | .answerbackEnd => 6
  | .commandEnd => 7
  | .loss => 8
  | .protect => 9

/-- R184: the attention code of a source, 1 to 10. -/
def AttentionSource.code (a : AttentionSource) : Nat := a.bit + 1

/-- The ten sources in the default order (R184). -/
def attentionOrder : List AttentionSource :=
  [.line, .breakIn, .rxLevel, .txRoom, .printFault, .printIdle, .answerbackEnd, .commandEnd, .loss, .protect]

/-- R185: a raised request sets its flag, set or clear, masked or not. -/
def raise (a : AttentionSource) (s : State) : State :=
  s.onAttention fun t => { t with flags := t.flags ||| BitVec.twoPow 10 a.bit }

/-- R190: LINE is raised with a cause; the several-changes mark is set if the flag was already set. -/
def raiseLine (cause : LineCause) (s : State) : State :=
  s.onAttention fun t =>
    { t with
      severalChanges := t.severalChanges || t.flags.getLsbD AttentionSource.line.bit
      lineCause := cause
      flags := t.flags ||| BitVec.twoPow 10 AttentionSource.line.bit }

/-- R187: a request is eligible when its flag is set, it is not masked, and the stack is empty, or its top is NORMAL and the source is urgent. -/
def Attention.eligible (t : Attention) (a : AttentionSource) : Bool :=
  t.flags.getLsbD a.bit && !t.masks.getLsbD a.bit &&
    match t.stack with
    | [] => true
    | .normal :: _ => t.urgent.getLsbD a.bit
    | .urgent :: _ => false

/-- R187: ATTN is asserted while at least one eligible request exists. -/
def attn (s : State) : Bool := attentionOrder.any s.attention.eligible

/-- R188: the highest eligible request: urgent before normal, and within each group the lowest code. -/
def Attention.highest (t : Attention) : Option AttentionSource :=
  (attentionOrder.find? fun a => t.eligible a && t.urgent.getLsbD a.bit).or (attentionOrder.find? t.eligible)

/-- R188: the code the read of 04h returns: that of the highest eligible request, or 0. -/
def Attention.code (t : Attention) : Nat := (t.highest.map AttentionSource.code).getD 0

/-- R188: the group a taken request enters the stack with. -/
def Attention.groupOf (t : Attention) (a : AttentionSource) : ServiceGroup :=
  if t.urgent.getLsbD a.bit then .urgent else .normal

/-- R188, R190: the taking of the highest eligible request: its flag is cleared, an entry is pushed, and taking LINE clears the several-changes mark. -/
def takeAttention (s : State) : State :=
  match s.attention.highest with
  | none => s
  | some a =>
    s.onAttention fun t =>
      { t with
        flags := t.flags &&& ~~~BitVec.twoPow 10 a.bit
        stack := t.groupOf a :: t.stack
        severalChanges := t.severalChanges && a ≠ .line }

/-- R189: a service end pops the top entry of the stack; with the stack empty it has no effect. -/
def endService (s : State) : State := s.onAttention fun t => { t with stack := t.stack.tail }

/-- R186: bits 8 and 9 of a ten-bit field are bits 0 and 1 of its high byte; the high byte's other bits are ignored. -/
def setTenBits (half : Half) (data : Byte) (value : BitVec 10) : BitVec 10 :=
  match half with
  | .low => value.extractLsb' 8 2 ++ data
  | .high => data.extractLsb' 0 2 ++ value.extractLsb' 0 8

/-- R186: bit 0 of the masks ignores writes and stays 0. -/
def writeMask (half : Half) (data : Byte) (s : State) : State :=
  s.onAttention fun t => { t with masks := setTenBits half data t.masks &&& ~~~1#10 }

/-- R186: bit 0 of the urgent group ignores writes and stays 1. -/
def writeUrgent (half : Half) (data : Byte) (s : State) : State :=
  s.onAttention fun t => { t with urgent := setTenBits half data t.urgent ||| 1#10 }

/-! ## Status flags -/

/-- R34, R168: key-lost is set, and LOSS is raised when it was clear. -/
def setKeyLost (s : State) : State :=
  if s.status.keyLost then s else raise .loss (s.onStatus fun f => { f with keyLost := true })

/-- R7, R168: tx-discarded is set, and LOSS is raised when it was clear. -/
def setTxDiscarded (s : State) : State :=
  if s.status.txDiscarded then s else raise .loss (s.onStatus fun f => { f with txDiscarded := true })

/-- R11, R168: print-overrun is set, and LOSS is raised when it was clear. -/
def setPrintOverrun (s : State) : State :=
  if s.status.printOverrun then s else raise .loss (s.onStatus fun f => { f with printOverrun := true })

/-- R17, R168: ring-loss is set, and LOSS is raised when it was clear. -/
def setRingLoss (s : State) : State :=
  if s.status.ringLoss then s else raise .loss (s.onStatus fun f => { f with ringLoss := true })

/-- R168: setup-refused is set; it raises no attention request. -/
def setSetupRefused (s : State) : State := s.onStatus fun f => { f with setupRefused := true }

/-- R21, R168: send-overflow is set; it raises no attention request. -/
def setSendOverflow (s : State) : State := s.onStatus fun f => { f with sendOverflow := true }

/-- R168: a write to 03h clears each sticky flag whose bit is 1 in the written byte. -/
def clearStatus (data : Byte) (s : State) : State :=
  s.onStatus fun f =>
    { setupRefused := f.setupRefused && !data.getLsbD 0
      keyLost := f.keyLost && !data.getLsbD 1
      txDiscarded := f.txDiscarded && !data.getLsbD 2
      printOverrun := f.printOverrun && !data.getLsbD 3
      ringLoss := f.ringLoss && !data.getLsbD 4
      sendOverflow := f.sendOverflow && !data.getLsbD 5 }

/-- R96: flow-paused reads as set in PAUSED and RESUME-PENDING. -/
def FlowController.flowPaused (f : FlowController) : Bool := f.state = .paused || f.state = .resumePending

/-! ## The carrier (R61, R62) -/

/-- R62: the off-threshold in force is the written one or the on-threshold, whichever is smaller. -/
def LineReceiver.offInForce (r : LineReceiver) : Byte := if r.offThreshold ≤ r.onThreshold then r.offThreshold else r.onThreshold

/-- R61: the number of samples of a window. -/
def Window.size : Window → Nat
  | .acquisition => 32
  | .tracking => 128

/-- R61: the sum of the most recent W values of the history divided by W and rounded down. -/
def energyAverage (window : Window) (history : List Byte) : Nat :=
  ((history.take window.size).map BitVec.toNat).sum / window.size

/-- R61: the sample's energy enters the history and the oldest of the 128 values leaves it. -/
def pushEnergy (energy : Byte) (history : List Byte) : List Byte := (energy :: history).take Config.historyLength

/-- R62: the carrier after a sample whose energy average is e. -/
def LineReceiver.judgeCarrier (r : LineReceiver) (e : Nat) : Bool :=
  if r.onThreshold.toNat ≤ e then true else if e < r.offInForce.toNat then false else r.carrier

end Sys2Proof.Machine
end

