-- ==== Sys2Proof/Machine/Ops.lean ====
section
/-! DEFINITION. The shared operations of the Character Switch, the Ring Unit, the arbiter's requests, the sounder, the Flow Controller, the Answerback Unit and the print queue: what several commands do, written once. -/

namespace Sys2Proof.Machine

/-! ## Requests to the arbiter (R171 to R174) -/

def Arbiter.wait (a : Arbiter) : Requester → Wait
  | .startUp => a.startUp
  | .receiveWriter => a.receiveWriter
  | .font => a.font
  | .keymap => a.keymap
  | .answerback => a.answerback
  | .sendRing => a.sendRing

def Arbiter.setWait (a : Arbiter) (r : Requester) (w : Wait) : Arbiter :=
  match r with
  | .startUp => { a with startUp := w }
  | .receiveWriter => { a with receiveWriter := w }
  | .font => { a with font := w }
  | .keymap => { a with keymap := w }
  | .answerback => { a with answerback := w }
  | .sendRing => { a with sendRing := w }

/-- R172, R173: a requester holds at most one request; the wait timer starts when the request arrives. -/
def requestGrant (r : Requester) (s : State) : State :=
  if s.arbiter.wait r = .absent then s.onArbiter fun a => a.setWait r .waiting else s

/-- R172: a request withdrawn before its grant starts leaves the arbiter, and its wait timer stops. -/
def withdrawRequest (r : Requester) (s : State) : State := s.onArbiter fun a => a.setWait r .absent

/-- R172, R173: a key-map read joins the queue; a read that reaches the front starts the wait timer. -/
def enqueueKeymap (read : KeymapRead) (s : State) : State :=
  s.onArbiter fun a =>
    { a with
      keymapQueue := a.keymapQueue ++ [read]
      keymap := if a.keymapQueue = [] then .waiting else a.keymap }

/-- R48, R174: the waiting translation read leaves the key-map queue; if it was at the front, the next read starts its wait timer. -/
def cancelTranslation (s : State) : State :=
  s.onArbiter fun a =>
    let rest := a.keymapQueue.filter (· ≠ .translation)
    { a with
      keymapQueue := rest
      keymap :=
        if rest = [] then .absent
        else if a.keymapQueue.head? = some .translation then .waiting
        else a.keymap }

/-- The owner no longer wants the data of a running grant (R172). -/
def Grant.discard : Grant → Grant
  | .placement a t c _ => .placement a t c true
  | .glyph a _ => .glyph a true
  | .headerLoad a _ => .headerLoad a true
  | .translation a _ => .translation a true
  | .answerback a _ => .answerback a true
  | .send a _ => .send a true
  | g => g

/-- Whether a grant is one that the owner still wants, for the owner `r`. -/
def Grant.liveFor : Grant → Requester → Bool
  | .placement _ _ _ d, .receiveWriter => !d
  | .glyph _ d, .font => !d
  | .answerback _ d, .answerback => !d
  | .send _ d, .sendRing => !d
  | _, _ => false

/-- Whether a grant of requester `r` is running whose data the owner will use. -/
def grantLive (r : Requester) (s : State) : Bool := (s.arbiter.grant.map (·.liveFor r)).getD false

/-- R172: the running grant, if it is requester `r`'s, will be discarded by its owner. -/
def discardGrant (r : Requester) (s : State) : State :=
  if grantLive r s then s.onArbiter fun a => { a with grant := a.grant.map Grant.discard } else s

/-- An owner drops what it asked of the arbiter: a waiting request is withdrawn, a running grant will be discarded. -/
def dropRequest (r : Requester) (s : State) : State := discardGrant r (withdrawRequest r s)

/-! ## Ring Unit (R14 to R25) -/

def Rings.receiveOccupancy (r : Rings) : Nat := ringOccupancy r.receiveHead r.receiveTail (ringSlots r.receiveSize)
def Rings.receiveCapacity (r : Rings) : Nat := ringCapacity r.receiveSize
def Rings.sendOccupancy (r : Rings) : Nat := ringOccupancy r.sendHead r.sendTail (ringSlots r.sendSize)
def Rings.sendCapacity (r : Rings) : Nat := ringCapacity r.sendSize

/-- R98: the free count: the capacity, less the occupancy, less the number of staged records. -/
def Rings.receiveFree (r : Rings) : Nat := r.receiveCapacity - r.receiveOccupancy - r.staged.length

/-- R15: the kind code of a record. -/
def RecordKind.code : RecordKind → Nat
  | .lineCharacter => 1
  | .keyboardCharacter => 2
  | .keyboardFunction => 3
  | .breakMarker => 4

/-- R15: the tag byte of a record. -/
def ReceiveRecord.tag (r : ReceiveRecord) : Byte :=
  byteOf r.kind.code ||| flagBit r.parityError 3 ||| flagBit r.framingError 4 ||| flagBit r.noise 5
    ||| flagBit r.lossBefore 6 ||| flagBit true 7

/-- R15: a record of kind 2, 3 or 4 carries no error or noise fields. -/
def plainRecord (kind : RecordKind) (code : Byte) : ReceiveRecord := ⟨kind, false, false, false, false, code⟩

/-- R18: while the staging queue is not empty the Ring Unit requests a grant for the oldest staged record, one at a time. -/
def requestPlacement (s : State) : State :=
  if s.rings.staged ≠ [] ∧ grantLive .receiveWriter s = false then requestGrant .receiveWriter s else s

/-- R22: while occupancy is above 0 and there is no prefetched byte, the Ring Unit requests a fetch. -/
def requestSendFetch (s : State) : State :=
  if 0 < s.rings.sendOccupancy ∧ s.rings.prefetched = none ∧ grantLive .sendRing s = false then
    requestGrant .sendRing s
  else s

/-- R17: the acceptance rule. -/
def Rings.accepts (r : Rings) : Bool :=
  r.staged.length < Config.stagingCapacity && r.receiveOccupancy + r.staged.length < r.receiveCapacity

/-- R17: an offered record is accepted into the staging queue, with the loss-before field from the loss mark, or lost. -/
def offerRecord (record : ReceiveRecord) (s : State) : State :=
  if s.rings.accepts then
    requestPlacement (s.onRings fun r =>
      { r with staged := r.staged ++ [{ record with lossBefore := r.lossMark }], lossMark := false })
  else setRingLoss (s.onRings fun r => { r with lossMark := true })

/-! ## Join table (R2 to R5) -/

/-- R3: while the receive ring is off every RECEIVE RING cell is treated as unjoined. -/
def joinedRing (row : Row) (s : State) : Bool := row.ring && s.rings.receiveSize ≠ 0

def CharSwitch.row (c : CharSwitch) : WaitingSource → Row
  | .keyboard => c.keyboard
  | .sendRing => c.sendRing
  | .answerback => c.answerback

/-- R5: a change to the ANSWERBACK row is deferred while the Answerback Unit is RUNNING; every other change applies at once. -/
def setRow (source : Source) (row : Row) (s : State) : State :=
  match source with
  | .keyboard => s.onSwitch fun c => { c with keyboard := row }
  | .lineIn => s.onSwitch fun c => { c with lineIn := row }
  | .sendRing => s.onSwitch fun c => { c with sendRing := row }
  | .answerback =>
    if s.answerback.running then s.onSwitch fun c => { c with deferred := some row }
    else s.onSwitch fun c => { c with answerback := row }

/-- R4: a preset is a change to each of the four rows. -/
def applyPreset (p : Preset) (s : State) : State :=
  setRow .answerback p.sendRow (setRow .sendRing p.sendRow (setRow .lineIn p.lineInRow (setRow .keyboard p.keyboardRow s)))

/-- R5: at the end of the answerback the deferred row, if one is held, is applied and discarded. -/
def applyDeferred (s : State) : State :=
  s.onSwitch fun c => { c with answerback := c.deferred.getD c.answerback, deferred := none }

/-! ## Sounder (R80, R81) -/

/-- R77: a voice goes from SILENT to SOUNDING: accumulator 0, on the K of the tone it starts on. -/
def Voice.start (v : Voice) (k : BitVec 16) : Voice := { v with sounding := true, accumulator := 0, increment := k }

/-- R77: a SOUNDING voice changes its increment without resetting the accumulator. -/
def Voice.retune (v : Voice) (k : BitVec 16) : Voice := { v with increment := k }

/-- R77: a voice becomes SILENT; its output is 128 from the next synthesis sample and the accumulator is kept. -/
def Voice.silence (v : Voice) : Voice := { v with sounding := false }

/-- R80, R81: a sounder request starts the sounder, restarts it, or is dropped by rank. -/
def requestSound (r : Sound) (s : State) : State :=
  match s.tones.request with
  | none =>
    s.onTones fun t =>
      { t with sounder := t.sounder.start r.increment, request := some r, sounderTimer := some r.duration }
  | some current =>
    if r.rank < current.rank then s
    else
      s.onTones fun t =>
        { t with sounder := t.sounder.retune r.increment, request := some r, sounderTimer := some r.duration }

/-- R40, R45: a CLICK is requested if click is enabled at that moment. -/
def requestClick (s : State) : State := if s.keyboard.click then requestSound .click s else s

/-! ## Line voice (R79) -/

/-- R78, R79: the line voice, which sounds, changes to a tone of the sending pair. -/
def lineTone (tone : Tone) (s : State) : State :=
  s.onTones fun t => { t with line := t.line.retune (lineIncrement s.receiver.channel tone) }

/-! ## Print queue (R118, R119) -/

/-- R6, R119: the print queue has room. -/
def printRoom (s : State) : Bool := s.carriage.queue.length < Config.printQueueCapacity

/-- R119: an entry joins the print queue at its tail; an append to a queue holding 48 entries is not made. -/
def appendPrint (e : PrintEntry) (s : State) : State :=
  if printRoom s then
    (s.onCarriage fun c => { c with queue := c.queue ++ [e] }).onSwitch fun c => { c with freedPlace := false }
  else s

/-- R118: a character is entered with its top bit cleared. -/
def printCode (character : Byte) : BitVec 7 := character.extractLsb' 0 7

/-- R134: whenever the carriage is READY, the queue empty and the consumed-since-idle mark set, PRINT-IDLE is requested and the mark cleared. -/
def judgePrintIdle (s : State) : State :=
  if s.carriage.state = .ready ∧ s.carriage.queue = [] ∧ s.carriage.consumedSinceIdle = true then
    raise .printIdle (s.onCarriage fun c => { c with consumedSinceIdle := false })
  else s

/-- R133: a flush empties the queue and drops the pending operations; the operation in progress is not cut. -/
def flushPrintQueue (s : State) : State :=
  judgePrintIdle
    ((s.onCarriage fun c => { c with queue := [], pending := [] }).onSwitch fun c => { c with freedPlace := false })

/-! ## Flow Controller (R96 to R107) -/

/-- R8, R96: whether the line is DATA or FADE. -/
def LineState.onCall : LineState → Bool
  | .data => true
  | .fade => true
  | _ => false

/-- R89: a cancellation removes the flow code wherever it waits: the request returns to none, a code in the slot is removed. -/
def cancelFlowCode (s : State) : State :=
  s.onTransmitter fun t =>
    { t with
      flowRequest := none
      slot := match t.slot with
        | .flow _ _ => .empty
        | other => other }

def requestFlowCode (kind : FlowCode) (s : State) : State := s.onTransmitter fun t => { t with flowRequest := some kind }

/-- R96: the Flow Controller is active while the outbound flow option is set and the line is DATA or FADE. -/
def flowActive (s : State) : Bool := s.receiver.options.outboundFlow && s.receiver.line.onCall

/-- R97: the print demand after the event. -/
def judgedPrintDemand (s : State) : Bool :=
  flowActive s && s.switch.lineIn.print &&
    (if s.flow.printDemand then Config.printDemandWithdraw < s.carriage.queue.length
     else Config.printDemandHold ≤ s.carriage.queue.length)

/-- R98: the working pause level P. -/
def workingPauseLevel (s : State) : Nat := min s.flow.ringPauseLevel (s.rings.receiveCapacity - 1)

/-- R98: the ring demand after the event. -/
def judgedRingDemand (s : State) : Bool :=
  flowActive s && joinedRing s.switch.lineIn s &&
    (if s.flow.ringDemand then s.rings.receiveFree < min (workingPauseLevel s + 8) s.rings.receiveCapacity
     else s.rings.receiveFree ≤ workingPauseLevel s)

/-- R100, R101: the flow state moves when demand arises. -/
def demandArises (s : State) : State :=
  match s.flow.state with
  | .clear => requestFlowCode .pause (s.onFlow fun f => { f with state := .pausePending })
  | .resumePending => cancelFlowCode (s.onFlow fun f => { f with state := .paused })
  | _ => s

/-- R100, R101: the flow state moves when all demand is withdrawn. -/
def demandWithdrawn (s : State) : State :=
  match s.flow.state with
  | .pausePending => cancelFlowCode (s.onFlow fun f => { f with state := .clear })
  | .paused => requestFlowCode .resume (s.onFlow fun f => { f with state := .resumePending })
  | _ => s

/-- R99: both demands are judged against the values in force after the event; demand arises or is withdrawn as a whole. -/
def judgeDemands (s : State) : State :=
  let print := judgedPrintDemand s
  let ring := judgedRingDemand s
  let before := s.flow.printDemand || s.flow.ringDemand
  let judged := s.onFlow fun f => { f with printDemand := print, ringDemand := ring }
  if before = false ∧ (print || ring) = true then demandArises judged
  else if before = true ∧ (print || ring) = false then demandWithdrawn judged
  else judged

/-- R89: the report that a flow code has started sending. -/
def reportFlowStarted (kind : FlowCode) (s : State) : State :=
  match kind, s.flow.state with
  | .pause, .pausePending => s.onFlow fun f => { f with state := .paused }
  | .resume, .resumePending => s.onFlow fun f => { f with state := .clear }
  | _, _ => s

/-- R104, R105: remote pause is set, and its timer starts or restarts with the timeout period. -/
def setRemotePause (s : State) : State :=
  s.onFlow fun f => { f with remotePause := true, remotePauseTimer := remotePausePeriod f.timeoutCode }

/-- R104: remote pause is cleared and its timer stops. -/
def clearRemotePause (s : State) : State :=
  s.onFlow fun f => { f with remotePause := false, remotePauseTimer := none }

/-! ## Waiting for PRINT (R6) -/

/-- R6: the waiters for a place in the print queue. -/
inductive Waiter where
  | keyboard | sendRing | answerback | feed
deriving DecidableEq, Repr

/-- The character a waiting source has on offer (R1). -/
def offered (source : WaitingSource) (s : State) : Option Byte :=
  match source with
  | .keyboard =>
    match s.translator with
    | .offering character => some character
    | _ => none
  | .sendRing => s.rings.prefetched
  | .answerback => s.answerback.prefetched

/-- Whether a waiter has a character, or a FEED, that waits (R6). -/
def waiterPresent (w : Waiter) (s : State) : Bool :=
  match w with
  | .keyboard => (offered .keyboard s).isSome
  | .sendRing => (offered .sendRing s).isSome
  | .answerback => (offered .answerback s).isSome
  | .feed => s.translator = .feedWait

/-- Whether what the waiter holds goes to PRINT. -/
def waiterPrints (w : Waiter) (s : State) : Bool :=
  match w with
  | .keyboard => s.switch.keyboard.print
  | .sendRing => s.switch.sendRing.print
  | .answerback => s.switch.answerback.print
  | .feed => true

def PrintWaits.get (p : PrintWaits) : Waiter → Option Nat
  | .keyboard => p.keyboard
  | .sendRing => p.sendRing
  | .answerback => p.answerback
  | .feed => p.feed

/-- The latest moment in use. -/
def PrintWaits.latest (p : PrintWaits) : Nat :=
  max (max (p.keyboard.getD 0) (p.sendRing.getD 0)) (max (p.answerback.getD 0) (p.feed.getD 0))

/-- R6: a waiter's wait is counted from the moment it first found the queue full with its present character or FEED; it ends with that character or FEED. -/
def judgedWait (w : Waiter) (s : State) : Option Nat :=
  if waiterPresent w s then
    match s.switch.printWaits.get w with
    | some since => some since
    | none => if waiterPrints w s && !printRoom s then some (s.switch.printWaits.latest + 1) else none
  else none

/-- R6: the waits for PRINT after an event. -/
def judgeWaits (s : State) : State :=
  s.onSwitch fun c =>
    { c with
      printWaits := ⟨judgedWait .keyboard s, judgedWait .sendRing s, judgedWait .answerback s, judgedWait .feed s⟩ }

/-- What every event that touches the queues, the rows or the rings ends with: the waits for PRINT (R6) and the demands of the Flow Controller (R99) are judged on the state the event left. -/
def settle (s : State) : State := judgeWaits (judgeDemands s)

/-! ## Answerback Unit (R108 to R117) -/

/-- R111: a running unit without a prefetched byte and with bytes left requests its next read. -/
def requestAnswerbackRead (s : State) : State :=
  if s.answerback.running = true ∧ s.answerback.prefetched = none ∧ 0 < s.answerback.remaining ∧
      grantLive .answerback s = false then
    requestGrant .answerback s
  else s

/-- R110: how a trigger is judged. -/
inductive TriggerOutcome where
  | taken | refusedEmpty | refusedRunning
deriving DecidableEq, Repr

/-- R110: a trigger is judged against the unit state and the length in force. -/
def judgeTrigger (s : State) : TriggerOutcome :=
  if s.answerback.running then .refusedRunning
  else if s.answerback.length = 0 then .refusedEmpty
  else .taken

/-- R111: a taken trigger starts the run; R110: a refused one changes nothing. -/
def triggerAnswerback (s : State) : State :=
  if judgeTrigger s = .taken then
    requestAnswerbackRead (s.onAnswerback fun a =>
      { a with running := true, pointer := a.base, remaining := a.length, prefetched := none, lastResult := .noResult })
  else s

/-- R113: the abort of a running answerback; an IDLE unit is left as it is. -/
def abortAnswerback (s : State) : State :=
  if s.answerback.running then
    applyDeferred (raise .answerbackEnd (dropRequest .answerback
      (s.onAnswerback fun a => { a with running := false, prefetched := none, lastResult := .aborted })))
  else s

/-- R112: the run ends complete. -/
def completeAnswerback (s : State) : State :=
  applyDeferred (raise .answerbackEnd (s.onAnswerback fun a => { a with running := false, lastResult := .complete }))

/-! ## Command Unit (R176) -/

/-- A command that ends at once leaves its ending result. -/
def setResult (r : CommandResult) (s : State) : State := s.onCommand fun c => { c with result := r }

/-- A command that runs has RUNNING in 02h and is the running command. -/
def startCommand (c : RunningCommand) (s : State) : State :=
  s.onCommand fun u => { u with result := .running, running := some c }

/-- R176: the end of a running command leaves its ending result and raises COMMAND-END; if that command does not run, nothing changes. -/
def endCommand (c : RunningCommand) (r : CommandResult) (s : State) : State :=
  if s.command.running = some c then
    raise .commandEnd (s.onCommand fun u => { u with result := r, running := none })
  else s

end Sys2Proof.Machine
end

