-- ==== Sys2Proof/Machine/LineOps.lean ====
section
/-! DEFINITION. The shared operations of the line: the entries to LISTEN, DATA and IDLE (R50 to R57), breaks and bit boundaries of the Line Transmitter (R84 to R93), and one sample of the Line Receiver with its framer (R61 to R71). -/

namespace Sys2Proof.Machine

/-! ## Entries (R50 to R57) -/

/-- R84: the transmitter leaves OFF for MARK-IDLE; the line voice starts from silence on the sending pair's mark (R79) and the bit clock starts. -/
def startTransmitter (s : State) : State :=
  (s.onTransmitter fun t => { t with state := .markIdle, bitClock := some 0, boundaryDue := false }).onTones fun t =>
    { t with line := t.line.start (lineIncrement s.receiver.channel .mark) }

/-- R50: the entry to LISTEN on the channel in force. -/
def enterListen (s : State) : State :=
  let listening := s.onReceiver fun r =>
    { r with
      line := .listen, carrier := false
      history := List.replicate Config.historyLength 0, window := .acquisition, energy := 0
      listenTimer := some (listenPeriod r.listenCode) }
  if s.receiver.channel = .answer then startTransmitter listening else listening

/-- R53: the entry to DATA from QUALIFY, less the LINE request. -/
def enterData (s : State) : State :=
  let inData := (s.onReceiver fun r =>
    { r with
      line := .data, window := .tracking, listenTimer := none, qualifyTimer := none
      framer := .hunt .space }).onFlow fun f => { f with state := .clear }
  if s.receiver.channel = .originate then startTransmitter inData else inData

/-- R57, R73: the Line Receiver at an entry to IDLE. -/
def receiverToIdle (s : State) : State :=
  s.onReceiver fun r =>
    { r with
      line := .idle, carrier := false, window := .acquisition, framer := .stopped
      listenTimer := none, qualifyTimer := none, fadeTimer := none }

/-- Whether a break is pending, BREAKING or in POST-BREAK (R90). -/
def LineTransmitter.breakBusy (t : LineTransmitter) : Bool :=
  t.breakPending ||
    match t.state with
    | .breaking => true
    | .postBreak _ => true
    | _ => false

/-- R93: a SEND-BREAK whose break is pending or under way ends with REFUSED-STATE and COMMAND-END; a key-requested break ends with no trace. -/
def cutBreak (s : State) : State :=
  if s.transmitter.breakBusy = true ∧ s.transmitter.breakByCommand = true then
    endCommand .sendBreak .refusedState s
  else s

/-- R93: a character in the holding slot is discarded with tx-discarded; a flow code is dropped without it. -/
def discardSlot (s : State) : State :=
  match s.transmitter.slot with
  | .character _ => setTxDiscarded s
  | _ => s

/-- R57, R93: the Line Transmitter at an entry to IDLE. -/
def transmitterToOff (s : State) : State :=
  ((discardSlot (cutBreak s)).onTransmitter fun t =>
    { t with
      state := .off, slot := .empty, shifter := none, flowRequest := none
      breakPending := false, breakByCommand := false
      bitClock := none, boundaryDue := false, breakTimer := none }).onTones fun t =>
    { t with line := t.line.silence }

/-- R57, R103: the Flow Controller at an entry to IDLE. -/
def flowToIdle (s : State) : State :=
  s.onFlow fun f =>
    { f with state := .clear, printDemand := false, ringDemand := false, remotePause := false, remotePauseTimer := none }

/-- R57, R113: a running answerback is aborted if the ANSWERBACK row in force holds LINE-OUT. -/
def answerbackAtIdle (s : State) : State :=
  if s.switch.answerback.lineOut then abortAnswerback s else s

/-- R57: every entry to IDLE, whatever its cause. -/
def enterIdle (s : State) : State := answerbackAtIdle (flowToIdle (transmitterToOff (receiverToIdle s)))

/-! ## Breaks (R90) -/

/-- R90: how a break request is judged. -/
inductive BreakOutcome where
  | taken | refusedBusy | refusedState
deriving DecidableEq, Repr

/-- R90: a break request is judged at its arrival. -/
def judgeBreak (s : State) : BreakOutcome :=
  if s.receiver.line.onCall then (if s.transmitter.breakBusy then .refusedBusy else .taken) else .refusedState

/-- R90: a taken request sets break pending. -/
def requestBreak (byCommand : Bool) (s : State) : State :=
  s.onTransmitter fun t => { t with breakPending := true, breakByCommand := byCommand }

/-! ## Bit boundaries (R84 to R91) -/

/-- The code that the holding slot holds. -/
def Slot.code : Slot → Option Byte
  | .empty => none
  | .character c => some c
  | .flow _ c => some c

/-- R86: the contents of the slot move into the shifter and the frame's first bit, the start bit, begins; R89: the start of a flow code's frame is reported. -/
def startFrame (s : State) : State :=
  match s.transmitter.slot with
  | .empty => s
  | .character c =>
    lineTone .space (s.onTransmitter fun t =>
      { t with state := .sending, slot := .empty, shifter := some ⟨frameBits s.receiver.formatCode c, 0⟩ })
  | .flow kind c =>
    reportFlowStarted kind (lineTone .space (s.onTransmitter fun t =>
      { t with state := .sending, slot := .empty, shifter := some ⟨frameBits s.receiver.formatCode c, 0⟩ }))

/-- R90, R91: the transmitter enters BREAKING: break pending is cleared and the break timer starts with the length in force. -/
def startBreak (s : State) : State :=
  lineTone .space (s.onTransmitter fun t =>
    { t with
      state := .breaking, breakPending := false, shifter := none
      breakTimer := some (breakLength t.breakLengthCode) })

/-- R87: the transmitter enters MARK-IDLE and sends mark. -/
def enterMarkIdle (s : State) : State :=
  lineTone .mark (s.onTransmitter fun t => { t with state := .markIdle, shifter := none })

/-- R86, R91: a frame starts if the slot is full, otherwise MARK-IDLE follows. -/
def frameOrIdle (s : State) : State := if s.transmitter.slot = .empty then enterMarkIdle s else startFrame s

/-- R87, R90: the shifter is free at a boundary: BREAKING, the next frame or MARK-IDLE follows. -/
def afterFrame (s : State) : State := if s.transmitter.breakPending then startBreak s else frameOrIdle s

/-- R91: the end of POST-BREAK: a SEND-BREAK that asked for the break ends DONE, then a frame or MARK-IDLE follows. -/
def endPostBreak (s : State) : State :=
  let ended := if s.transmitter.breakByCommand then endCommand .sendBreak .done s else s
  frameOrIdle (ended.onTransmitter fun t => { t with breakByCommand := false })

/-- R84, R87: whether the bit reached is the last of the frame in the shifter. -/
def Shifting.lastBit (f : Shifting) : Bool := f.bits.length ≤ f.reached + 1

/-- R84: the shifter moves to the next bit and the line voice changes to that bit's tone. -/
def nextBit (f : Shifting) (s : State) : State :=
  lineTone (f.bits.getD (f.reached + 1) .mark)
    (s.onTransmitter fun t => { t with shifter := some { f with reached := f.reached + 1 } })

/-- What happens at a bit boundary, by the transmitter's state. -/
def boundaryEffect (s : State) : State :=
  match s.transmitter.state with
  | .off => s
  | .markIdle =>
    if s.transmitter.breakPending then startBreak s
    else if s.transmitter.slot = .empty then s
    else startFrame s
  | .sending =>
    match s.transmitter.shifter with
    | some f => if f.lastBit then afterFrame s else nextBit f s
    | none => s
  | .breaking => s
  | .postBreak n => if n < 2 then s.onTransmitter fun t => { t with state := .postBreak (n + 1) } else endPostBreak s

/-- R84: a bit boundary that the bit clock has reached is taken. -/
def bitBoundary (s : State) : State :=
  if s.transmitter.boundaryDue then
    settle (boundaryEffect (s.onTransmitter fun t => { t with boundaryDue := false }))
  else s

/-- R87: the boundary that is due closes a frame's last stop bit. -/
def endsFrame (t : LineTransmitter) : Bool :=
  t.boundaryDue && t.state = .sending && ((t.shifter.map Shifting.lastBit).getD false)

/-- R91: the boundary that is due is the third after the break timer's expiry. -/
def endsPostBreak (t : LineTransmitter) : Bool :=
  t.boundaryDue &&
    match t.state with
    | .postBreak n => 2 ≤ n
    | _ => false

/-- R86: a frame starts at the boundary that is due. -/
def startsFrame (t : LineTransmitter) : Bool :=
  t.boundaryDue && (t.state = .markIdle || endsFrame t || endsPostBreak t) && t.slot ≠ .empty && !t.breakPending

/-- R90: a break starts at the boundary that is due. -/
def startsBreak (t : LineTransmitter) : Bool :=
  t.boundaryDue && (t.state = .markIdle || endsFrame t) && t.breakPending

/-- R84: the bit clock counts one period of the sample clock and marks a boundary at the sixteenth. -/
def tickBitClock (s : State) : State :=
  s.onTransmitter fun t =>
    match t.bitClock with
    | none => t
    | some n => if n + 1 < 16 then { t with bitClock := some (n + 1) } else { t with bitClock := some 0, boundaryDue := true }

/-! ## Received frames (R65 to R71) -/

/-- R65: the vote of three decisions. -/
def vote (a b c : Tone) : Tone := if (a = .space ∧ b = .space) ∨ (a = .space ∧ c = .space) ∨ (b = .space ∧ c = .space) then .space else .mark

/-- R65: the three decisions are all the same. -/
def unanimous (a b c : Tone) : Bool := a = b && b = c

/-- R69: a received character with its flags. -/
structure ReceivedFrame where
  character : Byte
  parityError : Bool
  framingError : Bool
  noise : Bool
deriving DecidableEq, Repr

/-- R66: the character of the voted data bits, least significant first. -/
def characterOfBits (bits : List Bool) : Byte := byteOf (bits.foldr (fun b acc => b.toNat + 2 * acc) 0)

/-- R66, R67: what the votes of a frame say under a format. -/
def readFrame (format : Nat) (f : FrameProgress) : ReceivedFrame :=
  let bits := f.votes.map (· == Tone.mark)
  let data := (bits.drop 1).take (formatDataBits format)
  { character := characterOfBits data
    parityError := match parityBit format data with
      | some expected => bits.getD (1 + formatDataBits format) true != expected
      | none => false
    framingError := !bits.getD (stopBitIndex format) true
    noise := f.noise }

/-- R68: start bit, data bits, parity bit and voted stop bit all vote space. -/
def isBreak (f : FrameProgress) : Bool := f.votes.all (· == .space)

/-- R71, R11, R12: a received character is taken as LINE-IN: a print entry or print-overrun, and a receive record. -/
def takeLineIn (f : ReceivedFrame) (s : State) : State :=
  let printed :=
    if s.switch.lineIn.print then
      if printRoom s then
        appendPrint (if f.parityError || f.framingError then .errorGlyph else .character (printCode f.character)) s
      else setPrintOverrun s
    else s
  if joinedRing s.switch.lineIn s then
    offerRecord ⟨.lineCharacter, f.parityError, f.framingError, f.noise, false, f.character⟩ printed
  else printed

/-- R69 to R71: a frame that is not a break is judged at its end. -/
def judgeFrame (f : ReceivedFrame) (s : State) : State :=
  let errorFree := !f.parityError && !f.framingError
  if errorFree && s.receiver.options.inboundFlow && f.character = s.receiver.pauseCode then setRemotePause s
  else if errorFree && s.receiver.options.inboundFlow && f.character = s.receiver.resumeCode then clearRemotePause s
  else if errorFree && s.receiver.options.enqAnswer && f.character = 0x05#8 then triggerAnswerback s
  else takeLineIn f s

/-- R68: the effects of a received break. -/
def receiveBreak (s : State) : State :=
  let raised := raise .breakIn s
  let marked := if joinedRing s.switch.lineIn s then offerRecord (plainRecord .breakMarker 0) raised else raised
  let flushed := if s.receiver.options.breakFlushesPrint then flushPrintQueue marked else marked
  clearRemotePause (abortAnswerback flushed)

/-- What one tone decision does to the framer. -/
inductive FramerStep where
  | continues (next : Framer)
  | frameEnds (next : Framer) (progress : FrameProgress)
  | breakEnds
deriving DecidableEq, Repr

/-- R66: the frame advances by one sample: to the next sample of the bit, or to sample 1 of the next bit. -/
def FrameProgress.advance (f : FrameProgress) : FrameProgress :=
  if f.sample < 16 then { f with sample := f.sample + 1 } else { f with bit := f.bit + 1, sample := 1, early := [] }

/-- R65, R66: the sample just reached is sample 7 or 8, whose decision is kept, or sample 9, at which the bit is voted. -/
def FrameProgress.decide (f : FrameProgress) (tone : Tone) : FrameProgress :=
  if f.sample = 7 ∨ f.sample = 8 then { f with early := f.early ++ [tone] }
  else if f.sample = 9 then
    let a := f.early.getD 0 tone
    let b := f.early.getD 1 tone
    { f with votes := f.votes ++ [vote a b tone], noise := f.noise || !unanimous a b tone }
  else f

/-- R65: the start bit voted mark: a false start. -/
def FrameProgress.falseStart (f : FrameProgress) : Bool := f.bit = 0 && f.sample = 9 && f.votes = [.mark]

/-- R65 to R68: the framer takes one tone decision in DATA. -/
def framerStep (format : Nat) (framer : Framer) (tone : Tone) : FramerStep :=
  match framer with
  | .stopped => .continues .stopped
  | .hunt previous =>
    if previous = .mark ∧ tone = .space then .continues (.frame ⟨0, 1, [], [], false⟩) else .continues (.hunt tone)
  | .breakWait => .continues (if tone = .mark then .hunt .mark else .breakWait)
  | .frame progress =>
    let f := progress.advance.decide tone
    if f.falseStart then .continues (.hunt tone)
    else if f.bit = stopBitIndex format ∧ f.sample = 16 then
      if isBreak f then .breakEnds else .frameEnds (.hunt tone) f
    else .continues (.frame f)

def setFramer (f : Framer) (s : State) : State := s.onReceiver fun r => { r with framer := f }

/-- The framer's advance in DATA with what follows at the end of a frame. -/
def advanceFramer (tone : Tone) (s : State) : State :=
  match framerStep s.receiver.formatCode s.receiver.framer tone with
  | .continues next => setFramer next s
  | .frameEnds next f => judgeFrame (readFrame s.receiver.formatCode f) (setFramer next s)
  | .breakEnds => receiveBreak (setFramer .breakWait s)

/-! ## The received pair (R60) -/

/-- R60: the pair that the channel in force listens for: originate the high pair, answer the low pair. -/
def receivedPair : Channel → TonePair
  | .originate => .high
  | .answer => .low

/-- What the filter tuned to a pair yields. -/
def pairReading (line : LineInput) : TonePair → FilterReading
  | .low => line.low
  | .high => line.high

/-- R60: what the receive filter yields: it is tuned to the received pair of the channel in force. -/
def heard (line : LineInput) (r : LineReceiver) : FilterReading := pairReading line (receivedPair r.channel)

/-! ## One sample (R61, R62) -/

/-- R51, R55: the sample at which the carrier becomes present. -/
def carrierArrives (tone : Tone) (s : State) : State :=
  let present := s.onReceiver fun r => { r with carrier := true }
  match s.receiver.line with
  | .listen => present.onReceiver fun r => { r with line := .qualify, qualifyTimer := some (qualifyPeriod r.qualifyCode) }
  | .fade => advanceFramer tone (present.onReceiver fun r => { r with line := .data, fadeTimer := none, framer := .hunt .mark })
  | _ => present

/-- R51, R54: the sample at which the carrier becomes absent; a frame in progress is abandoned, and in FADE the framer is held in HUNT on mark. -/
def carrierLeaves (s : State) : State :=
  let absent := s.onReceiver fun r => { r with carrier := false }
  match s.receiver.line with
  | .qualify => absent.onReceiver fun r => { r with line := .listen, qualifyTimer := none }
  | .data =>
    absent.onReceiver fun r => { r with line := .fade, fadeTimer := some (fadePeriod r.fadeCode), framer := .hunt .mark }
  | _ => absent

/-- R61: the energy average that a sample forms. -/
def sampleAverage (energy : Byte) (r : LineReceiver) : Nat := energyAverage r.window (pushEnergy energy r.history)

/-- R62: the carrier that a sample leaves. -/
def sampleCarrier (energy : Byte) (r : LineReceiver) : Bool := r.judgeCarrier (sampleAverage energy r)

/-- R61: the sample enters the history, E is formed and the bit clock counts the period. -/
def recordSample (energy : Byte) (s : State) : State :=
  tickBitClock (s.onReceiver fun r =>
    { r with history := pushEnergy energy r.history, energy := sampleAverage energy r })

/-- R61 to R71: one sample of the line: E is formed, the carrier judged, the line state follows the carrier, and in DATA the framer takes the tone decision. While the line is IDLE no samples are taken. -/
def lineSample (energy : Byte) (tone : Tone) (s : State) : State :=
  if s.receiver.line = .idle then s
  else
    let carrier := sampleCarrier energy s.receiver
    let recorded := recordSample energy s
    settle (
      if s.receiver.carrier = false ∧ carrier = true then carrierArrives tone recorded
      else if s.receiver.carrier = true ∧ carrier = false then carrierLeaves recorded
      else if s.receiver.line = .data then advanceFramer tone recorded
      else recorded)

/-- R60, R61: one sample of the line, through the filter tuned to the received pair. -/
def sampleLine (line : LineInput) (s : State) : State :=
  lineSample (heard line s.receiver).energy (heard line s.receiver).tone s

/-- The sample is taken and the carrier becomes present at it. -/
def becomesPresent (line : LineInput) (r : LineReceiver) : Bool :=
  r.line ≠ .idle && !r.carrier && sampleCarrier (heard line r).energy r

/-- The sample is taken and the carrier becomes absent at it. -/
def becomesAbsent (line : LineInput) (r : LineReceiver) : Bool :=
  r.line ≠ .idle && r.carrier && !sampleCarrier (heard line r).energy r

/-- The framer takes the sample's decision with the carrier present before and after it (R66). -/
def framerSamples (line : LineInput) (r : LineReceiver) : Bool :=
  r.line = .data && r.carrier && sampleCarrier (heard line r).energy r

/-- The sample ends a frame that is not a break (R69). -/
def endsReceivedFrame (line : LineInput) (r : LineReceiver) : Bool :=
  framerSamples line r &&
    match framerStep r.formatCode r.framer (heard line r).tone with
    | .frameEnds _ _ => true
    | _ => false

/-- The sample ends a break (R68). -/
def endsReceivedBreak (line : LineInput) (r : LineReceiver) : Bool :=
  framerSamples line r &&
    match framerStep r.formatCode r.framer (heard line r).tone with
    | .breakEnds => true
    | _ => false

end Sys2Proof.Machine
end

