-- ==== Sys2Proof/Machine/Firing.lean ====
section
/-! DEFINITION. The pulse-width computation and the dot grouping of the Dot Firing Unit (R145 to R153): functions of the column inputs, the pattern and the history alone. -/

namespace Sys2Proof.Machine

/-- R145, stage 1: t0 = 400 + 40 × d µs. -/
def baseTime (density : Nat) : Nat := 400 + 40 * density

/-- R145, stage 2: u clamped to 80 to 140. -/
def clampedBattery (u : Nat) : Nat := max 80 (min u 140)

/-- R145, stage 2: t_v = floor(t0 × 14400 / u²). -/
def voltageTime (density u : Nat) : Nat :=
  baseTime density * 14400 / (clampedBattery u * clampedBattery u)

/-- R145, stage 3: 125 − T with T clamped to −10 to +60, a number from 65 to 135. -/
def temperatureFactor (t : Int) : Nat := (125 - max (-10) (min t 60)).toNat

/-- R145, stage 3: t_T = floor(t_v × (125 − T) / 100). -/
def temperatureTime (density u : Nat) (t : Int) : Nat := voltageTime density u * temperatureFactor t / 100

/-- R147: a width is clamped to 100 to 1500 µs. -/
def clampWidth (w : Nat) : Nat := max 100 (min w 1500)

/-- R147: the fresh width. -/
def freshWidthOf (i : ColumnInputs) : Nat := clampWidth (temperatureTime i.density i.battery i.temperature)

/-- R147: the warm width, from t_T before the fresh width's clamp. -/
def warmWidthOf (i : ColumnInputs) : Nat := clampWidth (temperatureTime i.density i.battery i.temperature * 3 / 4)

/-- R149: the effective budget: the setting, at most 2 while u is below 100. -/
def effectiveBudget (setting u : Nat) : Nat := if u < 100 then min setting 2 else setting

/-- The rows of a pattern, ascending, 1 to 7. -/
def rowsOf (pattern : Rows) : List Nat := (List.range 7).filterMap fun i => if pattern.getLsbD i then some (i + 1) else none

/-- The pattern of a list of rows. -/
def patternOf (rows : List Nat) : Rows := rows.foldl (fun acc r => acc ||| BitVec.twoPow 7 (r - 1)) 0

/-- R150: how many groups n dots are cut into under budget b: n / b rounded up. -/
def groupCount (n b : Nat) : Nat := (n + b - 1) / b

/-- R150: the dots of the pattern, in ascending row order, cut into consecutive groups of b dots. -/
def dotGroups (pattern : Rows) (b : Nat) : List Rows :=
  let rows := rowsOf pattern
  (List.range (groupCount rows.length b)).map fun k => patternOf ((rows.drop (k * b)).take b)

/-- R148: the width of a dot's row: warm when the history holds the row, else fresh. -/
def rowWidth (fresh warm : Nat) (history : Rows) (row : Nat) : Nat :=
  if history.getLsbD (row - 1) then warm else fresh

/-- R151: a group lasts the fresh width if it holds any fresh dot, else the warm width. -/
def groupDuration (fresh warm : Nat) (history group : Rows) : Nat :=
  if group &&& ~~~history = 0 then warm else fresh

/-- R153: the strobe time S: the sum of the group durations plus 20 µs for each gap between groups; 0 for an empty pattern. -/
def strobeTime (fresh warm : Nat) (history : Rows) (groups : List Rows) : Nat :=
  (groups.map (groupDuration fresh warm history)).sum + Config.groupGap * (groups.length - 1)

/-- R141, R153: the column period max(5000, 300 + S) when firing begins at the settle expiry. -/
def columnPeriodOf (i : ColumnInputs) (history pattern : Rows) : Nat :=
  max Config.columnPeriod
    (Config.settlePeriod + strobeTime (freshWidthOf i) (warmWidthOf i) history (dotGroups pattern i.budget))

/-- R136: bit 7 of a glyph byte is discarded, bits 0 to 6 are the pattern of rows 1 to 7. -/
def columnPattern (data : Byte) : Rows := data.extractLsb' 0 7

/-- R140: the pattern of column n of a cell; the sixth is blank. -/
def Glyph.column : Glyph → Nat → Rows
  | .held c1 c2 c3 c4 c5, n =>
    match n with
    | 1 => c1
    | 2 => c2
    | 3 => c3
    | 4 => c4
    | 5 => c5
    | _ => 0
  | _, _ => 0

/-- R136: the address of the first byte of the glyph of code c: font base + (c − 20h) × 5. -/
def glyphAddress (fontBase : Addr) (code : BitVec 7) : Addr := fontBase + BitVec.ofNat 16 ((code.toNat - 0x20) * 5)

end Sys2Proof.Machine
end

