-- ==== Sys2Proof/Machine/PrintOps.lean ====
section
/-! DEFINITION. The shared operations of the printer: the handover of a cell and the columns of the Dot Firing Unit (R136 to R155), and the operations, boundaries, halts and home seek of the Carriage Controller (R120 to R135). -/

namespace Sys2Proof.Machine

/-! ## The Dot Firing Unit's columns (R136 to R153) -/

/-- R140, R146: a column step: the column and settle timers start, the column inputs are fixed and the widths computed. -/
def columnStep (column : Nat) (s : State) : State :=
  let inputs : ColumnInputs :=
    ⟨s.dot.density, effectiveBudget s.dot.budget s.sensor.battery, s.sensor.battery, s.sensor.temperature⟩
  s.onDot fun d =>
    { d with
      state := .settle, column := column
      columnTimer := some Config.columnPeriod, settleTimer := some Config.settlePeriod
      inputs := inputs, freshWidth := freshWidthOf inputs, warmWidth := warmWidthOf inputs }

/-- R136: the handover of a cell: the history is emptied, the glyph is requested, and the first column step is made or the back step begins. -/
def handOver (glyph : BitVec 7) (backStep : Bool) (s : State) : State :=
  let requested := requestGrant .font (s.onDot fun d => { d with history := 0, glyph := .requested, code := glyph })
  if backStep then requested.onDot fun d => { d with state := .backStep 0 } else columnStep 1 requested

/-- R143, R155: the unit is IDLE, its history empty and its glyph gone.
R155 discards the glyph at RESTART; DESIGN CHOICE (log 33): the end of a cell discards it too. -/
def dotToIdle (s : State) : State :=
  s.onDot fun d =>
    { d with
      state := .idle, glyph := .absent, history := 0, columnTimer := none, settleTimer := none
      strobes := 0, groups := [], stopping := false }

/-! ## Operations (R121 to R124) -/

/-- R123: the target of a tab motion: the least tab stop greater than p; without one, 79 while p < 79. -/
def tabTarget (p : Nat) (stops : List Nat) : Option Nat :=
  match (stops.filter (p < ·)).min? with
  | some stop => some stop
  | none => if p < 79 then some 79 else none

/-- R123: a motion that prints nothing, 30 ms for each cell. -/
def startMotion (p target : Nat) (s : State) : State :=
  s.onCarriage fun c =>
    { c with state := .moving, target := target, motionTimer := some (30 * (max p target - min p target)) }

/-- R121: the carriage begins an operation from the position as it stands. -/
def beginOperation (op : Operation) (s : State) : State :=
  let p := s.carriage.position.getD 0
  match op with
  | .print glyph => handOver glyph (p = 80) (s.onCarriage fun c => { c with state := .printing })
  | .space => startMotion p (p + 1) s
  | .backspace => startMotion p (p - 1) s
  | .tab => startMotion p ((tabTarget p s.carriage.tabStops).getD p) s
  | .carriageReturn => s.onCarriage fun c => { c with state := .returning, motionTimer := some (40 + 2 * p) }
  | .feed => s.onCarriage fun c => { c with state := .feeding, motionTimer := some 24 }

/-- R122: the operations that print a glyph from position p. -/
def printOperations (glyph : BitVec 7) (p : Nat) (wrap : Bool) : List Operation :=
  if p = 80 ∧ wrap = true then [.carriageReturn, .feed, .print glyph] else [.print glyph]

/-- R122 to R125: the operations of an entry's handling, by its kind and code. -/
def operationsOf (e : PrintEntry) (p : Nat) (wrap crImpliesLf : Bool) (stops : List Nat) : List Operation :=
  match e with
  | .errorGlyph => printOperations 0x7F#7 p wrap
  | .feed => [.feed]
  | .character code =>
    if 0x21 ≤ code.toNat ∧ code.toNat ≤ 0x7E then printOperations code p wrap
    else if code = 0x20#7 then (if p < 80 then [.space] else [])
    else if code = 0x08#7 then (if 0 < p then [.backspace] else [])
    else if code = 0x09#7 then (if (tabTarget p stops).isSome then [.tab] else [])
    else if code = 0x0D#7 then (if crImpliesLf then [.carriageReturn, .feed] else [.carriageReturn])
    else if code = 0x0A#7 then [.feed]
    else []

/-- R125: a BEL entry requests a BELL when its handling begins. -/
def ringBell (e : PrintEntry) (s : State) : State :=
  if e = .character 0x07#7 then requestSound .bell s else s

/-! ## Boundaries and halts (R128 to R130) -/

/-- R128: at least one halt cause is set. -/
def Carriage.anyCause (c : Carriage) : Bool := c.paper || c.hot || c.battery || c.jam

/-- R134: the carriage enters READY, at which PRINT-IDLE may be due. -/
def enterReady (s : State) : State :=
  judgePrintIdle (s.onCarriage fun c => { c with state := .ready, motionTimer := none })

/-- R121, R130: the next pending operation begins, or the carriage enters READY when none remain. -/
def continueEntry (s : State) : State :=
  match s.carriage.pending with
  | [] => enterReady s
  | op :: rest => beginOperation op (s.onCarriage fun c => { c with pending := rest, motionTimer := none })

/-- R121, R130: the end of an operation: HALTED if a halt cause is set, with the pending operations kept. -/
def endOperation (s : State) : State :=
  if s.carriage.anyCause then s.onCarriage fun c => { c with state := .halted, motionTimer := none }
  else continueEntry s

/-- R130: a cause set in READY halts at once; the last cause cleared in HALTED lets the carriage go on. -/
def judgeHalt (s : State) : State :=
  match s.carriage.state with
  | .ready => if s.carriage.anyCause then s.onCarriage fun c => { c with state := .halted } else s
  | .halted => if s.carriage.anyCause then s else continueEntry s
  | _ => s

/-- R128: the causes take new values; each change from clear to set requests PRINT-FAULT. -/
def setCauses (paper hot battery jam : Bool) (s : State) : State :=
  let c := s.carriage
  let changed := s.onCarriage fun c => { c with paper := paper, hot := hot, battery := battery, jam := jam }
  if (paper && !c.paper) || (hot && !c.hot) || (battery && !c.battery) || (jam && !c.jam) then raise .printFault changed
  else changed

/-- R128: HOT after a reading. -/
def judgeHot (before : Bool) (t : Int) : Bool := if 65 ≤ t then true else if t ≤ 55 then false else before

/-- R128: BATTERY after a reading. -/
def judgeBattery (before : Bool) (u : Nat) : Bool := if u < 88 then true else if 94 ≤ u then false else before

/-- R156, R158: a new pair replaces the old, the sample timer restarts, and the Carriage Controller judges HOT and BATTERY. -/
def takeReadings (millivolts : Nat) (millidegrees : Int) (s : State) : State :=
  let u := batteryReading millivolts
  let t := temperatureReading millidegrees
  let read := s.onSensor fun m => { m with battery := u, temperature := t, sampleTimer := some Config.samplePeriod }
  setCauses s.carriage.paper (judgeHot s.carriage.hot t) (judgeBattery s.carriage.battery u) s.carriage.jam read

/-! ## Home seek (R131, R183) -/

/-- R131: the seek's motion and its timer begin. -/
def beginSeek (s : State) : State :=
  s.onCarriage fun c => { c with state := .homeSeek, position := none, stopping := none, seekTimer := some Config.seekPeriod }

/-- R131: the seek finds home: p is 0, the carriage enters READY, or HALTED if a cause is set, and a running RESTART ends DONE. -/
def seekFinds (s : State) : State :=
  endCommand .restart .done
    (endOperation (s.onCarriage fun c => { c with position := some 0, seekTimer := none, stopping := none }))

/-- R131: the seek fails: JAM is set, the carriage enters HALTED with its position undefined, and a running RESTART ends DONE. -/
def seekFails (s : State) : State :=
  endCommand .restart .done
    (setCauses s.carriage.paper s.carriage.hot s.carriage.battery true
      (s.onCarriage fun c => { c with state := .halted, position := none, seekTimer := none, stopping := none }))

/-! ## Cells (R140 to R143, R152) -/

/-- R120, R122: the position after a cell: one further, but 80 after an overstrike at the margin. -/
def positionAfterCell (p : Nat) : Nat := if p = 80 then 80 else p + 1

/-- R141: the dwell of column 6 ends: the unit enters IDLE and the Carriage Controller advances the position.
DESIGN CHOICE (log 33): the glyph is absent from then on; R141 does not say what becomes of it. -/
def endCell (s : State) : State :=
  endOperation ((dotToIdle s).onCarriage fun c => { c with position := c.position.map positionAfterCell })

/-- R141: a dwell ends: the next column step, or the end of the cell. -/
def endDwell (s : State) : State :=
  if s.dot.column < 6 then columnStep (s.dot.column + 1) s else endCell s

/-- R140, R141: DWELL ends at the later of the column timer's expiry and the firing end. -/
def enterDwell (s : State) : State :=
  if s.dot.columnTimer = none then endDwell (s.onDot fun d => { d with state := .dwell })
  else s.onDot fun d => { d with state := .dwell }

/-- R143, R155: the firing of a column ends: the history becomes its pattern, and DWELL follows, or the unit stops if RESTART has come. -/
def endFiring (s : State) : State :=
  if s.dot.stopping then dotToIdle s
  else enterDwell (s.onDot fun d => { d with history := d.glyph.column d.column })

/-- R152: at the start of a group the strobe line of each of its rows is driven at the same moment. -/
def startGroup (s : State) : State :=
  match s.dot.groups with
  | [] => s
  | g :: rest => s.onDot fun d => { d with strobes := g, groups := rest }

/-- R140, R152: firing begins with the first group; an empty pattern fires nothing. -/
def beginFiring (s : State) : State :=
  match dotGroups (s.dot.glyph.column s.dot.column) s.dot.inputs.budget with
  | [] => endFiring s
  | groups => startGroup (s.onDot fun d => { d with state := .firing, groups := groups })

/-- R152: no driven line has a shorter width than the row's, so its own width is the next to elapse. -/
def releasable (d : DotFiring) (row : Nat) : Bool :=
  (rowsOf d.strobes).contains row &&
    (rowsOf d.strobes).all fun r =>
      rowWidth d.freshWidth d.warmWidth d.history row ≤ rowWidth d.freshWidth d.warmWidth d.history r

/-- R152: a dot's strobe line is released; the last release ends the group, and the last group the firing. -/
def releaseStrobe (row : Nat) (s : State) : State :=
  let released := s.onDot fun d => { d with strobes := d.strobes &&& ~~~BitVec.twoPow 7 (row - 1) }
  if released.dot.strobes = 0 ∧ released.dot.groups = [] then endFiring released else released

/-- R155: RESTART at the Dot Firing Unit: the step or firing under way is finished, then the unit stops.
DESIGN CHOICE (log 35): the column timer of a firing that is finished runs on, and stops when the unit stops. -/
def restartDot (s : State) : State :=
  match s.dot.state with
  | .idle => dotToIdle s
  | .settle => dotToIdle s
  | .dwell => dotToIdle s
  | .backStep _ => s.onDot fun d => { d with stopping := true }
  | .firing => s.onDot fun d => { d with stopping := true }

/-! ## Tab stops (R126, R127) -/

/-- R126: a cell added to the set takes its place in ascending order. -/
def insertStop (cell : Nat) : List Nat → List Nat
  | [] => [cell]
  | stop :: rest =>
    if cell < stop then cell :: stop :: rest
    else if cell = stop then stop :: rest
    else stop :: insertStop cell rest

/-- R44, R127: whether a cell may hold a tab stop. -/
def isTabCell (cell : Nat) : Bool := 1 ≤ cell && cell ≤ 79

def addStop (cell : Nat) (s : State) : State := s.onCarriage fun c => { c with tabStops := insertStop cell c.tabStops }
def removeStop (cell : Nat) (s : State) : State := s.onCarriage fun c => { c with tabStops := c.tabStops.filter (· ≠ cell) }
def clearStops (s : State) : State := s.onCarriage fun c => { c with tabStops := [] }

/-- R44, R127: an addition finds room: the cell is in the set already, or the set holds fewer than 16 cells. -/
def stopFits (cell : Nat) (s : State) : Bool :=
  s.carriage.tabStops.contains cell || s.carriage.tabStops.length < Config.tabStopCapacity

end Sys2Proof.Machine
end

