-- ==== Sys2Proof/Machine/KeyOps.lean ====
section
/-! DEFINITION. The shared operations of the keyboard: the scan pass with debounce and ghost hold (R26 to R30), key events (R33, R34), repeat (R35 to R37), the Key Translator (R38 to R40) and the local functions (R41 to R46). -/

namespace Sys2Proof.Machine

/-! ## Debounce and ghost hold (R27, R28) -/

/-- The positions in ascending order. -/
def allPositions : List Position := List.finRange 64

/-- The position of a drive line and a sense line: drive × 8 + sense. -/
def positionAt (drive sense : Fin 8) : Position := ⟨drive.val * 8 + sense.val, by omega⟩

def driveOf (p : Position) : Fin 8 := ⟨p.val / 8, by omega⟩
def senseOf (p : Position) : Fin 8 := ⟨p.val % 8, by omega⟩

/-- R28: the position is the fourth corner of a rectangle whose other three corners are DOWN. -/
def isGhostCorner (states : Vector KeyState 64) (p : Position) : Bool :=
  (List.finRange 8).any fun d =>
    d ≠ driveOf p &&
      (List.finRange 8).any fun c =>
        c ≠ senseOf p && states[positionAt (driveOf p) c] = .down && states[positionAt d (senseOf p)] = .down &&
          states[positionAt d c] = .down

/-- R27: one reading moves a debounce state; `held` is the ghost hold of R28. -/
def debounce (state : KeyState) (down held : Bool) : KeyState :=
  match state, down with
  | .up, true => .pressPending
  | .up, false => .up
  | .pressPending, true => if held then .pressPending else .down
  | .pressPending, false => .up
  | .down, true => .down
  | .down, false => .releasePending
  | .releasePending, true => .down
  | .releasePending, false => .up

/-- R26, R28: one position is decided, against the states as they stand at that point of the pass. -/
def decidePosition (readings : BitVec 64) (states : Vector KeyState 64) (p : Position) : Vector KeyState 64 :=
  states.set p.val (debounce states[p] (readings.getLsbD p.val) (isGhostCorner states p))

/-- R26: the positions are decided in ascending order. -/
def decidePositions (readings : BitVec 64) (states : Vector KeyState 64) : Vector KeyState 64 :=
  allPositions.foldl (decidePosition readings) states

/-- R27: the position becomes DOWN in the pass: the move from PRESS-PENDING to DOWN. -/
def becomesDown (before after : Vector KeyState 64) (p : Position) : Bool :=
  before[p] = .pressPending && after[p] = .down

/-- R35, R37: the position reaches UP in the pass from a held state. -/
def reachesUp (before after : Vector KeyState 64) (p : Position) : Bool :=
  before[p] = .releasePending && after[p] = .up

/-! ## Modifiers (R29) -/

/-- R29: a position named in any role is a modifier position. -/
def Header.isModifier (h : Header) (p : Position) : Bool :=
  h.shiftA = some p || h.shiftB = some p || h.control = some p || h.lock = some p

/-- R29: whether the position that plays a role is DOWN. -/
def roleDown (states : Vector KeyState 64) (role : Option Position) : Bool :=
  match role with
  | some p => states[p] = KeyState.down
  | none => false

/-! ## The key queue and the translator (R34, R38) -/

/-- R38: an event joining the queue of an IDLE translator starts its fetch. -/
def wakeTranslator (s : State) : State :=
  if s.translator = .idle ∧ s.keyboard.queue ≠ [] then
    enqueueKeymap .translation (s.onTranslator fun _ => .fetching)
  else s

/-- R34: an event joins the queue at its tail. -/
def joinQueue (e : KeyEvent) (s : State) : State :=
  wakeTranslator (s.onKeyboard fun k => { k with queue := k.queue ++ [e] })

/-- R34: the key queue has room. -/
def keyRoom (s : State) : Bool := s.keyboard.queue.length < Config.keyQueueCapacity

/-- R34: a PRESS offered to a full queue is lost: key-lost is set and a CHIRP requested. -/
def offerPress (e : KeyEvent) (s : State) : State :=
  if keyRoom s then joinQueue e s else requestSound .chirp (setKeyLost s)

/-- R36: a REPEAT offered to a full queue is skipped. -/
def offerRepeat (e : KeyEvent) (s : State) : State := if keyRoom s then joinQueue e s else s

/-- The event of a position with the modifier values left by the most recent pass (R33, R36). -/
def eventOf (p : Position) (k : Keyboard) : KeyEvent := ⟨p, k.passShift, k.passControl, k.lock⟩

/-- R38: the translator finishes with an event: it leaves the queue, and the next event, if any, is fetched. -/
def finishEvent (s : State) : State :=
  wakeTranslator ((s.onKeyboard fun k => { k with queue := k.queue.tail }).onTranslator fun _ => .idle)

/-! ## Repeat (R35 to R37) -/

/-- R37: repeat ends: the repeat key becomes none and the timer stops. -/
def endRepeat (s : State) : State := s.onKeyboard fun k => { k with repeatKey := none, repeatTimer := none }

/-- R35: the reads still to complete for a position are discarded. -/
def EligibilityPass.discardPosition (up : Position → Bool) (e : EligibilityPass) : EligibilityPass :=
  { e with outstanding := e.outstanding.map fun r => { r with discarded := r.discarded || up r.position } }

/-- R29, R35: a position that the pass treats as a modifier is no candidate for the repeat key: the reads still to complete for it are discarded, and a read that has completed no longer counts. -/
def EligibilityPass.dropModifiers (modifier : Position → Bool) (e : EligibilityPass) : EligibilityPass :=
  { e.discardPosition modifier with eligible := e.eligible.filter fun p => !modifier p }

/-- R37: reads already requested complete and their results are discarded. -/
def EligibilityPass.discardAll (e : EligibilityPass) : EligibilityPass :=
  ⟨e.outstanding.map fun r => { r with discarded := true }, []⟩

/-- R37: clearing repeat enable ends repeat at once and stops all eligibility reads. -/
def disableRepeat (s : State) : State :=
  endRepeat (s.onKeyboard fun k => { k with eligibility := k.eligibility.map EligibilityPass.discardAll })

/-- R35: a read is requested for each position of the pass. -/
def requestEligibility (positions : List Position) (s : State) : State :=
  if positions = [] then s
  else
    positions.foldl (fun acc p => enqueueKeymap (.eligibility p) acc)
      (s.onKeyboard fun k => { k with eligibility := k.eligibility ++ [⟨positions.map fun p => ⟨p, false⟩, []⟩] })

/-- R35: the plain-layer code is a character or the FEED function. -/
def isRepeatCode (code : Byte) : Bool := (1 ≤ code.toNat && code.toNat ≤ 0x7F) || code = 0x86#8

/-- R35: the read of a position completes in the first pass that waits for it. -/
def completeEligibility (p : Position) (code : Byte) : List EligibilityPass → List EligibilityPass
  | [] => []
  | e :: rest =>
    match e.outstanding.find? (·.position = p) with
    | none => e :: completeEligibility p code rest
    | some r =>
      { outstanding := e.outstanding.eraseP (·.position = p)
        eligible := if !r.discarded && isRepeatCode code then e.eligible ++ [p] else e.eligible } :: rest

/-- The highest of some positions. -/
def highestPosition (positions : List Position) : Option Position :=
  positions.foldl (fun best p => match best with
    | none => some p
    | some b => if b.val < p.val then some p else some b) none

/-- R35, R36: when all reads of the first pass have completed, its highest eligible position becomes the repeat key and the timer starts with the delay.
A position that a pass since has treated as a modifier is no longer among them (R29); a change of the header copy that no pass has followed does not count yet.
DESIGN CHOICE (log 21): a position that reached UP after its own read completed is chosen all the same; R35 discards only a read that has not completed when its position reaches UP. -/
def chooseRepeat (s : State) : State :=
  match s.keyboard.eligibility with
  | [] => s
  | e :: rest =>
    if e.outstanding = [] then
      match highestPosition e.eligible with
      | none => s.onKeyboard fun k => { k with eligibility := rest }
      | some p =>
        s.onKeyboard fun k =>
          { k with eligibility := rest, repeatKey := some p, repeatTimer := some (repeatDelay k.delayCode) }
    else s

/-! ## The scan pass (R26 to R37) -/

/-- R37: at a pass, repeat ends when the repeat key is UP or has become a modifier position.
DESIGN CHOICE (log 21): a repeat key that was chosen while UP, and that this pass reads down, stands in PRESS-PENDING and keeps the repeat. -/
def judgeRepeatKey (s : State) : State :=
  match s.keyboard.repeatKey with
  | none => s
  | some p => if s.keyboard.positions[p] = KeyState.up || s.keyboard.header.isModifier p then endRepeat s else s

/-- R26: one scan pass: all positions are decided, the lock toggles, the modifier values are formed, the key events are offered in ascending order, repeat is judged and the eligibility reads are requested. -/
def scanPass (readings : BitVec 64) (s : State) : State :=
  let before := s.keyboard.positions
  let after := decidePositions readings before
  let header := s.keyboard.header
  let lockPressed := (header.lock.map (becomesDown before after)).getD false
  let decided := s.onKeyboard fun k =>
    { k with
      positions := after
      lock := k.lock != lockPressed
      passShift := roleDown after header.shiftA || roleDown after header.shiftB
      passControl := roleDown after header.control
      scanTimer := some Config.scanPeriod
      eligibility := k.eligibility.map fun e =>
        (e.discardPosition (reachesUp before after)).dropModifiers header.isModifier }
  let pressed := allPositions.filter fun p => becomesDown before after p && !header.isModifier p
  let offeredAll := pressed.foldl (fun acc p => offerPress (eventOf p decided.keyboard) acc) decided
  let judged := judgeRepeatKey offeredAll
  if s.keyboard.repeatEnable then requestEligibility pressed judged else judged

/-- R36: at each expiry a DOWN repeat key offers a REPEAT event; the timer restarts with the interval.
DESIGN CHOICE (log 21): R36 speaks of a repeat key that is DOWN or RELEASE-PENDING; one in PRESS-PENDING or UP offers nothing, and the timer restarts all the same. -/
def repeatExpiry (s : State) : State :=
  let offered := match s.keyboard.repeatKey with
    | some p => if s.keyboard.positions[p] = KeyState.down then offerRepeat (eventOf p s.keyboard) s else s
    | none => s
  offered.onKeyboard fun k => { k with repeatTimer := some (repeatInterval k.rateCode) }

/-! ## Header (R31, R32) -/

/-- R31: the four bytes of a load replace the header copy together. -/
def loadHeader (b0 b1 b2 b3 : Byte) (s : State) : State :=
  s.onKeyboard fun k => { k with header := ⟨headerPosition b0, headerPosition b1, headerPosition b2, headerPosition b3⟩ }

/-- R32: a written header byte is stored in the matching entry of the header copy. -/
def captureHeader (entry : HeaderEntry) (data : Byte) (s : State) : State :=
  s.onKeyboard fun k => { k with header := k.header.set entry (headerPosition data) }

/-- R31: a header load is requested: a running load's bytes will be discarded, a waiting load is replaced by one from the base in force. -/
def requestHeaderLoad (s : State) : State :=
  let discarded := match s.arbiter.grant with
    | some (.headerLoad a _) => s.onArbiter fun r => { r with grant := some (.headerLoad a true) }
    | _ => s
  if s.arbiter.keymapQueue.contains .headerLoad then discarded else enqueueKeymap .headerLoad discarded

/-! ## Translation (R38 to R40) -/

/-- R38: layer 2 if control is true, otherwise 1 if shift is true, otherwise 0. -/
def KeyEvent.layer (e : KeyEvent) : Nat := if e.control then 2 else if e.shift then 1 else 0

/-- R38: the address of an event's code. -/
def translationAddress (base : Addr) (e : KeyEvent) : Addr := base + BitVec.ofNat 16 (4 + e.layer * 64 + e.position.val)

/-- R35: the address of a position's plain-layer code. -/
def eligibilityAddress (base : Addr) (p : Position) : Addr := base + BitVec.ofNat 16 (4 + p.val)

/-- R39: in layer 0 with lock set, 61h to 7Ah are used less 20h. -/
def lockAdjusted (e : KeyEvent) (code : Byte) : Byte :=
  if e.lock = true ∧ e.layer = 0 ∧ 0x61 ≤ code.toNat ∧ code.toNat ≤ 0x7A then code - 0x20#8 else code

/-- R39, R41: the classes of a code. -/
inductive KeyCode where
  | blank
  | character (code : Byte)
  | breakKey | lineLocal | hereIs | tabSet | tabClear | tabClearAll | feed | duplex | click
deriving DecidableEq, Repr

/-- R39, R41: a code is classified; 89h to 8Fh are discarded like a blank. -/
def classify (code : Byte) : KeyCode :=
  match code.toNat with
  | 0x80 => .breakKey
  | 0x81 => .lineLocal
  | 0x82 => .hereIs
  | 0x83 => .tabSet
  | 0x84 => .tabClear
  | 0x85 => .tabClearAll
  | 0x86 => .feed
  | 0x87 => .duplex
  | 0x88 => .click
  | n => if 1 ≤ n ∧ n ≤ 0x7F then .character code else .blank

/-! ## Local functions (R41 to R46) -/

/-- R41: before the function acts, a record of kind 3 is offered if KEYBOARD is joined to RECEIVE RING. -/
def recordFunction (code : Byte) (s : State) : State :=
  if joinedRing s.switch.keyboard s then offerRecord (plainRecord .keyboardFunction code) s else s

/-- R42: BREAK asks for a break; a refused request sounds a CHIRP. -/
def breakFunction (s : State) : State :=
  if judgeBreak s = .taken then requestBreak false s else requestSound .chirp s

/-- R42: LINE/LOCAL: the line change first, the preset second. DESIGN CHOICE (log 34): an IDLE line goes to LISTEN while RESTART runs too, where R183 says that the line stays IDLE and that keys are translated. -/
def lineLocalFunction (s : State) : State :=
  if s.receiver.line = .idle then applyPreset s.keyboard.onlinePreset.toPreset (enterListen s)
  else applyPreset .localMode (raiseLine .operatorOff (enterIdle s))

/-- R43: HERE-IS is an answerback trigger; a refused one sounds a CHIRP. -/
def hereIsFunction (s : State) : State :=
  if judgeTrigger s = .taken then triggerAnswerback s else requestSound .chirp s

/-- R44: TAB SET adds p to the set, or sounds a CHIRP. -/
def tabSetFunction (s : State) : State :=
  match s.carriage.position with
  | some p => if isTabCell p && stopFits p s then addStop p s else requestSound .chirp s
  | none => requestSound .chirp s

/-- R44: TAB CLEAR removes p from the set. -/
def tabClearFunction (s : State) : State :=
  match s.carriage.position with
  | some p => removeStop p s
  | none => s

/-- R46: DUPLEX toggles the on-line preset, and applies it in DATA or FADE. -/
def duplexFunction (s : State) : State :=
  let preset := s.keyboard.onlinePreset.toggle
  let toggled := s.onKeyboard fun k => { k with onlinePreset := preset }
  if s.receiver.line.onCall then applyPreset preset.toPreset toggled else toggled

/-- R46: CLICK toggles click enable. -/
def clickFunction (s : State) : State := s.onKeyboard fun k => { k with click := !k.click }

/-- R45: at the append of a FEED the function record is offered, the entry joins the queue, a CLICK is requested and the event leaves the key queue. -/
def appendFeed (s : State) : State := finishEvent (requestClick (appendPrint .feed (recordFunction 0x86#8 s)))

/-- R45: FEED is appended, or waits in FEED-WAIT while the print queue is full. -/
def feedFunction (s : State) : State := if printRoom s then appendFeed s else s.onTranslator fun _ => .feedWait

/-- R39: the byte used is acted on: discarded, offered, or run as a local function. -/
def actOnCode (code : Byte) (s : State) : State :=
  match classify code with
  | .blank => finishEvent s
  | .character c => s.onTranslator fun _ => .offering c
  | .breakKey => finishEvent (breakFunction (recordFunction code s))
  | .lineLocal => finishEvent (lineLocalFunction (recordFunction code s))
  | .hereIs => finishEvent (hereIsFunction (recordFunction code s))
  | .tabSet => finishEvent (tabSetFunction (recordFunction code s))
  | .tabClear => finishEvent (tabClearFunction (recordFunction code s))
  | .tabClearAll => finishEvent (clearStops (recordFunction code s))
  | .feed => feedFunction s
  | .duplex => finishEvent (duplexFunction (recordFunction code s))
  | .click => finishEvent (clickFunction (recordFunction code s))

/-- R39: a completed translation read acts on the event at the head of the key queue. -/
def translate (data : Byte) (s : State) : State :=
  match s.keyboard.queue with
  | [] => s
  | e :: _ => actOnCode (lockAdjusted e data) s

end Sys2Proof.Machine
end

