-- ==== Sys2Proof/Machine/Setup.lean ====
section
/-! DEFINITION. What each owner does with a byte written to one of its setup fields (R167): takes it, clamps it, or refuses it with setup-refused. -/

namespace Sys2Proof.Machine

/-! ## Rings (R24) -/

/-- R24: the receive ring is idle when its occupancy is 0 and its staging queue is empty. -/
def receiveIdle (r : Rings) : Bool := r.receiveOccupancy = 0 && r.staged = []

/-- R24: the send ring is idle when its occupancy is 0. -/
def sendIdle (r : Rings) : Bool := r.sendOccupancy = 0

/-- R24: a receive placement write to an idle ring is taken: both indices become 0 and the loss mark is cleared; otherwise it is refused. -/
def placeReceive (f : Rings → Rings) (s : State) : State :=
  if receiveIdle s.rings then
    s.onRings fun r => { f r with receiveHead := 0, receiveTail := 0, lossMark := false }
  else setSetupRefused s

/-- R24: a send placement write to an idle ring is taken and both indices become 0; otherwise it is refused. -/
def placeSend (f : Rings → Rings) (s : State) : State :=
  if sendIdle s.rings then s.onRings fun r => { f r with sendHead := 0, sendTail := 0 } else setSetupRefused s

/-- R14, R21, R24: the six placement bytes; size codes are clamped to 4 and to 5. -/
def writeRingPlacement (byte : RingByte) (data : Byte) (s : State) : State :=
  match byte with
  | .receiveBaseLow => placeReceive (fun r => { r with receiveBase := setHalf .low data r.receiveBase }) s
  | .receiveBaseHigh => placeReceive (fun r => { r with receiveBase := setHalf .high data r.receiveBase }) s
  | .receiveSize => placeReceive (fun r => { r with receiveSize := clamp 0 4 data.toNat }) s
  | .sendBaseLow => placeSend (fun r => { r with sendBase := setHalf .low data r.sendBase }) s
  | .sendBaseHigh => placeSend (fun r => { r with sendBase := setHalf .high data r.sendBase }) s
  | .sendSize => placeSend (fun r => { r with sendSize := clamp 0 5 data.toNat }) s

/-- R20: the notify level, 1 to 127. -/
def writeNotifyLevel (data : Byte) (s : State) : State := s.onRings fun r => { r with notifyLevel := clamp 1 127 data.toNat }

/-- R23: the room level, 0 to 255. -/
def writeRoomLevel (data : Byte) (s : State) : State := s.onRings fun r => { r with roomLevel := data.toNat }

/-- R98: the ring pause level, 1 to 126. -/
def writeRingPauseLevel (data : Byte) (s : State) : State :=
  s.onFlow fun f => { f with ringPauseLevel := clamp 1 126 data.toNat }

/-! ## Keyboard (R31, R36, R47) -/

/-- R31: each write to a key-map base byte is taken and requests a header load. -/
def writeKeymapBase (half : Half) (data : Byte) (s : State) : State :=
  requestHeaderLoad (s.onKeyboard fun k => { k with keymapBase := setHalf half data k.keymapBase })

/-- R36, R170: the repeat delay code and repeat rate code, each clamped to 3. -/
def writeRepeatCodes (data : Byte) (s : State) : State :=
  s.onKeyboard fun k => { k with delayCode := clamp 0 3 (field data 0 4), rateCode := clamp 0 3 (field data 4 4) }

/-- R47: click enable, repeat enable and the on-line preset are taken at once; clearing repeat enable ends repeat (R37). -/
def writeKeyboardOptions (data : Byte) (s : State) : State :=
  let taken := s.onKeyboard fun k =>
    { k with
      click := data.getLsbD 0, repeatEnable := data.getLsbD 1
      onlinePreset := onlinePresetOfBit (data.getLsbD 2) }
  if data.getLsbD 1 then taken else disableRepeat taken

/-! ## Line (R58, R62, R64, R72, R76, R91, R105) -/

/-- R64: the line setup byte is taken while the line is IDLE, otherwise refused. -/
def writeLineSetup (data : Byte) (s : State) : State :=
  if s.receiver.line = .idle then
    s.onReceiver fun r =>
      { r with
        channel := channelOfBit (data.getLsbD 0)
        rateCode := clamp 0 3 (field data 1 3)
        formatCode := field data 4 3 }
  else setSetupRefused s

/-- R72: the five line options are taken at once; R104: clearing inbound flow clears remote pause. -/
def writeLineOptions (data : Byte) (s : State) : State :=
  let taken := s.onReceiver fun r => { r with options := optionsOfByte data }
  if data.getLsbD 0 then taken else clearRemotePause taken

def writeOnThreshold (data : Byte) (s : State) : State := s.onReceiver fun r => { r with onThreshold := data }
def writeOffThreshold (data : Byte) (s : State) : State := s.onReceiver fun r => { r with offThreshold := data }
def writeQualifyCode (data : Byte) (s : State) : State := s.onReceiver fun r => { r with qualifyCode := clamp 1 25 data.toNat }
def writeFadeCode (data : Byte) (s : State) : State := s.onReceiver fun r => { r with fadeCode := clamp 1 15 data.toNat }
def writeListenCode (data : Byte) (s : State) : State := s.onReceiver fun r => { r with listenCode := clamp 1 12 data.toNat }
def writeBreakLength (data : Byte) (s : State) : State :=
  s.onTransmitter fun t => { t with breakLengthCode := clamp 0 3 data.toNat }
def writeTimeoutCode (data : Byte) (s : State) : State := s.onFlow fun f => { f with timeoutCode := clamp 0 12 data.toNat }

/-- R76: bits 0 to 3 are the line level, bits 4 to 7 the sounder level. -/
def writeLevels (data : Byte) (s : State) : State :=
  s.onTones fun t => { t with lineLevel := data.extractLsb' 0 4, sounderLevel := data.extractLsb' 4 4 }

def writePauseCode (data : Byte) (s : State) : State := s.onReceiver fun r => { r with pauseCode := data }
def writeResumeCode (data : Byte) (s : State) : State := s.onReceiver fun r => { r with resumeCode := data }

/-! ## Printer (R144) -/

def writeFontBase (half : Half) (data : Byte) (s : State) : State :=
  s.onDot fun d => { d with fontBase := setHalf half data d.fontBase }
def writeDensity (data : Byte) (s : State) : State := s.onDot fun d => { d with density := clamp 0 7 data.toNat }
def writeBudget (data : Byte) (s : State) : State := s.onDot fun d => { d with budget := clamp 1 7 data.toNat }

/-! ## Answerback (R108, R115) -/

/-- R115: with the lock set and a length in force of 1 or more, the answerback setup writes are refused. -/
def answerbackFixed (s : State) : Bool := s.passage.answerbackLock && s.answerback.length ≠ 0

/-- R108: the base bytes and the length, clamped to 32. -/
def writeAnswerbackSetup (byte : AnswerbackByte) (data : Byte) (s : State) : State :=
  if answerbackFixed s then setSetupRefused s
  else
    match byte with
    | .baseLow => s.onAnswerback fun a => { a with base := setHalf .low data a.base }
    | .baseHigh => s.onAnswerback fun a => { a with base := setHalf .high data a.base }
    | .length => s.onAnswerback fun a => { a with length := clamp 0 Config.answerbackMaxLength data.toNat }

/-! ## Fields of the Bus Passage Unit -/

def writeOperand (data : Byte) (s : State) : State := s.onPassage fun p => { p with operand := data }

/-- R169: a write to 3Eh with bit 7 at 1 clears command-overrun. -/
def writeRefusedCause (data : Byte) (s : State) : State :=
  s.onPassage fun p => { p with commandOverrun := p.commandOverrun && !data.getLsbD 7 }

end Sys2Proof.Machine
end

