-- ==== Sys2Proof/Machine/CommandOps.lean ====
section
/-! DEFINITION. The effect of each command code at its taking (R176 to R183), RESTART block by block as the table of R182 gives it. -/

namespace Sys2Proof.Machine

/-- R178: a line-on command: in IDLE the channel is written and LISTEN entered; otherwise REFUSED-STATE. -/
def lineOnEffect (channel : Channel) (s : State) : State :=
  if s.receiver.line = .idle then setResult .done (enterListen (s.onReceiver fun r => { r with channel := channel }))
  else setResult .refusedState s

/-- R178, R56: LINE-OFF enters IDLE with no cause recorded; from IDLE it makes no entry. -/
def lineOffEffect (s : State) : State := setResult .done (if s.receiver.line = .idle then s else enterIdle s)

/-- R179: SEND-BREAK hands a break request to the Line Transmitter. -/
def sendBreakEffect (s : State) : State :=
  match judgeBreak s with
  | .taken => startCommand .sendBreak (requestBreak true s)
  | .refusedBusy => setResult .refusedBusy s
  | .refusedState => setResult .refusedState s

/-- R180: SEND-ANSWERBACK is an answerback trigger. -/
def sendAnswerbackEffect (s : State) : State :=
  match judgeTrigger s with
  | .taken => setResult .done (triggerAnswerback s)
  | .refusedRunning => setResult .refusedBusy s
  | .refusedEmpty => setResult .refusedState s

/-- R180: SET-MODE applies the preset the operand names. -/
def setModeEffect (s : State) : State :=
  match presetOfOperand s.passage.operand with
  | some p => setResult .done (applyPreset p s)
  | none => setResult .badOperand s

/-- R181: FLUSH-PRINT. -/
def flushPrintEffect (s : State) : State := setResult .done (flushPrintQueue s)

/-- R181: FEED-LINE appends a FEED entry, or ends REFUSED-BUSY with 48 entries. -/
def feedLineEffect (s : State) : State :=
  if printRoom s then setResult .done (appendPrint .feed s) else setResult .refusedBusy s

/-- R127: SET-TAB. -/
def setTabEffect (s : State) : State :=
  let cell := s.passage.operand.toNat
  if isTabCell cell then
    if stopFits cell s then setResult .done (addStop cell s) else setResult .refusedState s
  else setResult .badOperand s

/-- R127: CLEAR-TAB. -/
def clearTabEffect (s : State) : State :=
  let cell := s.passage.operand.toNat
  if isTabCell cell then setResult .done (removeStop cell s) else setResult .badOperand s

/-- R127: CLEAR-ALL-TABS. -/
def clearAllTabsEffect (s : State) : State := setResult .done (clearStops s)

/-! ## RESTART (R182) -/

/-- R25: the Ring Unit at RESTART. -/
def restartRings (s : State) : State :=
  dropRequest .sendRing (dropRequest .receiveWriter (s.onRings fun r =>
    { r with
      receiveHead := 0, receiveTail := 0, sendHead := 0, sendTail := 0
      staged := [], lossMark := false, prefetched := none }))

/-- R48: a running translation read completes with its byte discarded. -/
def discardTranslation (s : State) : State :=
  match s.arbiter.grant with
  | some (.translation a _) => s.onArbiter fun r => { r with grant := some (.translation a true) }
  | _ => s

/-- R48: the key queue is emptied and the translator IDLE; its waiting read is cancelled. -/
def restartKeyboard (s : State) : State :=
  discardTranslation (cancelTranslation ((s.onKeyboard fun k => { k with queue := [] }).onTranslator fun _ => .idle))

/-- R83: the sounder's request is dropped, its timer stopped and the voice SILENT; the line voice is silenced by the entry to IDLE. -/
def restartTones (s : State) : State :=
  s.onTones fun t => { t with sounder := t.sounder.silence, request := none, sounderTimer := none }

/-- R183: the operation that RESTART must let finish its step, if there is one. -/
def operationUnderWay (c : Carriage) : Option CarriageState :=
  match c.state with
  | .printing => some .printing
  | .moving => some .moving
  | .returning => some .returning
  | .feeding => some .feeding
  | _ => none

/-- R135, R182, R183: the Carriage Controller at RESTART: HOME-SEEK, with the seek begun at once unless an operation is under way; the causes are judged afresh without PRINT-FAULT. -/
def restartCarriage (s : State) : State :=
  (s.onCarriage fun c =>
    { c with
      queue := [], pending := [], state := .homeSeek, position := none
      paper := !s.pins.paper, hot := judgeHot false s.sensor.temperature, battery := judgeBattery false s.sensor.battery
      jam := false, paperTimer := none, motionTimer := none, consumedSinceIdle := false
      stopping := (operationUnderWay c).or c.stopping
      seekTimer := if (operationUnderWay c).or c.stopping = none then some Config.seekPeriod else none }).onSwitch fun c =>
    { c with freedPlace := false }

/-- R155, R174: the Dot Firing Unit at RESTART, with its glyph fetch dropped. -/
def restartFiring (s : State) : State := restartDot (dropRequest .font s)

/-- R182: the last effect of the taking: the sticky flags, command-overrun, the requests, the several-changes mark and the in-service stack are cleared. -/
def restartClears (s : State) : State :=
  ((s.onStatus fun _ => ⟨false, false, false, false, false, false⟩).onPassage fun p =>
    { p with commandOverrun := false }).onAttention fun t => { t with flags := 0, stack := [], severalChanges := false }

/-- R182: RESTART at its taking. -/
def restartEffect (s : State) : State :=
  restartClears (restartFiring (restartCarriage (restartTones (restartKeyboard (restartRings
    (abortAnswerback (enterIdle (startCommand .restart s))))))))

/-! ## Taking a command (R176) -/

/-- R176: the code becomes the last command, and the command is judged. A code outside the table has result UNKNOWN and no other effect. -/
def takeCommand (code : Byte) (s : State) : State :=
  let taken := s.onCommand fun c => { c with last := code }
  match code.toNat with
  | 0x01 => lineOnEffect .originate taken
  | 0x02 => lineOnEffect .answer taken
  | 0x03 => lineOffEffect taken
  | 0x04 => sendBreakEffect taken
  | 0x05 => sendAnswerbackEffect taken
  | 0x06 => setModeEffect taken
  | 0x07 => flushPrintEffect taken
  | 0x08 => feedLineEffect taken
  | 0x09 => setTabEffect taken
  | 0x0A => clearTabEffect taken
  | 0x0B => clearAllTabsEffect taken
  | 0x0C => restartEffect taken
  | _ => setResult .unknown taken

end Sys2Proof.Machine
end

