-- ==== Sys2Proof/Machine/ControlBlock.lean ====
section
/-! DEFINITION. The control block as the host reads it: the layout of R170, each offset answered from the part's own state (R166). The table has a row for the read of 04h alone; every other read changes nothing, so it is this function and no command. -/

namespace Sys2Proof.Machine

def CommandResult.code : CommandResult → Nat
  | .noResult => 0
  | .done => 1
  | .running => 2
  | .refusedBusy => 3
  | .refusedState => 4
  | .unknown => 5
  | .badOperand => 6

def LineState.code : LineState → Nat
  | .idle => 0
  | .listen => 1
  | .qualify => 2
  | .data => 3
  | .fade => 4

def LineCause.code : LineCause → Nat
  | .noCause => 0
  | .qualified => 1
  | .noAnswer => 2
  | .carrierLost => 3
  | .operatorOff => 4

def CarriageState.code : CarriageState → Nat
  | .homeSeek => 0
  | .ready => 1
  | .printing => 2
  | .moving => 3
  | .returning => 4
  | .feeding => 5
  | .halted => 6

def RefusedCause.code : RefusedCause → Nat
  | .noCause => 0
  | .answerbackLock => 1
  | .keymapLock => 2
  | .commandBusy => 3

def AnswerbackResult.code : AnswerbackResult → Nat
  | .noResult => 0
  | .complete => 1
  | .aborted => 2

/-- R168, R170: the status byte. -/
def statusByte (s : State) : Byte :=
  flagBit s.status.setupRefused 0 ||| flagBit s.status.keyLost 1 ||| flagBit s.status.txDiscarded 2
    ||| flagBit s.status.printOverrun 3 ||| flagBit s.status.ringLoss 4 ||| flagBit s.status.sendOverflow 5
    ||| flagBit s.flow.remotePause 6 ||| flagBit s.flow.flowPaused 7

/-- R189: the in-service stack: the depth, the group of the lower entry and the group of the upper entry. -/
def stackByte (stack : List ServiceGroup) : Byte :=
  let bottomFirst := stack.reverse
  byteOf stack.length ||| flagBit (bottomFirst[0]? = some .urgent) 2 ||| flagBit (bottomFirst[1]? = some .urgent) 3

/-- A ten-bit field as two bytes; bits 10 to 15 read 0 (R185, R186). -/
def tenBitByte (half : Half) (value : BitVec 10) : Byte :=
  match half with
  | .low => value.extractLsb' 0 8
  | .high => 0#6 ++ value.extractLsb' 8 2

/-- R190: the line cause and the several-changes mark. -/
def lineCauseByte (t : Attention) : Byte := byteOf t.lineCause.code ||| flagBit t.severalChanges 7

/-- R64, R170: the line setup byte. -/
def lineSetupByte (r : LineReceiver) : Byte :=
  flagBit (r.channel = .answer) 0 ||| byteOf (r.rateCode * 2) ||| byteOf (r.formatCode * 16)

/-- R47, R170: the keyboard options byte. -/
def keyboardOptionsByte (k : Keyboard) : Byte :=
  flagBit k.click 0 ||| flagBit k.repeatEnable 1 ||| flagBit (k.onlinePreset = .half) 2

/-- R120: the carriage position, FFh while it is undefined. -/
def positionByte (c : Carriage) : Byte := match c.position with
  | some p => byteOf p
  | none => 0xFF#8

/-- R120, R170: the carriage state and the four halt causes. -/
def carriageByte (c : Carriage) : Byte :=
  byteOf c.state.code ||| flagBit c.paper 3 ||| flagBit c.hot 4 ||| flagBit c.battery 5 ||| flagBit c.jam 6

/-- R161, R169, R170: the refused cause and command-overrun. -/
def refusedByte (p : BusPassage) : Byte := byteOf p.refusedCause.code ||| flagBit p.commandOverrun 7

/-- R109, R170: the answerback unit state and the last result. -/
def answerbackByte (a : AnswerbackUnit) : Byte := flagBit a.running 0 ||| byteOf (a.lastResult.code * 16)

/-- R166, R170: the byte a host read of an offset returns. -/
def readControl (offset : Offset) (s : State) : Byte :=
  match offset.toNat with
  | 0x00 => s.command.last
  | 0x01 => s.passage.operand
  | 0x02 => byteOf s.command.result.code
  | 0x03 => statusByte s
  | 0x04 => byteOf s.attention.code
  | 0x05 => stackByte s.attention.stack
  | 0x06 => tenBitByte .low s.attention.flags
  | 0x07 => tenBitByte .high s.attention.flags
  | 0x08 => tenBitByte .low s.attention.masks
  | 0x09 => tenBitByte .high s.attention.masks
  | 0x0A => tenBitByte .low s.attention.urgent
  | 0x0B => tenBitByte .high s.attention.urgent
  | 0x0C => byteOf s.receiver.line.code
  | 0x0D => lineCauseByte s.attention
  | 0x0E => lineSetupByte s.receiver
  | 0x0F => s.receiver.options.toByte
  | 0x10 => s.receiver.onThreshold
  | 0x11 => s.receiver.offInForce
  | 0x12 => byteOf s.receiver.qualifyCode
  | 0x13 => byteOf s.receiver.fadeCode
  | 0x14 => byteOf s.receiver.listenCode
  | 0x15 => byteOf s.transmitter.breakLengthCode
  | 0x16 => byteOf s.flow.timeoutCode
  | 0x17 => s.tones.sounderLevel ++ s.tones.lineLevel
  | 0x18 => s.receiver.pauseCode
  | 0x19 => s.receiver.resumeCode
  | 0x1A => s.switch.keyboard.toByte
  | 0x1B => s.switch.lineIn.toByte
  | 0x1C => s.switch.sendRing.toByte
  | 0x1D => s.switch.answerback.toByte
  | 0x1E => lowByte s.rings.receiveBase
  | 0x1F => highByte s.rings.receiveBase
  | 0x20 => byteOf s.rings.receiveSize
  | 0x21 => byteOf s.rings.notifyLevel
  | 0x22 => byteOf s.flow.ringPauseLevel
  | 0x23 => byteOf s.rings.receiveHead
  | 0x24 => byteOf s.rings.receiveTail
  | 0x25 => lowByte s.rings.sendBase
  | 0x26 => highByte s.rings.sendBase
  | 0x27 => byteOf s.rings.sendSize
  | 0x28 => byteOf s.rings.roomLevel
  | 0x29 => byteOf s.rings.sendHead
  | 0x2A => byteOf s.rings.sendTail
  | 0x2B => lowByte s.keyboard.keymapBase
  | 0x2C => highByte s.keyboard.keymapBase
  | 0x2D => byteOf s.keyboard.delayCode ||| byteOf (s.keyboard.rateCode * 16)
  | 0x2E => keyboardOptionsByte s.keyboard
  | 0x2F => lowByte s.dot.fontBase
  | 0x30 => highByte s.dot.fontBase
  | 0x31 => byteOf s.dot.density
  | 0x32 => byteOf s.dot.budget
  | 0x33 => lowByte s.answerback.base
  | 0x34 => highByte s.answerback.base
  | 0x35 => byteOf s.answerback.length
  | 0x36 => byteOf s.answerback.remaining
  | 0x37 => positionByte s.carriage
  | 0x38 => byteOf s.carriage.queue.length
  | 0x39 => carriageByte s.carriage
  | 0x3A => byteOf s.sensor.battery
  | 0x3B => BitVec.ofInt 8 s.sensor.temperature
  | 0x3C => lowByte s.passage.lastRefused
  | 0x3D => highByte s.passage.lastRefused
  | 0x3E => refusedByte s.passage
  | _ => answerbackByte s.answerback

/-! ## Output pins that follow the state -/

/-- R164: HRSTO is asserted until the start-up state is RELEASED. -/
def hostResetAsserted (s : State) : Bool := s.passage.startUp ≠ .released

/-- R171, R173: HWAIT is asserted while a host cycle is held. -/
def hostWait (s : State) : Bool := s.arbiter.held.isSome

/-- R120: the carriage states in which an operation is under way. -/
def CarriageState.operates : CarriageState → Bool
  | .printing => true
  | .moving => true
  | .returning => true
  | .feeding => true
  | _ => false

/-- R120, R142: the carriage stepper phases are driven during every operation, a feed among them, during a home seek that has begun, and while RESTART stops an operation; in READY and HALTED they are released. -/
def carriagePhasesDriven (s : State) : Bool :=
  s.carriage.state.operates || s.carriage.seekTimer.isSome ||
    ((s.carriage.stopping.map CarriageState.operates).getD false)

/-- R120: the paper stepper phases are driven during a feed, and while RESTART stops one.
DESIGN CHOICE (log 31): during a print, motion, return or home seek they are released; no rule says that such an operation drives the paper motor, or that it does not. -/
def paperPhasesDriven (s : State) : Bool := s.carriage.state = .feeding || s.carriage.stopping = some .feeding

end Sys2Proof.Machine
end

