-- ==== Sys2Proof/Machine/Passage.lean ====
section
/-! DEFINITION. The passage of host cycles through the part (R160 to R169) and the Memory Cycle Arbiter's grants (R171 to R173): how a host write or read is judged at its start, what it does at its completion, how a grant starts, and how HWAIT holds a host cycle. -/

namespace Sys2Proof.Machine

/-- The memory side carries these cycles, and no others, in the step under way. -/
def driveMemory (cycles : List MemCycle) (s : State) : State := s.onPins fun p => { p with memory := cycles }

/-! ## Grants (R171 to R173) -/

/-- R172: the first requester with a waiting request, in the arbiter's order. -/
def firstWaiting (a : Arbiter) : Option Requester :=
  [Requester.startUp, .receiveWriter, .font, .keymap, .answerback, .sendRing].find? fun r => a.wait r ≠ .absent

/-- R173: a requester's wait timer stands at 16 µs or more, so a host cycle that begins is held for a grant. -/
def stretchDue (a : Arbiter) : Bool :=
  [Requester.startUp, .receiveWriter, .font, .keymap, .answerback, .sendRing].any fun r => a.wait r = .overdue

/-- A requester's grant starts: its request and its wait timer are gone. -/
def beginGrant (r : Requester) (g : Grant) (s : State) : State :=
  s.onArbiter fun a => { a.setWait r .absent with grant := some g }

/-- R18: the address of the tag byte of the slot at the receive head. -/
def placementAddress (r : Rings) : Addr := r.receiveBase + BitVec.ofNat 16 (2 * r.receiveHead)

/-- R22: the address of the byte at the send tail. -/
def sendFetchAddress (r : Rings) : Addr := r.sendBase + BitVec.ofNat 16 r.sendTail

/-- The grant that a key-map read gets, from the base in force as the grant runs (R31, R35, R38). -/
def keymapGrant (read : KeymapRead) (s : State) : Grant :=
  match read with
  | .headerLoad => .headerLoad s.keyboard.keymapBase false
  | .eligibility p => .eligibility p (eligibilityAddress s.keyboard.keymapBase p)
  | .translation =>
    .translation ((s.keyboard.queue.head?.map (translationAddress s.keyboard.keymapBase)).getD s.keyboard.keymapBase) false

/-- R38, R173: the read at the front of the key-map queue is granted; the next read reaches the front and starts its wait timer. -/
def beginKeymapGrant (s : State) : State :=
  match s.arbiter.keymapQueue with
  | [] => s
  | read :: rest =>
    s.onArbiter fun a =>
      { a with
        grant := some (keymapGrant read s), keymapQueue := rest
        keymap := if rest = [] then .absent else .waiting }

/-- R171, R172: the grant of the first waiting requester starts, with its addresses formed from the values in force. -/
def startNextGrant (s : State) : State :=
  match firstWaiting s.arbiter with
  | none => s
  | some .startUp => beginGrant .startUp .startUp s
  | some .receiveWriter =>
    match s.rings.staged with
    | [] => s
    | record :: _ => beginGrant .receiveWriter (.placement (placementAddress s.rings) record.tag record.code false) s
  | some .font => beginGrant .font (.glyph (glyphAddress s.dot.fontBase s.dot.code) false) s
  | some .keymap => beginKeymapGrant s
  | some .answerback => beginGrant .answerback (.answerback s.answerback.pointer false) s
  | some .sendRing => beginGrant .sendRing (.send (sendFetchAddress s.rings) false) s

/-! ## Ring watchers (R19, R21) -/

/-- R21: a head write to a ring that is not full advances the head, otherwise send-overflow is set. -/
def captureHead (s : State) : State :=
  if ringNext s.rings.sendHead (ringSlots s.rings.sendSize) = s.rings.sendTail then setSendOverflow s
  else
    requestSendFetch (s.onRings fun r => { r with sendHead := ringNext r.sendHead (ringSlots r.sendSize) })

/-- R19: a consume read advances the tail. -/
def consumeRecord (s : State) : State :=
  if 0 < s.rings.receiveOccupancy then
    s.onRings fun r => { r with receiveTail := ringNext r.receiveTail (ringSlots r.receiveSize) }
  else s

/-! ## Host writes (R160 to R169) -/

/-- R163: the header entry whose byte lies at an address, if any. -/
def headerEntryAt (base address : Addr) : Option HeaderEntry :=
  match (address - base).toNat with
  | 0 => some .shiftA
  | 1 => some .shiftB
  | 2 => some .control
  | 3 => some .lock
  | _ => none

/-- R163: the address of the head slot of the send ring. -/
def headSlotAddress (r : Rings) : Addr := r.sendBase + BitVec.ofNat 16 r.sendHead

/-- R163: the address of the code byte of the record at the receive tail. -/
def tailCodeAddress (r : Rings) : Addr := r.receiveBase + BitVec.ofNat 16 (2 * r.receiveTail + 1)

/-- R160: a host write is judged once, at its start, by the tests in order. -/
def judgeWrite (address : Addr) (s : State) : WriteOutcome :=
  match controlOffset s.passage.page address with
  | some offset => if offset = 0#6 ∧ s.command.result = .running then .commandBusy else .control offset
  | none =>
    if s.passage.answerbackLock && inRegion s.answerback.base s.answerback.length address then .withheld .answerbackLock
    else if s.passage.keymapLock && inRegion s.keyboard.keymapBase Config.keymapLength address then .withheld .keymapLock
    else
      .passed (s.rings.sendSize ≠ 0 && address = headSlotAddress s.rings) (headerEntryAt s.keyboard.keymapBase address)

/-- R167, R170: a written control-block byte is handed to the field's owner; a read-only offset is handed to none. -/
def writeControl (offset : Offset) (data : Byte) (s : State) : State :=
  match offset.toNat with
  | 0x00 => takeCommand data s
  | 0x01 => writeOperand data s
  | 0x03 => clearStatus data s
  | 0x04 => endService s
  | 0x08 => writeMask .low data s
  | 0x09 => writeMask .high data s
  | 0x0A => writeUrgent .low data s
  | 0x0B => writeUrgent .high data s
  | 0x0E => writeLineSetup data s
  | 0x0F => writeLineOptions data s
  | 0x10 => writeOnThreshold data s
  | 0x11 => writeOffThreshold data s
  | 0x12 => writeQualifyCode data s
  | 0x13 => writeFadeCode data s
  | 0x14 => writeListenCode data s
  | 0x15 => writeBreakLength data s
  | 0x16 => writeTimeoutCode data s
  | 0x17 => writeLevels data s
  | 0x18 => writePauseCode data s
  | 0x19 => writeResumeCode data s
  | 0x1A => setRow .keyboard (rowOfByte .keyboard data) s
  | 0x1B => setRow .lineIn (rowOfByte .lineIn data) s
  | 0x1C => setRow .sendRing (rowOfByte .sendRing data) s
  | 0x1D => setRow .answerback (rowOfByte .answerback data) s
  | 0x1E => writeRingPlacement .receiveBaseLow data s
  | 0x1F => writeRingPlacement .receiveBaseHigh data s
  | 0x20 => writeRingPlacement .receiveSize data s
  | 0x21 => writeNotifyLevel data s
  | 0x22 => writeRingPauseLevel data s
  | 0x25 => writeRingPlacement .sendBaseLow data s
  | 0x26 => writeRingPlacement .sendBaseHigh data s
  | 0x27 => writeRingPlacement .sendSize data s
  | 0x28 => writeRoomLevel data s
  | 0x2B => writeKeymapBase .low data s
  | 0x2C => writeKeymapBase .high data s
  | 0x2D => writeRepeatCodes data s
  | 0x2E => writeKeyboardOptions data s
  | 0x2F => writeFontBase .low data s
  | 0x30 => writeFontBase .high data s
  | 0x31 => writeDensity data s
  | 0x32 => writeBudget data s
  | 0x33 => writeAnswerbackSetup .baseLow data s
  | 0x34 => writeAnswerbackSetup .baseHigh data s
  | 0x35 => writeAnswerbackSetup .length data s
  | 0x3E => writeRefusedCause data s
  | _ => s

/-- R161, R169: a withheld write drives no memory strobe; its address and cause are stored and PROTECT is requested. -/
def withhold (address : Addr) (cause : RefusedCause) (s : State) : State :=
  raise .protect (driveMemory [] (s.onPassage fun p => { p with lastRefused := address, refusedCause := cause }))

/-- R163: a passed write is reported to every watcher it matches. -/
def reportWrite (head : Bool) (entry : Option HeaderEntry) (data : Byte) (s : State) : State :=
  let captured := if head then captureHead s else s
  match entry with
  | some e => captureHeader e data captured
  | none => captured

/-- What a host write does at its completion, as it was judged at its start. -/
def completeWrite (address : Addr) (data : Byte) (outcome : WriteOutcome) (s : State) : State :=
  match outcome with
  | .commandBusy => withhold address .commandBusy (s.onPassage fun p => { p with commandOverrun := true })
  | .withheld cause => withhold address cause s
  | .control offset => settle (writeControl offset data (driveMemory [.write address data] s))
  | .passed head entry => reportWrite head entry data (driveMemory [.write address data] s)

/-! ## Host reads (R160, R163, R166) -/

/-- R160, R163: a host read is judged once, at its start. -/
def judgeRead (address : Addr) (s : State) : ReadOutcome :=
  match controlOffset s.passage.page address with
  | some offset => .control offset
  | none =>
    .passed (s.rings.receiveSize ≠ 0 && 0 < s.rings.receiveOccupancy && address = tailCodeAddress s.rings)

/-- R166, R188: an answered read drives the host data from the part's state, and at 04h takes the highest eligible request. -/
def answerRead (offset : Offset) (s : State) : State :=
  let answered := driveMemory [] (s.onPins fun p => { p with hostData := readControl offset s })
  if offset = 0x04#6 then takeAttention answered else answered

/-- What a host read does at its completion; `data` is what memory returns for a passed read. -/
def completeRead (address : Addr) (data : Byte) (outcome : ReadOutcome) (s : State) : State :=
  match outcome with
  | .control offset => answerRead offset s
  | .passed consume =>
    let passed := driveMemory [.read address data] (s.onPins fun p => { p with hostData := data })
    if consume then settle (consumeRecord passed) else passed

/-! ## Host cycles and HWAIT (R164, R171, R173) -/

/-- What a judged host cycle does as it passes. -/
def passCycle (c : HostCycle) (s : State) : State :=
  match c with
  | .write address data outcome => completeWrite address data outcome s
  | .read address data outcome => completeRead address data outcome s

/-- R164, R171: the host makes a cycle only while HRSTO is released, and only one at a time. -/
def hostMayCycle (s : State) : Bool := s.passage.startUp = .released && s.arbiter.held = none

/-- R171, R173: a judged host cycle passes; it is held with HWAIT while a grant runs, and while a wait timer stands at 16 µs a grant runs first. -/
def runCycle (c : HostCycle) (s : State) : State :=
  if s.arbiter.grant ≠ none then s.onArbiter fun a => { a with held := some c }
  else if stretchDue s.arbiter then startNextGrant (s.onArbiter fun a => { a with held := some c })
  else passCycle c s

/-- A host write of a byte to an address. -/
def hostWrite (address : Addr) (data : Byte) (s : State) : State :=
  if hostMayCycle s then runCycle (.write address data (judgeWrite address s)) s else s

/-- A host read of an address; `data` is what memory would return for it. -/
def hostRead (address : Addr) (data : Byte) (s : State) : State :=
  if hostMayCycle s then runCycle (.read address data (judgeRead address s)) s else s

/-- A host write to an offset of the control block. -/
def writeAt (offset : Offset) (data : Byte) (s : State) : State := hostWrite (controlAddress s.passage.page offset) data s

/-! ## The end of a grant (R171) -/

/-- R171: the held host cycle passes when the grant's last cycle ends; the memory side has carried the grant's cycles before it. -/
def passHeld (s : State) : State :=
  match s.arbiter.held with
  | none => s
  | some c =>
    (passCycle c (s.onArbiter fun a => { a with held := none })).onPins fun p =>
      { p with memory := s.pins.memory ++ p.memory }

/-- R171: a grant completes: its cycles have run, its owner acts on the data, and a held host cycle passes. -/
def finishGrant (cycles : List MemCycle) (act : State → State) (s : State) : State :=
  passHeld (settle (act (driveMemory cycles (s.onArbiter fun a => { a with grant := none }))))

/-- The data of a grant is used, or discarded by its owner (R172). -/
def unlessDiscarded (discarded : Bool) (act : State → State) (s : State) : State := if discarded then s else act s

end Sys2Proof.Machine
end

