-- ==== Sys2Proof/Machine/ArbiterEvents.lean ====
section
/-! DEFINITION. The commands of the Memory Cycle Arbiter and of the grants of the Ring Unit and the Answerback Unit (chapters 01, 05 and 08). -/

namespace Sys2Proof.Machine

/-- R171, R172: the port is free and a grant starts for the first waiting requester. -/
def execGrantStart (s : State) : Host.Outcome State Fault Refusal :=
  .next (if s.arbiter.grant = none ∧ s.arbiter.held = none then startNextGrant s else s)

/-- R173: a requester's wait timer reaches 16 µs. -/
def execWaitTimerExpiry (requester : Requester) (s : State) : Host.Outcome State Fault Refusal :=
  .next (if s.arbiter.wait requester = .waiting then s.onArbiter fun a => a.setWait requester .overdue else s)

/-- R20: the level that RX-LEVEL is compared with: the notify level or the capacity, whichever is smaller. -/
def Rings.workingNotifyLevel (r : Rings) : Nat := min r.notifyLevel r.receiveCapacity

/-- R18, R20: the head passes the placed record, which leaves the staging queue; RX-LEVEL is requested at or above the level, and the next record is requested in its turn. -/
def advanceReceiveHead (s : State) : State :=
  let moved := s.onRings fun r =>
    { r with receiveHead := ringNext r.receiveHead (ringSlots r.receiveSize), staged := r.staged.tail }
  requestPlacement
    (if moved.rings.workingNotifyLevel ≤ moved.rings.receiveOccupancy then raise .rxLevel moved else moved)

/-- R18: the two writes of a placement complete. -/
def execReceivePlacement (s : State) : Host.Outcome State Fault Refusal :=
  .next (match s.arbiter.grant with
    | some (.placement a tag code discarded) =>
      finishGrant [.write a tag, .write (a + 1) code] (unlessDiscarded discarded advanceReceiveHead) s
    | _ => s)

/-- R22: the fetched byte becomes the prefetched byte, on offer as source SEND RING. -/
def holdSendByte (data : Byte) (s : State) : State := s.onRings fun r => { r with prefetched := some data }

/-- R22: the one-cycle fetch of the byte at the send tail completes. -/
def execSendFetch (data : Byte) (s : State) : Host.Outcome State Fault Refusal :=
  .next (match s.arbiter.grant with
    | some (.send a discarded) => finishGrant [.read a data] (unlessDiscarded discarded (holdSendByte data)) s
    | _ => s)

/-- R111: the byte read becomes the prefetched byte, on offer as source ANSWERBACK. -/
def holdAnswerbackByte (data : Byte) (s : State) : State := s.onAnswerback fun a => { a with prefetched := some data }

/-- R111: the one-cycle read of the byte at the pointer completes. -/
def execAnswerbackRead (data : Byte) (s : State) : Host.Outcome State Fault Refusal :=
  .next (match s.arbiter.grant with
    | some (.answerback a discarded) => finishGrant [.read a data] (unlessDiscarded discarded (holdAnswerbackByte data)) s
    | _ => s)

end Sys2Proof.Machine
end

