-- ==== Sys2Proof/Machine/Readiness.lean ====
section
/-! DEFINITION. The readiness of the blocking sinks (R6 to R9): when LINE-OUT is ready to a source, which source its arbiter grants, and to which waiter a freed place of the print queue falls. -/

namespace Sys2Proof.Machine

/-- R8: on a call LINE-OUT takes a character: the slot is empty, no flow code waits for it, the line is not remote-paused, and no break or post-break mark is being sent. -/
def lineOutOpen (s : State) : Bool :=
  s.transmitter.slot = .empty && s.transmitter.flowRequest = none && !s.flow.remotePause &&
    match s.transmitter.state with
    | .breaking => false
    | .postBreak _ => false
    | _ => true

/-- R9: a source is eligible for a grant when it has a character on offer, LINE-OUT is in its row in force, and every other blocking sink of its row is ready. -/
def lineOutEligible (source : WaitingSource) (s : State) : Bool :=
  (offered source s).isSome && (s.switch.row source).lineOut && (!(s.switch.row source).print || printRoom s)

/-- R9: the LINE-OUT arbiter: ANSWERBACK alone while it runs with LINE-OUT in its row, otherwise KEYBOARD and SEND RING in round-robin order. -/
def lineOutGranted (source : WaitingSource) (s : State) : Bool :=
  lineOutEligible source s &&
    if s.answerback.running && s.switch.answerback.lineOut then source = .answerback
    else
      match source with
      | .keyboard => !lineOutEligible .sendRing s || s.switch.roundRobin = .keyboard
      | .sendRing => !lineOutEligible .keyboard s || s.switch.roundRobin = .sendRing
      | .answerback => false

/-- R7, R8: LINE-OUT is ready to a source: off a call it discards, on a call the slot is open and the arbiter grants. -/
def lineOutReady (source : WaitingSource) (s : State) : Bool :=
  !s.receiver.line.onCall || (lineOutOpen s && lineOutGranted source s)

/-- R6: the waiter counts for a freed place: what it holds goes to PRINT, and LINE-OUT, where its row holds it, is ready to it. -/
def waiterCounts (w : Waiter) (s : State) : Bool :=
  waiterPresent w s && waiterPrints w s &&
    match w with
    | .keyboard => !s.switch.keyboard.lineOut || lineOutReady .keyboard s
    | .sendRing => !s.switch.sendRing.lineOut || lineOutReady .sendRing s
    | .answerback => !s.switch.answerback.lineOut || lineOutReady .answerback s
    | .feed => true

/-- The waiters that could fill a freed place (R6). -/
def placeWaiters (s : State) : List Waiter :=
  [Waiter.keyboard, .sendRing, .answerback, .feed].filter fun w => waiterCounts w s

/-- R6: one wait began no later than another; a waiter that never found the queue full has no claim. -/
def waitedAsLong (mine other : Option Nat) : Bool :=
  match mine, other with
  | _, none => true
  | some a, some b => a ≤ b
  | none, some _ => false

/-- R6: a place freed in a full queue, with more than one waiter that could fill it, goes to the one that has waited longest for PRINT; at any other time a queue of fewer than 48 entries is ready to every waiter. -/
def placeFallsTo (w : Waiter) (s : State) : Bool :=
  !s.switch.freedPlace ||
    (placeWaiters s).all fun other => waitedAsLong (s.switch.printWaits.get w) (s.switch.printWaits.get other)

/-- R6: an entry that has just left a full queue, as the state `s` shows it, leaves a place that more than one waiter could fill. -/
def placeContested (s : State) : Bool := 2 ≤ (placeWaiters s).length

end Sys2Proof.Machine
end

