-- ==== Sys2Proof/Machine/CarriageEvents.lean ====
section
/-! DEFINITION. The commands of the Carriage Controller (chapter 06): the handling of entries, the ends of motions, the paper sensor and the home seek. -/

namespace Sys2Proof.Machine

/-- R121: the head entry leaves the queue and the consumed-since-idle mark is set. R6: the place it frees in a full queue goes by the waits where more than one waiter could fill it; with a further entry gone there is room for every waiter. -/
def consumeEntry (rest : List PrintEntry) (s : State) : State :=
  let left := s.onCarriage fun c => { c with queue := rest, consumedSinceIdle := true }
  left.onSwitch fun c =>
    { c with freedPlace := s.carriage.queue.length = Config.printQueueCapacity && placeContested left }

/-- R121: the operations of an entry begin, or the entry is consumed at once. -/
def beginOperations (operations : List Operation) (s : State) : State :=
  match operations with
  | [] => judgePrintIdle s
  | first :: rest => beginOperation first (s.onCarriage fun c => { c with pending := rest })

/-- R121: the handling of an entry; the margin action and CR implies LF are judged as it begins. -/
def handleEntry (e : PrintEntry) (s : State) : State :=
  beginOperations
    (operationsOf e (s.carriage.position.getD 0) s.carriage.wrap s.receiver.options.crImpliesLf s.carriage.tabStops)
    (ringBell e s)

/-- R121: with the carriage READY, the entry at the head of the print queue is handled. -/
def execEntryHandling (s : State) : Host.Outcome State Fault Refusal :=
  .next (match s.carriage.queue with
    | [] => s
    | e :: rest => if s.carriage.state = .ready then settle (handleEntry e (consumeEntry rest s)) else s)

/-- R120, R123: a motion ends at its target. -/
def execMotionEnd (s : State) : Host.Outcome State Fault Refusal :=
  .next (if s.carriage.state = .moving then
    settle (endOperation (s.onCarriage fun c => { c with position := some c.target }))
  else s)

/-- R124: the end of a return: p becomes 0, and JAM is set if the home sensor does not show home. -/
def endReturn (home : Bool) (s : State) : State :=
  let returned := s.onCarriage fun c => { c with position := some 0 }
  endOperation (if home then returned
    else setCauses s.carriage.paper s.carriage.hot s.carriage.battery true returned)

/-- R124: a return ends. -/
def execReturnEnd (home : Bool) (s : State) : Host.Outcome State Fault Refusal :=
  .next (if s.carriage.state = .returning then settle (endReturn home s) else s)

/-- R124: a feed ends. -/
def execFeedEnd (s : State) : Host.Outcome State Fault Refusal :=
  .next (if s.carriage.state = .feeding then settle (endOperation s) else s)

/-- R164: the blocks begin at the release of the host reset; the sensors are judged from then on. -/
def blocksRun (s : State) : Bool := s.passage.startUp = .released

/-- R129: PAPER is set with a PRINT-FAULT request if it was clear, the paper timer stops, and the halt is judged (R130). -/
def losePaper (s : State) : State :=
  judgeHalt (setCauses true s.carriage.hot s.carriage.battery s.carriage.jam
    (s.onCarriage fun c => { c with paperTimer := none }))

/-- R129: the paper sensor changes from present to out. -/
def execPaperOut (s : State) : Host.Outcome State Fault Refusal :=
  .next (if s.pins.paper then
    let changed := s.onPins fun p => { p with paper := false }
    if blocksRun s then settle (losePaper changed) else changed
  else s)

/-- R129: the paper sensor changes from out to present: while PAPER is set the paper timer starts with 2 s. -/
def execPaperPresent (s : State) : Host.Outcome State Fault Refusal :=
  .next (if s.pins.paper then s
  else
    (s.onPins fun p => { p with paper := true }).onCarriage fun c =>
      { c with paperTimer := if c.paper then some Config.paperPeriod else c.paperTimer })

/-- R129, R130: PAPER is cleared, and the carriage goes on if it was the last cause. -/
def findPaper (s : State) : State :=
  judgeHalt (s.onCarriage fun c => { c with paper := false, paperTimer := none })

/-- R129: the paper timer expires. -/
def execPaperTimerExpiry (s : State) : Host.Outcome State Fault Refusal :=
  .next (if s.carriage.paperTimer.isSome then settle (findPaper s) else s)

/-- R183: the home seek of a RESTART begins when the operation under way has stopped. -/
def execHomeSeekStart (s : State) : Host.Outcome State Fault Refusal :=
  .next (if s.carriage.state = .homeSeek ∧ s.carriage.stopping.isSome ∧ s.dot.state = .idle then beginSeek s else s)

/-- R131: the home sensor shows home at the start of the seek or changes to home during it. -/
def execHomeFound (s : State) : Host.Outcome State Fault Refusal :=
  .next (if s.carriage.state = .homeSeek ∧ s.carriage.seekTimer.isSome then settle (seekFinds s) else s)

/-- R131: the seek timer expires first: the seek fails. -/
def execSeekTimerExpiry (s : State) : Host.Outcome State Fault Refusal :=
  .next (if s.carriage.state = .homeSeek ∧ s.carriage.seekTimer.isSome then settle (seekFails s) else s)

end Sys2Proof.Machine
end

