-- ==== Sys2Proof/Machine/Commands.lean ====
section
/-! DEFINITION. The host commands (chapter 09): each is a host write of its code to offset 00h, taken as R176 gives, or withheld while a command is RUNNING (R169). -/

namespace Sys2Proof.Machine

/-- A host write of a command code to offset 00h. -/
def writeCommand (code : Byte) (s : State) : State := writeAt 0x00#6 code s

/-- R178. -/
def execLineOnOriginate (s : State) : Host.Outcome State Fault Refusal := .next (writeCommand 0x01#8 s)
/-- R178. -/
def execLineOnAnswer (s : State) : Host.Outcome State Fault Refusal := .next (writeCommand 0x02#8 s)
/-- R178. -/
def execLineOff (s : State) : Host.Outcome State Fault Refusal := .next (writeCommand 0x03#8 s)
/-- R179. -/
def execSendBreak (s : State) : Host.Outcome State Fault Refusal := .next (writeCommand 0x04#8 s)
/-- R180. -/
def execSendAnswerback (s : State) : Host.Outcome State Fault Refusal := .next (writeCommand 0x05#8 s)
/-- R180. -/
def execSetMode (s : State) : Host.Outcome State Fault Refusal := .next (writeCommand 0x06#8 s)
/-- R181. -/
def execFlushPrint (s : State) : Host.Outcome State Fault Refusal := .next (writeCommand 0x07#8 s)
/-- R181. -/
def execFeedLine (s : State) : Host.Outcome State Fault Refusal := .next (writeCommand 0x08#8 s)
/-- R127. -/
def execSetTab (s : State) : Host.Outcome State Fault Refusal := .next (writeCommand 0x09#8 s)
/-- R127. -/
def execClearTab (s : State) : Host.Outcome State Fault Refusal := .next (writeCommand 0x0A#8 s)
/-- R127. -/
def execClearAllTabs (s : State) : Host.Outcome State Fault Refusal := .next (writeCommand 0x0B#8 s)
/-- R182. -/
def execRestart (s : State) : Host.Outcome State Fault Refusal := .next (writeCommand 0x0C#8 s)
/-- R176: a code outside the table is taken with result UNKNOWN. -/
def execUnknown (code : Byte) (s : State) : Host.Outcome State Fault Refusal := .next (writeCommand code s)

end Sys2Proof.Machine
end

