-- ==== Sys2Proof/Machine/DotEvents.lean ====
section
/-! DEFINITION. The commands of the Dot Firing Unit and the Sensor Monitor (chapter 07). -/

namespace Sys2Proof.Machine

/-- R136, R138: the five patterns are held; if the settle expiry of column 1 has passed, firing begins now. -/
def holdGlyph (c1 c2 c3 c4 c5 : Byte) (s : State) : State :=
  let held := s.onDot fun d =>
    { d with
      glyph := .held (columnPattern c1) (columnPattern c2) (columnPattern c3) (columnPattern c4) (columnPattern c5) }
  if s.dot.glyph = .requested ∧ s.dot.state = .settle ∧ s.dot.settleTimer = none then beginFiring held else held

/-- R136: the five-cycle glyph fetch completes. -/
def execGlyphFetch (c1 c2 c3 c4 c5 : Byte) (s : State) : Host.Outcome State Fault Refusal :=
  .next (match s.arbiter.grant with
    | some (.glyph a discarded) =>
      finishGrant [.read a c1, .read (a + 1) c2, .read (a + 2) c3, .read (a + 3) c4, .read (a + 4) c5]
        (unlessDiscarded discarded (holdGlyph c1 c2 c3 c4 c5)) s
    | _ => s)

/-- R139, R155: one carriage step to the left completes: the sixth is followed by the first column step, and after RESTART no further step is made. -/
def completeBackStep (made : Nat) (s : State) : State :=
  if s.dot.stopping then dotToIdle s
  else if made + 1 < 6 then s.onDot fun d => { d with state := .backStep (made + 1) }
  else columnStep 1 s

/-- R139: a back step completes. -/
def execBackStep (s : State) : Host.Outcome State Fault Refusal :=
  .next (match s.dot.state with
    | .backStep made => completeBackStep made s
    | _ => s)

/-- R138, R140: the settle is over: firing begins, unless the glyph has not arrived yet. -/
def endSettle (s : State) : State :=
  let settled := s.onDot fun d => { d with settleTimer := none }
  if s.dot.glyph = .requested then settled else settle (beginFiring settled)

/-- R140: the settle timer expires. -/
def execSettleExpiry (s : State) : Host.Outcome State Fault Refusal :=
  .next (if s.dot.state = .settle ∧ s.dot.settleTimer.isSome then endSettle s else s)

/-- R152: a row's own width has elapsed and its strobe line is released. -/
def execStrobeRelease (row : Nat) (s : State) : Host.Outcome State Fault Refusal :=
  .next (if s.dot.state = .firing ∧ releasable s.dot row = true then settle (releaseStrobe row s) else s)

/-- R152: the next group starts, 20 µs after the end of the group before, with every strobe line released in between. -/
def execGroupStart (s : State) : Host.Outcome State Fault Refusal :=
  .next (if s.dot.state = .firing ∧ s.dot.strobes = 0 then startGroup s else s)

/-- R141: the column timer's expiry ends the dwell if firing has ended. -/
def expireColumn (s : State) : State :=
  let expired := s.onDot fun d => { d with columnTimer := none }
  if s.dot.state = .dwell then endDwell expired else expired

/-- R141: the column timer expires. -/
def execColumnTimerExpiry (s : State) : Host.Outcome State Fault Refusal :=
  .next (if s.dot.columnTimer.isSome then settle (expireColumn s) else s)

/-- R156, R158: the sample timer expires: a new pair of readings is taken and delivered to both owners. -/
def execSensorReading (millivolts : Nat) (millidegrees : Int) (s : State) : Host.Outcome State Fault Refusal :=
  .next (if s.sensor.sampleTimer.isSome then settle (judgeHalt (takeReadings millivolts millidegrees s)) else s)

end Sys2Proof.Machine
end

