-- ==== Sys2Proof/Machine/HostCycles.lean ====
section
/-! DEFINITION. The commands that are host cycles on the control block and on watched addresses (chapter 08): each is a host write or read at the row's address, judged by R160. -/

namespace Sys2Proof.Machine

/-- R188: a host read of offset 04h. -/
def execAttentionCodeRead (s : State) : Host.Outcome State Fault Refusal :=
  .next (hostRead (controlAddress s.passage.page 0x04#6) 0 s)

/-- R189: a host write to offset 04h. -/
def execServiceEnd (data : Byte) (s : State) : Host.Outcome State Fault Refusal := .next (writeAt 0x04#6 data s)

/-- R168: a host write to offset 03h. -/
def execStatusWrite (data : Byte) (s : State) : Host.Outcome State Fault Refusal := .next (writeAt 0x03#6 data s)

/-- R169: a host write to offset 3Eh. -/
def execRefusedCauseWrite (data : Byte) (s : State) : Host.Outcome State Fault Refusal := .next (writeAt 0x3E#6 data s)

/-- R186: a host write to a mask byte or an urgent-group byte. -/
def execMaskWrite (field : MaskByte) (data : Byte) (s : State) : Host.Outcome State Fault Refusal :=
  .next (writeAt (maskByteOffset field) data s)

/-- R2, R5: a host write to a join row. -/
def execJoinRowWrite (row : Source) (data : Byte) (s : State) : Host.Outcome State Fault Refusal :=
  .next (writeAt (joinRowOffset row) data s)

/-- R24: a host write to a ring placement byte. -/
def execRingPlacementWrite (field : RingByte) (data : Byte) (s : State) : Host.Outcome State Fault Refusal :=
  .next (writeAt (ringByteOffset field) data s)

/-- R31: a host write to a key-map base byte. -/
def execKeymapBaseWrite (half : Half) (data : Byte) (s : State) : Host.Outcome State Fault Refusal :=
  .next (writeAt (keymapBaseOffset half) data s)

/-- R64: a host write to the line setup byte. -/
def execLineSetupWrite (data : Byte) (s : State) : Host.Outcome State Fault Refusal := .next (writeAt 0x0E#6 data s)

/-- R72: a host write to the line options byte. -/
def execLineOptionsWrite (data : Byte) (s : State) : Host.Outcome State Fault Refusal := .next (writeAt 0x0F#6 data s)

/-- R98: a host write to the ring pause level. -/
def execRingPauseLevelWrite (data : Byte) (s : State) : Host.Outcome State Fault Refusal := .next (writeAt 0x22#6 data s)

/-- R108, R115: a host write to an answerback setup byte. -/
def execAnswerbackSetupWrite (field : AnswerbackByte) (data : Byte) (s : State) : Host.Outcome State Fault Refusal :=
  .next (writeAt (answerbackByteOffset field) data s)

/-- R47: a host write to the keyboard options byte. -/
def execKeyboardOptionsWrite (data : Byte) (s : State) : Host.Outcome State Fault Refusal := .next (writeAt 0x2E#6 data s)

/-- R167: a host write to any other control-block offset. -/
def execSetupWrite (offset : Offset) (data : Byte) (s : State) : Host.Outcome State Fault Refusal :=
  .next (writeAt offset data s)

/-- R161, R162: a host write into a locked region; at an address that no lock covers it is the write that R160 makes of it. -/
def execWithheldWrite (address : Addr) (data : Byte) (s : State) : Host.Outcome State Fault Refusal :=
  .next (hostWrite address data s)

/-- R21: a host write to the head slot of the send ring. -/
def execHeadCapture (data : Byte) (s : State) : Host.Outcome State Fault Refusal :=
  .next (hostWrite (headSlotAddress s.rings) data s)

/-- R32: a host write to a header byte of the key map in force. -/
def execHeaderCapture (entry : HeaderEntry) (data : Byte) (s : State) : Host.Outcome State Fault Refusal :=
  .next (hostWrite (s.keyboard.keymapBase + BitVec.ofNat 16 (headerEntryOffset entry)) data s)

/-- R19: a host read of the code byte of the record at the receive tail. -/
def execConsumeRead (data : Byte) (s : State) : Host.Outcome State Fault Refusal :=
  .next (hostRead (tailCodeAddress s.rings) data s)

/-- R169: a host write to offset 00h while a command is RUNNING. -/
def execCommandWriteWithheld (code : Byte) (s : State) : Host.Outcome State Fault Refusal := .next (writeAt 0x00#6 code s)

end Sys2Proof.Machine
end

