-- ==== Sys2Proof/Machine/KeyboardEvents.lean ====
section
/-! DEFINITION. The commands of the keyboard (chapter 02): the scan pass, the completions of the three key-map reads, the repeat timer and the waiting FEED. -/

namespace Sys2Proof.Machine

/-- R26: the scan timer expires and one pass is made. -/
def execScanPass (readings : BitVec 64) (s : State) : Host.Outcome State Fault Refusal :=
  .next (if s.keyboard.scanTimer.isSome then settle (scanPass readings s) else s)

/-- R31: the four-cycle header load completes. -/
def execHeaderLoad (byte0 byte1 byte2 byte3 : Byte) (s : State) : Host.Outcome State Fault Refusal :=
  .next (match s.arbiter.grant with
    | some (.headerLoad a discarded) =>
      finishGrant [.read a byte0, .read (a + 1) byte1, .read (a + 2) byte2, .read (a + 3) byte3]
        (unlessDiscarded discarded (loadHeader byte0 byte1 byte2 byte3)) s
    | _ => s)

/-- R35: an eligibility read completes; with the last of a pass the repeat key is chosen. -/
def execEligibilityRead (data : Byte) (s : State) : Host.Outcome State Fault Refusal :=
  .next (match s.arbiter.grant with
    | some (.eligibility p a) =>
      finishGrant [.read a data]
        (fun t => chooseRepeat (t.onKeyboard fun k => { k with eligibility := completeEligibility p data k.eligibility })) s
    | _ => s)

/-- R36: the repeat timer expires. -/
def execRepeatTimerExpiry (s : State) : Host.Outcome State Fault Refusal :=
  .next (if s.keyboard.repeatTimer.isSome then repeatExpiry s else s)

/-- R39: the translation read completes. -/
def execTranslationRead (data : Byte) (s : State) : Host.Outcome State Fault Refusal :=
  .next (match s.arbiter.grant with
    | some (.translation a discarded) => finishGrant [.read a data] (unlessDiscarded discarded (translate data)) s
    | _ => s)

/-- R45: a FEED in FEED-WAIT is appended when the print queue has a free place that falls to it. -/
def execFeedAppend (s : State) : Host.Outcome State Fault Refusal :=
  .next (if s.translator = .feedWait ∧ printRoom s = true ∧ placeFallsTo .feed s = true then settle (appendFeed s) else s)

end Sys2Proof.Machine
end

