-- ==== Sys2Proof/Machine/LineEvents.lean ====
section
/-! DEFINITION. The commands of the Line Receiver (chapter 03): samples of the line, the carrier's changes, the ends of received frames and the three line timers. -/

namespace Sys2Proof.Machine

/-- R51, R55, R62: the sample at which the carrier becomes present. -/
def execCarrierPresent (low high : FilterReading) (s : State) : Host.Outcome State Fault Refusal :=
  .next (if becomesPresent ⟨low, high⟩ s.receiver then sampleLine ⟨low, high⟩ s else s)

/-- R51, R54, R62: the sample at which the carrier becomes absent. -/
def execCarrierAbsent (low high : FilterReading) (s : State) : Host.Outcome State Fault Refusal :=
  .next (if becomesAbsent ⟨low, high⟩ s.receiver then sampleLine ⟨low, high⟩ s else s)

/-- R52: the listen timer expires in LISTEN or QUALIFY. -/
def execListenExpiry (s : State) : Host.Outcome State Fault Refusal :=
  .next (if (s.receiver.line = .listen ∨ s.receiver.line = .qualify) ∧ s.receiver.listenTimer.isSome then
    settle (raiseLine .noAnswer (enterIdle s))
  else s)

/-- R53: the qualify timer expires in QUALIFY. -/
def execQualifyExpiry (s : State) : Host.Outcome State Fault Refusal :=
  .next (if s.receiver.line = .qualify ∧ s.receiver.qualifyTimer.isSome then
    settle (raiseLine .qualified (enterData s))
  else s)

/-- R55: the fade timer expires in FADE. -/
def execFadeExpiry (s : State) : Host.Outcome State Fault Refusal :=
  .next (if s.receiver.line = .fade ∧ s.receiver.fadeTimer.isSome then
    settle (raiseLine .carrierLost (enterIdle s))
  else s)

/-- R69: the sample that ends a received frame that is not a break. -/
def execFrameReceived (low high : FilterReading) (s : State) : Host.Outcome State Fault Refusal :=
  .next (if endsReceivedFrame ⟨low, high⟩ s.receiver then sampleLine ⟨low, high⟩ s else s)

/-- R68: the sample that ends a received break. -/
def execReceivedBreak (low high : FilterReading) (s : State) : Host.Outcome State Fault Refusal :=
  .next (if endsReceivedBreak ⟨low, high⟩ s.receiver then sampleLine ⟨low, high⟩ s else s)

/-- R61: one sample of the line, whatever it brings about. -/
def execLineSample (low high : FilterReading) (s : State) : Host.Outcome State Fault Refusal :=
  .next (sampleLine ⟨low, high⟩ s)

end Sys2Proof.Machine
end

