-- ==== Sys2Proof/Machine/Reset.lean ====
section
/-! DEFINITION. The commands of reset and start-up: PIN_RESET, RSTI_RELEASE, START_UP_FETCH (R164, R165). -/

namespace Sys2Proof.Machine

/-- R164: at the assertion of RSTI every block takes its pin-reset values and any memory grant under way is abandoned. What the paper sensor shows is not the part's to reset. -/
def execPinReset (s : State) : Host.Outcome State Fault Refusal :=
  .next { State.reset with pending := s.pending, pins := { State.reset.pins with paper := s.pins.paper } }

/-- R164: at the release of RSTI the start-up state becomes FETCHING and the start-up fetch is requested. -/
def execRstiRelease (s : State) : Host.Outcome State Fault Refusal :=
  .next (if s.passage.startUp = .holding then
    requestGrant .startUp (s.onPassage fun p => { p with startUp := .fetching })
  else s)

/-- R165: the option record is taken. -/
def takeOptions (option0 option1 : Byte) (s : State) : State :=
  ((s.onPassage fun p =>
      { p with
        page := pageOfOption option0, answerbackLock := option1.getLsbD 0, keymapLock := option1.getLsbD 1
        startUp := .released }).onCarriage fun c => { c with wrap := option1.getLsbD 2 }).onReceiver fun r =>
    { r with channel := channelOfBit (option1.getLsbD 3), options := { r.options with enqAnswer := option1.getLsbD 4 } }

/-- R164: the release of the host reset, from which the other blocks begin: the scan timer, the header load, the first readings with the sample timer, the judgement of the causes (R135) and the home seek. -/
def beginBlocks (millivolts : Nat) (millidegrees : Int) (s : State) : State :=
  let scanning := requestHeaderLoad (s.onKeyboard fun k => { k with scanTimer := some Config.scanPeriod })
  let sensed := takeReadings millivolts millidegrees scanning
  beginSeek (setCauses (!s.pins.paper) sensed.carriage.hot sensed.carriage.battery sensed.carriage.jam sensed)

/-- R164: the two-cycle read of the option record completes and HRSTO is released. -/
def execStartUpFetch (option0 option1 : Byte) (millivolts : Nat) (millidegrees : Int) (s : State) :
    Host.Outcome State Fault Refusal :=
  .next (if s.arbiter.grant = some .startUp then
    finishGrant [.read Config.optionAddress option0, .read (Config.optionAddress + 1) option1]
      (fun t => beginBlocks millivolts millidegrees (takeOptions option0 option1 t)) s
  else s)

end Sys2Proof.Machine
end

