-- ==== Sys2Proof/Machine/Switch.lean ====
section
/-! DEFINITION. The command TAKE: a waiting source is taken, and its character delivered to every joined sink at that one moment (R10, R12, R22, R40, R111, R112). -/

namespace Sys2Proof.Machine

/-- R6, R7, R8, R10: a source is taken when it has a character on offer and every blocking sink of its row in force is ready to it. -/
def canTake (source : WaitingSource) (s : State) : Bool :=
  let row := s.switch.row source
  (offered source s).isSome &&
    (!row.print || (printRoom s && placeFallsTo (match source with
      | .keyboard => .keyboard
      | .sendRing => .sendRing
      | .answerback => .answerback) s)) &&
    (!row.lineOut || lineOutReady source s)

/-- R9: after a take that places a character in the holding slot the round-robin pointer names the other of KEYBOARD and SEND RING; ANSWERBACK takes do not move it. -/
def movePointer (source : WaitingSource) (s : State) : State :=
  match source with
  | .keyboard => s.onSwitch fun c => { c with roundRobin := .sendRing }
  | .sendRing => s.onSwitch fun c => { c with roundRobin := .keyboard }
  | .answerback => s

/-- R7, R12: the delivery to LINE-OUT: the holding slot on a call, otherwise discarded with tx-discarded. -/
def deliverLineOut (source : WaitingSource) (character : Byte) (s : State) : State :=
  if s.receiver.line.onCall then
    movePointer source (s.onTransmitter fun t => { t with slot := .character character })
  else setTxDiscarded s

/-- R12: the character is delivered to every sink in its source's row in force; RECEIVE RING is a legal sink of KEYBOARD alone among the sources that wait. -/
def deliver (source : WaitingSource) (character : Byte) (s : State) : State :=
  let row := s.switch.row source
  let sent := if row.lineOut then deliverLineOut source character s else s
  let printed := if row.print then appendPrint (.character (printCode character)) sent else sent
  if source = .keyboard ∧ joinedRing row s = true then offerRecord (plainRecord .keyboardCharacter character) printed
  else printed

/-- R23: the level that TX-ROOM is compared with: the room level or the capacity, whichever is smaller. -/
def Rings.workingRoomLevel (r : Rings) : Nat := min r.roomLevel r.sendCapacity

/-- R22, R23: the take of the prefetched byte advances the send tail, TX-ROOM is requested at or below the level, and the next fetch is requested. -/
def advanceSendTail (s : State) : State :=
  let moved := s.onRings fun r =>
    { r with sendTail := ringNext r.sendTail (ringSlots r.sendSize), prefetched := none }
  requestSendFetch
    (if moved.rings.sendOccupancy ≤ moved.rings.workingRoomLevel then raise .txRoom moved else moved)

/-- R111, R112: the take of an answerback byte: the pointer advances and the remaining count falls; at 0 the run ends complete, otherwise the next read is requested. -/
def advanceAnswerback (s : State) : State :=
  let moved := s.onAnswerback fun a =>
    { a with prefetched := none, pointer := a.pointer + 1, remaining := a.remaining - 1 }
  if moved.answerback.remaining = 0 then completeAnswerback moved else requestAnswerbackRead moved

/-- What the take does at the source: R40 for the keyboard, R22 for the send ring, R111 for the answerback. -/
def leaveSource (source : WaitingSource) (s : State) : State :=
  match source with
  | .keyboard => finishEvent (requestClick s)
  | .sendRing => advanceSendTail s
  | .answerback => advanceAnswerback s

/-- R10: a waiting source is taken at a moment at which its blocking sinks are ready. -/
def execTake (source : WaitingSource) (s : State) : Host.Outcome State Fault Refusal :=
  .next (match offered source s with
    | some character => if canTake source s then settle (leaveSource source (deliver source character s)) else s
    | none => s)

end Sys2Proof.Machine
end

