-- ==== Sys2Proof/Machine/TransmitterEvents.lean ====
section
/-! DEFINITION. The commands of the Line Transmitter, the Tone Synthesizer and the remote-pause timer (chapters 04 and 05). -/

namespace Sys2Proof.Machine

/-- R86: the bit boundary at which a frame starts. -/
def execFrameStart (s : State) : Host.Outcome State Fault Refusal :=
  .next (if startsFrame s.transmitter then bitBoundary s else s)

/-- R87: the bit boundary that closes a frame's last stop bit. -/
def execFrameEnd (s : State) : Host.Outcome State Fault Refusal :=
  .next (if endsFrame s.transmitter then bitBoundary s else s)

/-- R88: the code of a flow request, as it stands in force. -/
def flowCode (kind : FlowCode) (s : State) : Byte :=
  match kind with
  | .pause => s.receiver.pauseCode
  | .resume => s.receiver.resumeCode

/-- R88: the requested code moves into the empty holding slot, and the flow request returns to none. -/
def placeFlowCode (kind : FlowCode) (s : State) : State :=
  s.onTransmitter fun t => { t with slot := .flow kind (flowCode kind s), flowRequest := none }

/-- R88: while a flow request is set and the holding slot is empty, the code is placed. -/
def execFlowCodePlaced (s : State) : Host.Outcome State Fault Refusal :=
  .next (match s.transmitter.flowRequest with
    | some kind => if s.transmitter.slot = .empty then settle (placeFlowCode kind s) else s
    | none => s)

/-- R90: the bit boundary at which a pending break begins. -/
def execBreakStart (s : State) : Host.Outcome State Fault Refusal :=
  .next (if startsBreak s.transmitter then bitBoundary s else s)

/-- R91: POST-BREAK begins, on mark. A boundary that falls at the moment of the expiry is not after it, so one that is still due is no longer counted. -/
def enterPostBreak (s : State) : State :=
  lineTone .mark (s.onTransmitter fun t => { t with state := .postBreak 0, breakTimer := none, boundaryDue := false })

/-- R91: the break timer expires in BREAKING. -/
def execBreakTimerExpiry (s : State) : Host.Outcome State Fault Refusal :=
  .next (if s.transmitter.state = .breaking ∧ s.transmitter.breakTimer.isSome then enterPostBreak s else s)

/-- R91: the third bit boundary after the break timer's expiry. -/
def execPostBreakEnd (s : State) : Host.Outcome State Fault Refusal :=
  .next (if endsPostBreak s.transmitter then bitBoundary s else s)

/-- R84: a bit boundary, whatever it brings about. -/
def execBitBoundary (s : State) : Host.Outcome State Fault Refusal := .next (bitBoundary s)

/-- R105: the remote-pause timer expires: remote pause is cleared. -/
def execRemotePauseTimerExpiry (s : State) : Host.Outcome State Fault Refusal :=
  .next (if s.flow.remotePauseTimer.isSome then clearRemotePause s else s)

/-- R82: the request in progress ends and the sounder becomes SILENT. -/
def endSound (s : State) : State :=
  s.onTones fun t => { t with sounder := t.sounder.silence, request := none, sounderTimer := none }

/-- R82: the sounder timer expires. -/
def execSounderTimerExpiry (s : State) : Host.Outcome State Fault Refusal :=
  .next (if s.tones.sounderTimer.isSome then endSound s else s)

/-- R74, R75: one synthesis sample of a voice: a SOUNDING voice forms its output from its accumulator as it stands, and then adds its increment; a SILENT voice holds 128. -/
def Voice.sample (v : Voice) (level : BitVec 4) : Voice :=
  if v.sounding then { v with output := dacOutput level v.accumulator, accumulator := v.accumulator + v.increment }
  else { v with output := 128 }

/-- R74: one period of the synthesis clock, which runs from the release of pin reset onward. -/
def execSynthesisSample (s : State) : Host.Outcome State Fault Refusal :=
  .next (if s.passage.startUp = .holding then s
  else s.onTones fun t => { t with line := t.line.sample t.lineLevel, sounder := t.sounder.sample t.sounderLevel })

end Sys2Proof.Machine
end

