-- ==== Sys2Proof/Machine/Dispatch.lean ====
section
/-! DEFINITION. What each command does: one arm per constructor of `Instr`, one direct call of its meaning. -/

namespace Sys2Proof.Machine

/-- The effect of a command on everything but the queue of waiting commands. -/
def exec (i : Instr) (s : State) : Host.Outcome State Fault Refusal :=
  match i with
  | .pinReset => Sys2Proof.Machine.execPinReset s
  | .rstiRelease => Sys2Proof.Machine.execRstiRelease s
  | .startUpFetch option0 option1 batteryMillivolts headMillidegrees => Sys2Proof.Machine.execStartUpFetch option0 option1 batteryMillivolts headMillidegrees s
  | .attentionCodeRead => Sys2Proof.Machine.execAttentionCodeRead s
  | .serviceEnd data => Sys2Proof.Machine.execServiceEnd data s
  | .statusWrite data => Sys2Proof.Machine.execStatusWrite data s
  | .refusedCauseWrite data => Sys2Proof.Machine.execRefusedCauseWrite data s
  | .maskWrite field data => Sys2Proof.Machine.execMaskWrite field data s
  | .joinRowWrite row data => Sys2Proof.Machine.execJoinRowWrite row data s
  | .ringPlacementWrite field data => Sys2Proof.Machine.execRingPlacementWrite field data s
  | .keymapBaseWrite half data => Sys2Proof.Machine.execKeymapBaseWrite half data s
  | .lineSetupWrite data => Sys2Proof.Machine.execLineSetupWrite data s
  | .lineOptionsWrite data => Sys2Proof.Machine.execLineOptionsWrite data s
  | .ringPauseLevelWrite data => Sys2Proof.Machine.execRingPauseLevelWrite data s
  | .answerbackSetupWrite field data => Sys2Proof.Machine.execAnswerbackSetupWrite field data s
  | .keyboardOptionsWrite data => Sys2Proof.Machine.execKeyboardOptionsWrite data s
  | .setupWrite offset data => Sys2Proof.Machine.execSetupWrite offset data s
  | .withheldWrite address data => Sys2Proof.Machine.execWithheldWrite address data s
  | .headCapture data => Sys2Proof.Machine.execHeadCapture data s
  | .headerCapture entry data => Sys2Proof.Machine.execHeaderCapture entry data s
  | .consumeRead data => Sys2Proof.Machine.execConsumeRead data s
  | .lineOnOriginate => Sys2Proof.Machine.execLineOnOriginate s
  | .lineOnAnswer => Sys2Proof.Machine.execLineOnAnswer s
  | .lineOff => Sys2Proof.Machine.execLineOff s
  | .sendBreak => Sys2Proof.Machine.execSendBreak s
  | .sendAnswerback => Sys2Proof.Machine.execSendAnswerback s
  | .setMode => Sys2Proof.Machine.execSetMode s
  | .flushPrint => Sys2Proof.Machine.execFlushPrint s
  | .feedLine => Sys2Proof.Machine.execFeedLine s
  | .setTab => Sys2Proof.Machine.execSetTab s
  | .clearTab => Sys2Proof.Machine.execClearTab s
  | .clearAllTabs => Sys2Proof.Machine.execClearAllTabs s
  | .restart => Sys2Proof.Machine.execRestart s
  | .unknown code => Sys2Proof.Machine.execUnknown code s
  | .scanPass readings => Sys2Proof.Machine.execScanPass readings s
  | .headerLoad byte0 byte1 byte2 byte3 => Sys2Proof.Machine.execHeaderLoad byte0 byte1 byte2 byte3 s
  | .eligibilityRead data => Sys2Proof.Machine.execEligibilityRead data s
  | .repeatTimerExpiry => Sys2Proof.Machine.execRepeatTimerExpiry s
  | .translationRead data => Sys2Proof.Machine.execTranslationRead data s
  | .feedAppend => Sys2Proof.Machine.execFeedAppend s
  | .take source => Sys2Proof.Machine.execTake source s
  | .carrierPresent low high => Sys2Proof.Machine.execCarrierPresent low high s
  | .carrierAbsent low high => Sys2Proof.Machine.execCarrierAbsent low high s
  | .listenExpiry => Sys2Proof.Machine.execListenExpiry s
  | .qualifyExpiry => Sys2Proof.Machine.execQualifyExpiry s
  | .fadeExpiry => Sys2Proof.Machine.execFadeExpiry s
  | .frameReceived low high => Sys2Proof.Machine.execFrameReceived low high s
  | .receivedBreak low high => Sys2Proof.Machine.execReceivedBreak low high s
  | .frameStart => Sys2Proof.Machine.execFrameStart s
  | .frameEnd => Sys2Proof.Machine.execFrameEnd s
  | .flowCodePlaced => Sys2Proof.Machine.execFlowCodePlaced s
  | .breakStart => Sys2Proof.Machine.execBreakStart s
  | .breakTimerExpiry => Sys2Proof.Machine.execBreakTimerExpiry s
  | .postBreakEnd => Sys2Proof.Machine.execPostBreakEnd s
  | .remotePauseTimerExpiry => Sys2Proof.Machine.execRemotePauseTimerExpiry s
  | .sounderTimerExpiry => Sys2Proof.Machine.execSounderTimerExpiry s
  | .entryHandling => Sys2Proof.Machine.execEntryHandling s
  | .motionEnd => Sys2Proof.Machine.execMotionEnd s
  | .returnEnd home => Sys2Proof.Machine.execReturnEnd home s
  | .feedEnd => Sys2Proof.Machine.execFeedEnd s
  | .paperOut => Sys2Proof.Machine.execPaperOut s
  | .paperPresent => Sys2Proof.Machine.execPaperPresent s
  | .paperTimerExpiry => Sys2Proof.Machine.execPaperTimerExpiry s
  | .homeSeekStart => Sys2Proof.Machine.execHomeSeekStart s
  | .homeFound => Sys2Proof.Machine.execHomeFound s
  | .seekTimerExpiry => Sys2Proof.Machine.execSeekTimerExpiry s
  | .glyphFetch column1 column2 column3 column4 column5 => Sys2Proof.Machine.execGlyphFetch column1 column2 column3 column4 column5 s
  | .backStep => Sys2Proof.Machine.execBackStep s
  | .settleExpiry => Sys2Proof.Machine.execSettleExpiry s
  | .strobeRelease row => Sys2Proof.Machine.execStrobeRelease row s
  | .groupStart => Sys2Proof.Machine.execGroupStart s
  | .columnTimerExpiry => Sys2Proof.Machine.execColumnTimerExpiry s
  | .sensorReading batteryMillivolts headMillidegrees => Sys2Proof.Machine.execSensorReading batteryMillivolts headMillidegrees s
  | .grantStart => Sys2Proof.Machine.execGrantStart s
  | .waitTimerExpiry requester => Sys2Proof.Machine.execWaitTimerExpiry requester s
  | .receivePlacement => Sys2Proof.Machine.execReceivePlacement s
  | .sendFetch data => Sys2Proof.Machine.execSendFetch data s
  | .answerbackRead data => Sys2Proof.Machine.execAnswerbackRead data s
  | .lineSample low high => Sys2Proof.Machine.execLineSample low high s
  | .bitBoundary => Sys2Proof.Machine.execBitBoundary s
  | .synthesisSample => Sys2Proof.Machine.execSynthesisSample s
  | .commandWriteWithheld code => Sys2Proof.Machine.execCommandWriteWithheld code s

end Sys2Proof.Machine
end

