-- ==== Sys2Proof/Machine/Step.lean ====
section
/-! DEFINITION. One step: the command at the front of the queue is taken and has its effect. -/

namespace Sys2Proof.Machine

/-- The command at the front of the queue runs with the queue's rest; on an empty queue the part idles (log 1). -/
def step (s : State) : Host.Outcome State Fault Refusal :=
  match s.pending with
  | [] => .next s
  | command :: rest => exec command { s with pending := rest }

/-- The command that the word spells is put at the front of the queue; no word spells one, since the table gives no row any bits (log 7). -/
def State.withFetchWord (s : State) (nbits w : Nat) : State :=
  match decodeTableWord nbits w with
  | some command => { s with pending := command :: s.pending }
  | none => s

end Sys2Proof.Machine
end

