-- ==== Sys2Proof/Safety.lean ====
section
/-! DEFINITION. The terms that claims about the part are stated in: the free memory port, what a command leaves alone, and the invariants that the manual's rules promise of every state. -/

namespace Sys2Proof.Machine

/-! ## Host cycles -/

/-- R164, R171, R173: the host may make a cycle and it passes at once: the host reset is released, no cycle is held, no grant runs and no wait timer stands at 16 µs. -/
def portFree (s : State) : Prop :=
  s.passage.startUp = .released ∧ s.arbiter.held = none ∧ s.arbiter.grant = none ∧ stretchDue s.arbiter = false

/-- No command is RUNNING, so a command write is taken (R169). -/
def commandFree (s : State) : Prop := s.command.result ≠ .running

/-- R160, R163: the host cycle that a host-cycle command makes, as it is judged at its start: its address, its byte and its outcome. -/
def hostCycleOf (command : Instr) (s : State) : Option HostCycle :=
  let write (address : Addr) (data : Byte) := some (HostCycle.write address data (judgeWrite address s))
  let read (address : Addr) (data : Byte) := some (HostCycle.read address data (judgeRead address s))
  let control (offset : Offset) (data : Byte) := write (controlAddress s.passage.page offset) data
  match command with
  | .attentionCodeRead => read (controlAddress s.passage.page 0x04#6) 0
  | .serviceEnd data => control 0x04#6 data
  | .statusWrite data => control 0x03#6 data
  | .refusedCauseWrite data => control 0x3E#6 data
  | .maskWrite .maskLow data => control 0x08#6 data
  | .maskWrite .maskHigh data => control 0x09#6 data
  | .maskWrite .urgentLow data => control 0x0A#6 data
  | .maskWrite .urgentHigh data => control 0x0B#6 data
  | .joinRowWrite .keyboard data => control 0x1A#6 data
  | .joinRowWrite .lineIn data => control 0x1B#6 data
  | .joinRowWrite .sendRing data => control 0x1C#6 data
  | .joinRowWrite .answerback data => control 0x1D#6 data
  | .ringPlacementWrite .receiveBaseLow data => control 0x1E#6 data
  | .ringPlacementWrite .receiveBaseHigh data => control 0x1F#6 data
  | .ringPlacementWrite .receiveSize data => control 0x20#6 data
  | .ringPlacementWrite .sendBaseLow data => control 0x25#6 data
  | .ringPlacementWrite .sendBaseHigh data => control 0x26#6 data
  | .ringPlacementWrite .sendSize data => control 0x27#6 data
  | .keymapBaseWrite .low data => control 0x2B#6 data
  | .keymapBaseWrite .high data => control 0x2C#6 data
  | .lineSetupWrite data => control 0x0E#6 data
  | .lineOptionsWrite data => control 0x0F#6 data
  | .ringPauseLevelWrite data => control 0x22#6 data
  | .answerbackSetupWrite .baseLow data => control 0x33#6 data
  | .answerbackSetupWrite .baseHigh data => control 0x34#6 data
  | .answerbackSetupWrite .length data => control 0x35#6 data
  | .keyboardOptionsWrite data => control 0x2E#6 data
  | .setupWrite offset data => control offset data
  | .withheldWrite address data => write address data
  | .headCapture data => write (s.rings.sendBase + BitVec.ofNat 16 s.rings.sendHead) data
  | .headerCapture .shiftA data => write s.keyboard.keymapBase data
  | .headerCapture .shiftB data => write (s.keyboard.keymapBase + 1) data
  | .headerCapture .control data => write (s.keyboard.keymapBase + 2) data
  | .headerCapture .lock data => write (s.keyboard.keymapBase + 3) data
  | .consumeRead data => read (s.rings.receiveBase + BitVec.ofNat 16 (2 * s.rings.receiveTail + 1)) data
  | .lineOnOriginate => control 0x00#6 0x01#8
  | .lineOnAnswer => control 0x00#6 0x02#8
  | .lineOff => control 0x00#6 0x03#8
  | .sendBreak => control 0x00#6 0x04#8
  | .sendAnswerback => control 0x00#6 0x05#8
  | .setMode => control 0x00#6 0x06#8
  | .flushPrint => control 0x00#6 0x07#8
  | .feedLine => control 0x00#6 0x08#8
  | .setTab => control 0x00#6 0x09#8
  | .clearTab => control 0x00#6 0x0A#8
  | .clearAllTabs => control 0x00#6 0x0B#8
  | .restart => control 0x00#6 0x0C#8
  | .unknown code => control 0x00#6 code
  | .commandWriteWithheld code => control 0x00#6 code
  | _ => none

/-- R171: the command is the completion of the running grant; the start-up fetch, during which the host is held in reset, is left out. -/
def completesGrant (command : Instr) (grant : Grant) : Bool :=
  match command, grant with
  | .receivePlacement, .placement _ _ _ _ => true
  | .sendFetch _, .send _ _ => true
  | .answerbackRead _, .answerback _ _ => true
  | .headerLoad _ _ _ _, .headerLoad _ _ => true
  | .eligibilityRead _, .eligibility _ _ => true
  | .translationRead _, .translation _ _ => true
  | .glyphFetch _ _ _ _ _, .glyph _ _ => true
  | _, _ => false

/-! ## Frames -/

/-- The blocks of `State`. -/
inductive Block where
  | passage | status | pins | arbiter | switch | rings | keyboard | translator | receiver | transmitter | tones | flow
  | answerback | carriage | dot | sensor | command | attention | pending
deriving DecidableEq, Repr

/-- The two states agree on a block. -/
def agreeOn (b : Block) (s t : State) : Prop :=
  match b with
  | .passage => t.passage = s.passage
  | .status => t.status = s.status
  | .pins => t.pins = s.pins
  | .arbiter => t.arbiter = s.arbiter
  | .switch => t.switch = s.switch
  | .rings => t.rings = s.rings
  | .keyboard => t.keyboard = s.keyboard
  | .translator => t.translator = s.translator
  | .receiver => t.receiver = s.receiver
  | .transmitter => t.transmitter = s.transmitter
  | .tones => t.tones = s.tones
  | .flow => t.flow = s.flow
  | .answerback => t.answerback = s.answerback
  | .carriage => t.carriage = s.carriage
  | .dot => t.dot = s.dot
  | .sensor => t.sensor = s.sensor
  | .command => t.command = s.command
  | .attention => t.attention = s.attention
  | .pending => t.pending = s.pending

/-- Nothing outside the listed blocks has changed. -/
def changesOnly (blocks : List Block) (s t : State) : Prop := ∀ b, b ∉ blocks → agreeOn b s t

/-- What the judgement of the demands and of the waits for PRINT, which ends an event (R6, R99), may touch: the waits, the outbound flow state, the two demands, the flow request, and a flow code in the holding slot that is cancelled. -/
def judgementTouches (s t : State) : Prop :=
  t.switch = { s.switch with printWaits := t.switch.printWaits } ∧
  t.flow = { s.flow with state := t.flow.state, printDemand := t.flow.printDemand, ringDemand := t.flow.ringDemand } ∧
  t.transmitter = { s.transmitter with flowRequest := t.transmitter.flowRequest, slot := t.transmitter.slot } ∧
  (t.transmitter.slot = s.transmitter.slot ∨
    (t.transmitter.slot = .empty ∧ ∃ kind code, s.transmitter.slot = .flow kind code))

/-- With `s` as the event itself leaves the Character Switch, the Flow Controller and the Line Transmitter, the judgement that ends the event leaves them in `t` as it gives them for the rest of `t` (R6, R99; DemandJudgement says what it gives), and it touches nothing else of them. -/
def onlySettles (s t : State) : Prop :=
  judgementTouches s t ∧ t = settle { t with switch := s.switch, flow := s.flow, transmitter := s.transmitter }

/-- Nothing outside the listed blocks has changed, but for what the judgement of the demands and of the waits brings about. -/
def settlesOnly (blocks : List Block) (s t : State) : Prop :=
  changesOnly (.switch :: .flow :: .transmitter :: blocks) s t ∧ onlySettles s t

/-- The memory side carried the host's write to an offset of the control block, and the host data lines and the paper sensor stand as before (R160, R167). -/
def hostWrote (offset : Offset) (data : Byte) (s t : State) : Prop :=
  t.pins = { s.pins with memory := [.write (controlAddress s.passage.page offset) data] }

/-- The request flags after a source is requested, or not. -/
def flagIf (b : Bool) (a : AttentionSource) : BitVec 10 := if b then BitVec.twoPow 10 a.bit else 0

/-! ## The entry to IDLE (R57) -/

/-- R93: the holding slot holds a character, which the entry discards. -/
def discardsCharacter (s : State) : Bool :=
  match s.transmitter.slot with
  | .character _ => true
  | _ => false

/-- R93: the entry ends a SEND-BREAK whose break is pending or under way. -/
def cutsCommandBreak (s : State) : Bool :=
  s.transmitter.breakBusy && s.transmitter.breakByCommand && s.command.running = some .sendBreak

/-- R57, R113: the entry aborts the answerback. -/
def abortsAnswerback (s : State) : Bool := s.answerback.running && s.switch.answerback.lineOut

/-- The requests that an entry to IDLE raises, LINE apart: LOSS, ANSWERBACK-END and COMMAND-END. -/
def idleRequests (s : State) : BitVec 10 :=
  flagIf (discardsCharacter s && !s.status.txDiscarded) .loss ||| flagIf (abortsAnswerback s) .answerbackEnd |||
    flagIf (cutsCommandBreak s) .commandEnd

/-- R113: an abort of the answerback, block by block: the unit, its read and the deferred row. -/
def answerbackAborted (s t : State) : Prop :=
  t.answerback = { s.answerback with running := false, prefetched := none, lastResult := .aborted } ∧
  t.arbiter.answerback = .absent ∧ grantLive .answerback t = false ∧ t.switch.deferred = none ∧
  t.switch.answerback = s.switch.deferred.getD s.switch.answerback

/-- R113, R172: the arbiter after an abort of the answerback: a waiting read is cancelled, and the bytes of a running one will be discarded. -/
def arbiterAfterAbort (s : State) : Arbiter :=
  { s.arbiter with
    answerback := .absent
    grant := match s.arbiter.grant with
      | some (.answerback address _) => some (.answerback address true)
      | grant => grant }

/-- R57: the Line Receiver after an entry to IDLE. -/
def idleReceiver (s : State) : LineReceiver :=
  { s.receiver with
    line := .idle, carrier := false, window := .acquisition, framer := .stopped
    listenTimer := none, qualifyTimer := none, fadeTimer := none }

/-- R57, R93: the Line Transmitter after an entry to IDLE. -/
def idleTransmitter (s : State) : LineTransmitter :=
  { s.transmitter with
    state := .off, slot := .empty, shifter := none, flowRequest := none
    breakPending := false, breakByCommand := false
    bitClock := none, boundaryDue := false, breakTimer := none }

/-- R57, R79: the Tone Synthesizer after an entry to IDLE. -/
def idleTones (s : State) : ToneSynthesizer := { s.tones with line := { s.tones.line with sounding := false } }

/-- R57, R103: the Flow Controller after an entry to IDLE. -/
def idleFlow (s : State) : FlowController :=
  { s.flow with
    state := .clear, printDemand := false, ringDemand := false, remotePause := false, remotePauseTimer := none }

/-- R57: what an entry to IDLE does in the Line Receiver, the Line Transmitter, the Tone Synthesizer, the Flow Controller and the Answerback Unit, and what it leaves alone in the rings, the keyboard and the printer. -/
def enteredIdle (s t : State) : Prop :=
  t.receiver = idleReceiver s ∧ t.transmitter = idleTransmitter s ∧ t.tones = idleTones s ∧ t.flow = idleFlow s ∧
  t.status = { s.status with txDiscarded := s.status.txDiscarded || discardsCharacter s } ∧
  (if abortsAnswerback s then answerbackAborted s t else t.answerback = s.answerback) ∧
  t.arbiter = (if abortsAnswerback s then arbiterAfterAbort s else s.arbiter) ∧
  onlySettles
    { s with
      flow := idleFlow s, transmitter := idleTransmitter s
      switch := if abortsAnswerback s then
          { s.switch with answerback := s.switch.deferred.getD s.switch.answerback, deferred := none }
        else s.switch } t

/-! ## Offers and sounds -/

/-- R17: an offered record is accepted while fewer than 4 are staged and occupancy plus the staged records is below the capacity. -/
def recordFits (s : State) : Bool :=
  s.rings.staged.length < 4 && s.rings.receiveOccupancy + s.rings.staged.length < s.rings.receiveCapacity

/-- R17: the Ring Unit after the offer of a record, or unchanged where none is offered. -/
def ringsAfterOffer (offered : Bool) (record : ReceiveRecord) (s : State) : Rings :=
  if !offered then s.rings
  else if recordFits s then
    { s.rings with staged := s.rings.staged ++ [{ record with lossBefore := s.rings.lossMark }], lossMark := false }
  else { s.rings with lossMark := true }

/-- R18, R111, R172: the wait of requester `r` after a request for its grant, or after none: a request begins to wait unless one waits already or its grant is running. -/
def waitAfterRequest (requested : Bool) (r : Requester) (s : State) : Wait :=
  if requested = true ∧ grantLive r s = false ∧ s.arbiter.wait r = .absent then .waiting else s.arbiter.wait r

/-- R17: the offered record is lost. -/
def losesRecord (offered : Bool) (s : State) : Bool := offered && !recordFits s

/-- R80, R81: the Tone Synthesizer after a CLICK is requested with click enabled, and unchanged otherwise. -/
def tonesAfterClick (s : State) : ToneSynthesizer :=
  if s.keyboard.click = false then s.tones
  else
    match s.tones.request with
    | none =>
      { s.tones with
        sounder := { s.tones.sounder with sounding := true, accumulator := 0, increment := 3413 }
        request := some .click, sounderTimer := some 3 }
    | some .click =>
      { s.tones with
        sounder := { s.tones.sounder with increment := 3413 }, request := some .click, sounderTimer := some 3 }
    | some _ => s.tones

/-- R80, R81: the Tone Synthesizer after a CHIRP is requested. -/
def tonesAfterChirp (s : State) : ToneSynthesizer :=
  match s.tones.request with
  | none =>
    { s.tones with
      sounder := { s.tones.sounder with sounding := true, accumulator := 0, increment := 501 }
      request := some .chirp, sounderTimer := some 80 }
  | some .bell => s.tones
  | some _ =>
    { s.tones with
      sounder := { s.tones.sounder with increment := 501 }, request := some .chirp, sounderTimer := some 80 }

/-- R80, R81: the Tone Synthesizer after a BELL is requested; no request outranks it. -/
def tonesAfterBell (s : State) : ToneSynthesizer :=
  match s.tones.request with
  | none =>
    { s.tones with
      sounder := { s.tones.sounder with sounding := true, accumulator := 0, increment := 1001 }
      request := some .bell, sounderTimer := some 200 }
  | some _ =>
    { s.tones with
      sounder := { s.tones.sounder with increment := 1001 }, request := some .bell, sounderTimer := some 200 }

/-- R29: the position that a header byte names. -/
def namedPosition (data : Byte) : Option Position := if h : data.toNat < 64 then some ⟨data.toNat, h⟩ else none

/-- R172: the wait of the key-map requester after reads have joined its queue: the first of an empty queue begins to wait. -/
def keymapWait (s t : State) : Wait :=
  if s.arbiter.keymapQueue = [] ∧ t.arbiter.keymapQueue ≠ [] then .waiting else s.arbiter.keymap

/-- R38: the event at the head leaves the key queue, and the translator fetches for the next one or is IDLE. -/
def eventLeft (s t : State) : Prop :=
  t.keyboard.queue = s.keyboard.queue.tail ∧
  t.translator = (if s.keyboard.queue.tail = [] then .idle else .fetching) ∧
  t.arbiter.keymapQueue = s.arbiter.keymapQueue ++ (if s.keyboard.queue.tail = [] then [] else [.translation]) ∧
  t.arbiter.keymap = keymapWait s t

/-! ## Local functions (R42 to R46) -/

/-- R4, R5: the join table after a preset whose sending rows hold LINE-OUT and PRINT as given; the ANSWERBACK row of an answerback that runs on is deferred. -/
def rowsPreset (lineOut print runs : Bool) (c : CharSwitch) : CharSwitch :=
  let sending : Row := ⟨lineOut, print, false⟩
  { c with
    keyboard := ⟨lineOut, print, true⟩, lineIn := ⟨false, true, true⟩, sendRing := sending
    answerback := if runs then c.answerback else sending
    deferred := if runs then some sending else c.deferred }

/-- R42: LINE/LOCAL takes the line to IDLE. -/
def goesLocal (code : Byte) (s : State) : Bool := code = 0x81#8 && s.receiver.line ≠ .idle

/-- R42, R46: the join table after a local function, but for the waits for PRINT. -/
def switchAfterFunction (code : Byte) (s : State) : CharSwitch :=
  let half := decide (s.keyboard.onlinePreset = .half)
  if goesLocal code s then
    if abortsAnswerback s then
      rowsPreset false true false
        { s.switch with answerback := s.switch.deferred.getD s.switch.answerback, deferred := none }
    else rowsPreset false true s.answerback.running s.switch
  else if code = 0x81#8 then rowsPreset true half s.answerback.running s.switch
  else if code = 0x87#8 ∧ (s.receiver.line = .data ∨ s.receiver.line = .fade) then
    rowsPreset true (!half) s.answerback.running s.switch
  else s.switch

/-- R42, R50, R57, R90: the Line Transmitter after a local function, but for what the judgement of the demands touches. -/
def transmitterAfterFunction (code : Byte) (s : State) : LineTransmitter :=
  if goesLocal code s then idleTransmitter s
  else if code = 0x81#8 ∧ s.receiver.channel = .answer then
    { s.transmitter with state := .markIdle, bitClock := some 0, boundaryDue := false }
  else if code = 0x80#8 ∧ (s.receiver.line = .data ∨ s.receiver.line = .fade) ∧ s.transmitter.breakBusy = false then
    { s.transmitter with breakPending := true, breakByCommand := false }
  else s.transmitter

/-! ## The line sample -/

/-- R60: what the part hears of a sample of the line: the high pair in the originate channel, the low pair in the answer channel. -/
def heardBy (s : State) (line : LineInput) : FilterReading :=
  match s.receiver.channel with
  | .originate => line.high
  | .answer => line.low

/-- R61: the energy average that a sample of energy e forms. -/
def sampleE (energy : Byte) (s : State) : Nat :=
  let w := match s.receiver.window with
    | .acquisition => 32
    | .tracking => 128
  (((energy :: s.receiver.history).take w).map BitVec.toNat).sum / w

/-- R62: the off-threshold in force. -/
def offThreshold (s : State) : Nat := min s.receiver.offThreshold.toNat s.receiver.onThreshold.toNat

/-- R61: the Line Receiver after a sample that changes neither the carrier, the line state nor the framer. -/
def sampledReceiver (energy : Byte) (s : State) : LineReceiver :=
  { s.receiver with history := (energy :: s.receiver.history).take 128, energy := sampleE energy s }

/-- R84: the bit clock counts the sample and marks a bit boundary at the sixteenth. -/
def clockTicked (s t : State) : Prop :=
  match s.transmitter.bitClock with
  | none => t.transmitter.bitClock = none ∧ t.transmitter.boundaryDue = s.transmitter.boundaryDue
  | some n =>
    if n + 1 < 16 then
      t.transmitter.bitClock = some (n + 1) ∧ t.transmitter.boundaryDue = s.transmitter.boundaryDue
    else t.transmitter.bitClock = some 0 ∧ t.transmitter.boundaryDue = true

/-- A sample of the line that ends no frame: it reaches the receiver and the bit clock, and the event ends with the judgement of the demands and the waits. -/
def sampleOnly (s t : State) : Prop :=
  clockTicked s t ∧ changesOnly [.receiver, .transmitter, .switch, .flow] s t ∧
  onlySettles
    { s with transmitter := { s.transmitter with
        bitClock := t.transmitter.bitClock, boundaryDue := t.transmitter.boundaryDue } } t

/-- The bit `i` of a frame, counted from the start bit as bit 0, voted mark. -/
def votedMark (progress : FrameProgress) (i : Nat) : Bool := progress.votes.getD i .mark = .mark

/-- R64: the data bits of a format. -/
def dataBitsOf (format : Nat) : Nat := if format = 4 ∨ format = 7 then 8 else 7

/-- R66: the character of a frame, its data bits assembled least significant bit first with the bits above them 0. -/
def carries (character : Byte) (format : Nat) (progress : FrameProgress) : Prop :=
  ∀ i : Fin 8, character.getLsbD i = (decide (i.val < dataBitsOf format) && votedMark progress (i.val + 1))

/-- R64, R67: the voted parity bit, bit 8, does not match the format for the voted data bits 1 to 7; formats 4 and 7 have none. -/
def frameParityError (format : Nat) (progress : FrameProgress) : Bool :=
  let odd := (List.range 7).foldl (fun acc i => acc != votedMark progress (i + 1)) false
  match format with
  | 0 => votedMark progress 8 != odd
  | 5 => votedMark progress 8 != odd
  | 1 => votedMark progress 8 == odd
  | 6 => votedMark progress 8 == odd
  | 2 => !votedMark progress 8
  | 3 => votedMark progress 8
  | _ => false

/-- R66 to R68: the frame stands at sample 15 of its voted stop bit, bit 9 in every format, so that the next sample ends it. -/
def atFrameEnd (progress : FrameProgress) : Prop :=
  progress.bit = 9 ∧ progress.sample = 15 ∧ progress.votes.length = 10

/-- R68: every voted bit of the frame is space. -/
def allSpace (progress : FrameProgress) : Prop := ∀ v ∈ progress.votes, v = Tone.space

/-! ## The Line Transmitter and the line voice -/

/-- R86, R87: the bit time under way is that of a frame's last stop bit, so that the next boundary closes the frame. -/
def frameCloses (s : State) : Bool :=
  decide (s.transmitter.state = .sending) && s.transmitter.shifter.any fun f => decide (f.bits.length ≤ f.reached + 1)

/-- R89: the Line Transmitter after a cancellation: the flow request is none, and a flow code in the holding slot is removed. -/
def flowCodeCancelled (s : State) : LineTransmitter :=
  { s.transmitter with
    flowRequest := none
    slot := match s.transmitter.slot with
      | .flow _ _ => .empty
      | slot => slot }

/-- R8, R88, R91: on a call LINE-OUT can take a character: the holding slot is empty, no flow code waits for it, the line is not remote-paused, and neither a break nor the mark after it is being sent. -/
def lineOutFree (s : State) : Prop :=
  s.transmitter.slot = .empty ∧ s.transmitter.flowRequest = none ∧ s.flow.remotePause = false ∧
  s.transmitter.state ≠ .breaking ∧ ∀ n, s.transmitter.state ≠ .postBreak n

/-- R9: a running answerback whose row holds LINE-OUT keeps LINE-OUT to itself. -/
def answerbackHoldsLine (s : State) : Prop := s.answerback.running = true ∧ s.switch.answerback.lineOut = true

/-- R9: the keyboard's character is eligible for LINE-OUT: it is on offer, its row holds LINE-OUT, and PRINT does not hold it up. -/
def keyboardEligible (s : State) : Prop :=
  (∃ character, s.translator = .offering character) ∧ s.switch.keyboard.lineOut = true ∧
  (s.switch.keyboard.print = true → s.carriage.queue.length < 48)

/-- R9: the send ring's byte is eligible for LINE-OUT. -/
def sendRingEligible (s : State) : Prop :=
  s.rings.prefetched ≠ none ∧ s.switch.sendRing.lineOut = true ∧
  (s.switch.sendRing.print = true → s.carriage.queue.length < 48)

/-- R7 to R9: LINE-OUT does not hold back a source whose row is `row`: it is not joined, or the character is discarded off a call, or LINE-OUT is free and its arbiter grants the source. -/
def lineOutAdmits (row : Row) (granted : Prop) (s : State) : Prop :=
  row.lineOut = true → (s.receiver.line = .data ∨ s.receiver.line = .fade) → lineOutFree s ∧ granted

/-- R7 to R10: every blocking sink but PRINT is ready to the source KEYBOARD. -/
def lineOutAdmitsKeyboard (s : State) : Prop :=
  lineOutAdmits s.switch.keyboard
    (¬ answerbackHoldsLine s ∧ (sendRingEligible s → s.switch.roundRobin = .keyboard)) s

/-- R7 to R10: every blocking sink but PRINT is ready to the source SEND RING. -/
def lineOutAdmitsSendRing (s : State) : Prop :=
  lineOutAdmits s.switch.sendRing
    (¬ answerbackHoldsLine s ∧ (keyboardEligible s → s.switch.roundRobin = .sendRing)) s

/-- R6: a FEED in FEED-WAIT, or a source with a character on offer, waits. -/
def waits (w : Waiter) (s : State) : Prop :=
  match w with
  | .keyboard => ∃ character, s.translator = .offering character
  | .sendRing => s.rings.prefetched ≠ none
  | .answerback => s.answerback.prefetched ≠ none
  | .feed => s.translator = .feedWait

/-- R6, R45: what the waiter holds goes to PRINT. -/
def goesToPrint (w : Waiter) (s : State) : Prop :=
  match w with
  | .keyboard => s.switch.keyboard.print = true
  | .sendRing => s.switch.sendRing.print = true
  | .answerback => s.switch.answerback.print = true
  | .feed => True

/-- R6: the waiter could fill a free place of the print queue: what it holds goes to PRINT, and every other blocking sink of its row is ready. -/
def couldFill (w : Waiter) (s : State) : Prop :=
  waits w s ∧ goesToPrint w s ∧
  match w with
  | .keyboard => lineOutAdmitsKeyboard s
  | .sendRing => lineOutAdmitsSendRing s
  | .answerback => lineOutAdmits s.switch.answerback (answerbackHoldsLine s) s
  | .feed => True

/-- R77, R79: the line voice changes to a tone of the pair that the channel sends, its phase kept. -/
def tonesOn (tone : Tone) (s : State) : ToneSynthesizer :=
  { s.tones with
    line := { s.tones.line with
      increment := match s.receiver.channel, tone with
        | .originate, .mark => 1445
        | .originate, .space => 1217
        | .answer, .mark => 2532
        | .answer, .space => 2304 } }

/-- R79, R84: the transmitter leaves OFF for MARK-IDLE: the bit clock starts and the line voice starts from silence on mark. -/
def leftOff (s t : State) : Prop :=
  t.transmitter.state = .markIdle ∧ t.transmitter.bitClock = some 0 ∧ t.transmitter.boundaryDue = false ∧
  t.tones = { s.tones with
    line := { s.tones.line with
      sounding := true, accumulator := 0
      increment := match s.receiver.channel with
        | .originate => 1445
        | .answer => 2532 } }

/-- The code in the holding slot. -/
def slotCode (s : State) : Option Byte :=
  match s.transmitter.slot with
  | .empty => none
  | .character code => some code
  | .flow _ code => some code

/-- R89: the outbound flow state after the start of the frame that the holding slot holds. -/
def flowAfterStart (s : State) : FlowState :=
  match s.transmitter.slot, s.flow.state with
  | .flow .pause _, .pausePending => .paused
  | .flow .resume _, .resumePending => .clear
  | _, state => state

/-- R86 to R91: what follows at a boundary at which the shifter is free: a pending break, or else the frame of the code in the slot, or else MARK-IDLE. -/
def freeBoundary (s t : State) : Prop :=
  if s.transmitter.breakPending then
    t.transmitter = { s.transmitter with
      boundaryDue := false, state := .breaking, breakPending := false, shifter := none
      breakTimer := some (match s.transmitter.breakLengthCode with
        | 0 => 100
        | 1 => 250
        | 2 => 500
        | _ => 1000) } ∧
    t.tones = tonesOn .space s ∧ t.flow = s.flow
  else
    match slotCode s with
    | some code =>
      t.transmitter = { s.transmitter with
        boundaryDue := false, state := .sending, slot := .empty
        shifter := some ⟨frameBits s.receiver.formatCode code, 0⟩ } ∧
      t.tones = tonesOn .space s ∧ t.flow = { s.flow with state := flowAfterStart s }
    | none =>
      t.transmitter = { s.transmitter with boundaryDue := false, state := .markIdle, shifter := none } ∧
      t.tones = tonesOn .mark s ∧ t.flow = s.flow

/-! ## Voices -/

/-- R75: the sine table of 64 entries. -/
def sineEntry (i : Nat) : Int :=
  let quarter : List Int := [0, 12, 23, 35, 46, 57, 67, 76, 85, 93, 100, 106, 111, 115, 118, 119, 120]
  if i ≤ 16 then quarter.getD i 0
  else if i < 32 then quarter.getD (32 - i) 0
  else if i ≤ 48 then -quarter.getD (i - 32) 0
  else -quarter.getD (64 - i) 0

/-- R74 to R76: one synthesis sample of a voice at a level. -/
def voiceSampled (level : BitVec 4) (before after : Voice) : Prop :=
  if before.sounding then
    (after.output.toNat : Int) = 128 + Int.fdiv (level.toNat * sineEntry (before.accumulator.toNat / 1024)) 15 ∧
    after.accumulator.toNat = (before.accumulator.toNat + before.increment.toNat) % 65536 ∧
    after = { before with output := after.output, accumulator := after.accumulator }
  else after = { before with output := 128 }

/-! ## Columns (R140 to R143) -/

/-- R140, R145 to R149: the Dot Firing Unit `d` after the step of a column under the readings `m`. -/
def steppedDot (column : Nat) (d : DotFiring) (m : SensorMonitor) : DotFiring :=
  let inputs : ColumnInputs :=
    ⟨d.density, if m.battery < 100 then min d.budget 2 else d.budget, m.battery, m.temperature⟩
  { d with
    state := .settle, column := column, columnTimer := some 5000, settleTimer := some 300
    inputs := inputs, freshWidth := freshWidthOf inputs, warmWidth := warmWidthOf inputs }

/-- R136: the unit `d` after the handover of a glyph code, with or without a back-step order. -/
def handedDot (glyph : BitVec 7) (backStep : Bool) (d : DotFiring) (m : SensorMonitor) : DotFiring :=
  let requested := { d with history := 0, glyph := .requested, code := glyph }
  if backStep then { requested with state := .backStep 0 } else steppedDot 1 requested m

/-- R141, R155: the unit has stopped: IDLE, its history empty and its glyph discarded. That the end of a cell discards the glyph as RESTART does is the model's choice (log 33). -/
def stoppedDot (d : DotFiring) : DotFiring :=
  { d with
    state := .idle, glyph := .absent, history := 0, columnTimer := none, settleTimer := none, strobes := 0
    groups := [], stopping := false }

/-! ## The boundary between operations (R121, R130, R134) -/

/-- R121, R130: what follows the end of an operation that leaves the Dot Firing Unit as `d`: HALTED with a cause set and the pending operations kept; otherwise the next pending operation, or READY with PRINT-IDLE when the queue is empty and an entry has been consumed. -/
def operationFollows (pending : List Operation) (d : DotFiring) (s t : State) : Prop :=
  if t.carriage.anyCause then
    t.carriage.state = .halted ∧ t.carriage.pending = pending ∧
      t.carriage.consumedSinceIdle = s.carriage.consumedSinceIdle ∧ t.dot = d ∧ t.arbiter = s.arbiter
  else
    match pending with
    | [] =>
      t.carriage.state = .ready ∧ t.carriage.pending = [] ∧
      t.carriage.consumedSinceIdle = (s.carriage.consumedSinceIdle && s.carriage.queue ≠ []) ∧ t.dot = d ∧
      t.arbiter = s.arbiter
    | .feed :: rest =>
      t.carriage.state = .feeding ∧ t.carriage.pending = rest ∧ t.carriage.motionTimer = some 24 ∧
      t.carriage.consumedSinceIdle = s.carriage.consumedSinceIdle ∧ t.dot = d ∧ t.arbiter = s.arbiter
    | .print glyph :: rest =>
      t.carriage.state = .printing ∧ t.carriage.pending = rest ∧
      t.carriage.consumedSinceIdle = s.carriage.consumedSinceIdle ∧
      t.dot = handedDot glyph (t.carriage.position = some 80) d s.sensor ∧ t.arbiter.font ≠ .absent ∧
      t.arbiter = { s.arbiter with font := t.arbiter.font }
    | _ => True

/-- R134: PRINT-IDLE is requested at that boundary. -/
def boundaryIdle (pending : List Operation) (s t : State) : Bool :=
  !t.carriage.anyCause && pending = [] && s.carriage.queue = [] && s.carriage.consumedSinceIdle

/-! ## The end of a firing and of a cell (R141, R143) -/

/-- Only the Dot Firing Unit has changed of the printer: the carriage, the arbiter and the requests stand as before. -/
def unitAlone (s t : State) : Prop := t.carriage = s.carriage ∧ t.arbiter = s.arbiter ∧ t.attention = s.attention

/-- R120 to R122, R141: the cell that the unit `d` has printed ends: the position is one further, but stays 80 at the margin, and the boundary between operations follows. -/
def cellEnded (d : DotFiring) (s t : State) : Prop :=
  t.carriage = { s.carriage with
    position := s.carriage.position.map fun p => if p = 80 then 80 else p + 1
    state := t.carriage.state, pending := t.carriage.pending, motionTimer := t.carriage.motionTimer
    consumedSinceIdle := t.carriage.consumedSinceIdle } ∧
  operationFollows s.carriage.pending (stoppedDot d) s t ∧
  t.attention = { s.attention with
    flags := s.attention.flags ||| flagIf (boundaryIdle s.carriage.pending s t) .printIdle }

/-- R136, R140: the pattern of a column of a cell, the columns numbered from 1: the five patterns of the glyph in order, and an empty sixth. -/
def columnOf (glyph : Glyph) (column : Nat) : Rows :=
  match glyph with
  | .held first second third fourth fifth => [0, first, second, third, fourth, fifth, 0].getD column 0
  | _ => 0

/-- R141, R143, R155: the firing of the column that the unit `d` stands at ends: the history becomes the column's pattern, and the dwell lasts until the column timer expires; with the timer expired already, the next column step or the end of the cell follows at once. After RESTART the unit stops instead. -/
def firingEnded (d : DotFiring) (s t : State) : Prop :=
  let dwelling := { d with state := .dwell, history := columnOf d.glyph d.column }
  if d.stopping then t.dot = stoppedDot d ∧ unitAlone s t
  else if d.columnTimer ≠ none then t.dot = dwelling ∧ unitAlone s t
  else if d.column < 6 then t.dot = steppedDot (d.column + 1) dwelling s.sensor ∧ unitAlone s t
  else cellEnded d s t

/-- R140, R152: the firing of a column begins on the unit `d` with the first of its groups, or, for an empty pattern, ends at once. -/
def firingBegun (d : DotFiring) (s t : State) : Prop :=
  let pattern := columnOf d.glyph d.column
  if pattern = 0 then firingEnded d s t
  else
    t.dot.strobes :: t.dot.groups = dotGroups pattern d.inputs.budget ∧
    t.dot = { d with state := .firing, strobes := t.dot.strobes, groups := t.dot.groups } ∧ unitAlone s t

/-! ## Invariants -/

/-- Every setup value stands in the range its owner gives (the clamps of chapters 01 to 07), and so do the readings (R157). -/
def setupInRange (s : State) : Prop :=
  (1 ≤ s.rings.notifyLevel ∧ s.rings.notifyLevel ≤ 127) ∧ s.rings.roomLevel ≤ 255 ∧
  s.rings.receiveSize ≤ 4 ∧ s.rings.sendSize ≤ 5 ∧
  (1 ≤ s.flow.ringPauseLevel ∧ s.flow.ringPauseLevel ≤ 126) ∧ s.flow.timeoutCode ≤ 12 ∧
  s.receiver.rateCode ≤ 3 ∧ s.receiver.formatCode ≤ 7 ∧
  (1 ≤ s.receiver.qualifyCode ∧ s.receiver.qualifyCode ≤ 25) ∧
  (1 ≤ s.receiver.fadeCode ∧ s.receiver.fadeCode ≤ 15) ∧
  (1 ≤ s.receiver.listenCode ∧ s.receiver.listenCode ≤ 12) ∧
  s.transmitter.breakLengthCode ≤ 3 ∧ s.keyboard.delayCode ≤ 3 ∧ s.keyboard.rateCode ≤ 3 ∧
  s.dot.density ≤ 7 ∧ (1 ≤ s.dot.budget ∧ s.dot.budget ≤ 7) ∧ s.answerback.length ≤ 32 ∧
  s.sensor.battery ≤ 255 ∧ (-40 ≤ s.sensor.temperature ∧ s.sensor.temperature ≤ 100)

/-- R186, R187: LINE is never masked and always urgent, and the in-service stack holds at most an URGENT entry above a NORMAL one. -/
def attentionSound (s : State) : Prop :=
  s.attention.masks.getLsbD 0 = false ∧ s.attention.urgent.getLsbD 0 = true ∧
  (s.attention.stack = [] ∨ s.attention.stack = [.normal] ∨ s.attention.stack = [.urgent] ∨
    s.attention.stack = [.urgent, .normal])

/-- R34, R119, R17: no queue holds more than its capacity. -/
def queuesBounded (s : State) : Prop :=
  s.keyboard.queue.length ≤ Config.keyQueueCapacity ∧ s.carriage.queue.length ≤ Config.printQueueCapacity ∧
  s.rings.staged.length ≤ Config.stagingCapacity

/-- R6: a place is kept for the longest wait only while it is the one place of a full queue that an entry has just left. -/
def freedPlaceSound (s : State) : Prop := s.switch.freedPlace = true → s.carriage.queue.length = 47

/-- R126: the tab stops are strictly increasing, each from 1 to 79, and at most 16. -/
def tabsOrdered (s : State) : Prop :=
  s.carriage.tabStops.Pairwise (· < ·) ∧ (∀ cell ∈ s.carriage.tabStops, 1 ≤ cell ∧ cell ≤ 79) ∧
  s.carriage.tabStops.length ≤ Config.tabStopCapacity

/-- R14, R17: the receive indices lie in the ring, occupancy plus the staged records never exceeds the capacity, and a placement runs only for a staged record. -/
def receiveRingSound (s : State) : Prop :=
  s.rings.receiveSize ≤ 4 ∧
  s.rings.receiveHead < max 1 (ringSlots s.rings.receiveSize) ∧ s.rings.receiveTail < max 1 (ringSlots s.rings.receiveSize) ∧
  s.rings.receiveOccupancy + s.rings.staged.length ≤ s.rings.receiveCapacity ∧
  (grantLive .receiveWriter s = true → s.rings.staged ≠ [])

/-- R160: a held host write that was judged a head write found the send ring on. -/
def heldHeadWrite (s : State) : Prop :=
  match s.arbiter.held with
  | some (.write _ _ (.passed true _)) => s.rings.sendSize ≠ 0
  | _ => True

/-- R21, R22: the send indices lie in the ring, and the Ring Unit fetches and offers only while the ring holds a byte, one byte at a time. -/
def sendRingSound (s : State) : Prop :=
  s.rings.sendSize ≤ 5 ∧
  s.rings.sendHead < max 1 (ringSlots s.rings.sendSize) ∧ s.rings.sendTail < max 1 (ringSlots s.rings.sendSize) ∧
  (s.rings.prefetched ≠ none → 0 < s.rings.sendOccupancy) ∧
  (grantLive .sendRing s = true → 0 < s.rings.sendOccupancy ∧ s.rings.prefetched = none) ∧
  (s.arbiter.sendRing ≠ .absent →
    0 < s.rings.sendOccupancy ∧ s.rings.prefetched = none ∧ grantLive .sendRing s = false) ∧
  heldHeadWrite s

/-- R5, R109, R111: a running answerback has 1 to 32 bytes left; only a running one reads, offers a byte or holds back a deferred row. -/
def answerbackSound (s : State) : Prop :=
  s.answerback.length ≤ 32 ∧ s.answerback.remaining ≤ 32 ∧
  (s.answerback.running = true → 1 ≤ s.answerback.remaining) ∧
  (s.answerback.prefetched ≠ none → s.answerback.running = true) ∧
  (s.switch.deferred ≠ none → s.answerback.running = true) ∧
  (grantLive .answerback s = true → s.answerback.running = true ∧ s.answerback.prefetched = none) ∧
  (s.arbiter.answerback ≠ .absent →
    s.answerback.running = true ∧ s.answerback.prefetched = none ∧ grantLive .answerback s = false)

/-- R164: until the release of the host reset the part stands at its pin-reset values: only the start-up fetch is asked for or runs, and only the paper sensor moves. -/
def resetHeld (s : State) : Prop :=
  s.passage.startUp ≠ .released →
    s.passage = { State.reset.passage with startUp := s.passage.startUp } ∧
    s.arbiter = { State.reset.arbiter with startUp := s.arbiter.startUp, grant := s.arbiter.grant } ∧
    (s.arbiter.grant = none ∨ s.arbiter.grant = some .startUp) ∧
    (s.arbiter.startUp ≠ .absent ∨ s.arbiter.grant ≠ none → s.passage.startUp = .fetching) ∧
    s.pins = { State.reset.pins with paper := s.pins.paper } ∧
    s = { State.reset with passage := s.passage, arbiter := s.arbiter, pins := s.pins, pending := s.pending }

/-- The start-up fetch is asked for and runs only in FETCHING (R164). -/
def startUpSound (s : State) : Prop :=
  (s.arbiter.startUp ≠ .absent ∨ s.arbiter.grant = some .startUp → s.passage.startUp = .fetching) ∧
  (s.arbiter.grant = some .startUp → s.arbiter.startUp = .absent) ∧ resetHeld s

/-- R51 to R57: the line timers, the carrier, the energy window and the framer follow the line state. -/
def receiverSound (s : State) : Prop :=
  (s.receiver.listenTimer.isSome ↔ s.receiver.line = .listen ∨ s.receiver.line = .qualify) ∧
  (s.receiver.qualifyTimer.isSome ↔ s.receiver.line = .qualify) ∧
  (s.receiver.fadeTimer.isSome ↔ s.receiver.line = .fade) ∧
  (s.receiver.carrier = true ↔ s.receiver.line = .qualify ∨ s.receiver.line = .data) ∧
  (s.receiver.window = .tracking ↔ s.receiver.line.onCall = true) ∧
  (s.receiver.framer = .stopped ↔ s.receiver.line.onCall = false) ∧
  (s.receiver.line = .fade → s.receiver.framer = .hunt .mark)

/-- R65 to R67: the frame in progress has voted every bit up to the one reached, keeps the decisions of samples 7 and 8 of that bit, and lies within the ten bits of a received frame. -/
def framerSound (s : State) : Prop :=
  s.receiver.formatCode ≤ 7 ∧
  ∀ p : FrameProgress, s.receiver.framer = .frame p →
    p.bit ≤ 9 ∧ 1 ≤ p.sample ∧ p.sample ≤ 16 ∧ ¬ (p.bit = 9 ∧ p.sample = 16) ∧
    p.votes.length = p.bit + (if 9 ≤ p.sample then 1 else 0) ∧
    p.early.length = (if p.sample < 7 then 0 else if p.sample = 7 then 1 else 2)

/-- R7, R57, R93, R96, R103: off a call nothing waits to be sent: the transmitter is OFF or in MARK-IDLE with nothing held, and the Flow Controller is CLEAR with no demand and no remote pause. -/
def offCallQuiet (s : State) : Prop :=
  s.receiver.line.onCall = false →
    (s.transmitter.state = .off ∨ s.transmitter.state = .markIdle) ∧ s.transmitter.slot = .empty ∧
    s.transmitter.shifter = none ∧ s.transmitter.flowRequest = none ∧ s.transmitter.breakPending = false ∧
    s.transmitter.breakTimer = none ∧ s.flow.state = .clear ∧ s.flow.printDemand = false ∧
    s.flow.ringDemand = false ∧ s.flow.remotePause = false ∧ s.flow.remotePauseTimer = none

/-- R79, R84: the transmitter is out of OFF on a call, and in LISTEN and QUALIFY in the answer channel alone; the bit clock runs and the line voice sounds then and only then. -/
def transmitterSound (s : State) : Prop :=
  (s.transmitter.state ≠ .off ↔
    s.receiver.line.onCall = true ∨ (s.receiver.line ≠ .idle ∧ s.receiver.channel = .answer)) ∧
  (s.tones.line.sounding = true ↔ s.transmitter.state ≠ .off) ∧
  (s.transmitter.bitClock ≠ none ↔ s.transmitter.state ≠ .off) ∧
  (s.transmitter.boundaryDue = true → s.transmitter.state ≠ .off)

/-- R77, R80, R82: the sounder timer runs and the sounder sounds exactly while a sounder request is in progress. -/
def sounderSound (s : State) : Prop :=
  (s.tones.request ≠ none ↔ s.tones.sounderTimer ≠ none) ∧
  (s.tones.request ≠ none ↔ s.tones.sounder.sounding = true)

/-- The operations that may follow another in an entry's handling: a feed and a print (R122, R124). -/
def Operation.mayFollow : Operation → Bool
  | .print _ => true
  | .feed => true
  | _ => false

/-- R120, R128 to R131: the position, the target, the halts and the timers of the carriage agree with its state. -/
def carriageSound (s : State) : Prop :=
  (s.carriage.position.all (· ≤ 80)) = true ∧
  (s.carriage.position = none → s.carriage.state = .homeSeek ∨ (s.carriage.state = .halted ∧ s.carriage.jam = true)) ∧
  (s.carriage.state = .homeSeek → s.carriage.position = none) ∧
  (s.carriage.state = .moving → s.carriage.target ≤ 80) ∧
  (∀ op ∈ s.carriage.pending, op.mayFollow = true) ∧
  (s.carriage.state = .ready → s.carriage.pending = [] ∧ s.carriage.anyCause = false) ∧
  (s.carriage.state = .halted → s.carriage.anyCause = true) ∧
  (s.carriage.seekTimer ≠ none → s.carriage.state = .homeSeek ∧ s.carriage.stopping = none) ∧
  (s.carriage.stopping ≠ none → s.carriage.state = .homeSeek) ∧
  (s.carriage.paperTimer ≠ none → s.carriage.paper = true ∧ s.pins.paper = true)

/-- R136, R155: the Dot Firing Unit is out of IDLE during a PRINTING operation, and while RESTART lets one finish its back step or firing, and at no other time. -/
def firingSound (s : State) : Prop :=
  (s.carriage.state = .printing → s.dot.state ≠ .idle ∧ s.dot.stopping = false) ∧
  (s.dot.state ≠ .idle →
    s.carriage.state = .printing ∨
      (s.carriage.state = .homeSeek ∧ s.dot.stopping = true ∧ s.carriage.stopping = some .printing)) ∧
  (s.dot.stopping = true → s.dot.state = .firing ∨ ∃ made, s.dot.state = .backStep made)

/-- R141, R150, R152: a strobe line is driven only in FIRING, and no more lines together than the effective budget of the column. -/
def strobesSound (s : State) : Prop :=
  (s.dot.strobes ≠ 0 ∨ s.dot.groups ≠ [] → s.dot.state = .firing) ∧
  (rowsOf s.dot.strobes).length ≤ s.dot.inputs.budget ∧
  ∀ g ∈ s.dot.groups, (rowsOf g).length ≤ s.dot.inputs.budget

/-- The printer's invariant: start-up, tab stops, carriage, unit and strobes together. -/
def printerSound (s : State) : Prop :=
  startUpSound s ∧ tabsOrdered s ∧ carriageSound s ∧ firingSound s ∧ strobesSound s

/-- R36 to R38: the translator is IDLE exactly while the key queue is empty, the repeat timer runs exactly while there is a repeat key, and with repeat disabled there is none and none can be chosen. -/
def keyboardSound (s : State) : Prop :=
  (s.translator = .idle ↔ s.keyboard.queue = []) ∧
  (s.keyboard.repeatTimer = none ↔ s.keyboard.repeatKey = none) ∧
  (s.keyboard.repeatEnable = false →
    s.keyboard.repeatKey = none ∧
    ∀ e ∈ s.keyboard.eligibility, e.eligible = [] ∧ ∀ r ∈ e.outstanding, r.discarded = true)

/-- R99: the demands held are those that R97 and R98 give for the state as it stands. -/
def demandsJudged (s : State) : Prop :=
  judgedPrintDemand s = s.flow.printDemand ∧ judgedRingDemand s = s.flow.ringDemand

/-- R100, R101: the outbound flow state is PAUSE-PENDING or PAUSED exactly while a demand is held. -/
def flowFollowsDemand (s : State) : Prop :=
  (s.flow.state = .pausePending ∨ s.flow.state = .paused) ↔ (s.flow.printDemand = true ∨ s.flow.ringDemand = true)

/-- R100 to R102: the flow request and the code in the slot are the ones the outbound flow state is waiting to send. -/
def flowSound (s : State) : Prop :=
  (s.transmitter.flowRequest = some .pause → s.flow.state = .pausePending) ∧
  (s.transmitter.flowRequest = some .resume → s.flow.state = .resumePending) ∧
  (∀ code, s.transmitter.slot = .flow .pause code → s.flow.state = .pausePending ∧ s.transmitter.flowRequest = none) ∧
  (∀ code, s.transmitter.slot = .flow .resume code → s.flow.state = .resumePending ∧ s.transmitter.flowRequest = none)

end Sys2Proof.Machine
end

