-- ==== Sys2Proof/WellFormed.lean ====
section
/-! DEFINITION. Which terms of `Instr` are commands of the table: the three rows whose operand the types do not already bound. -/

namespace Sys2Proof

/-- R170: the offsets whose writes have a row of their own in the table; SETUP_WRITE is the row of every other offset. -/
def Offset.hasOwnRow (offset : Offset) : Bool :=
  [0x00, 0x03, 0x04, 0x08, 0x09, 0x0A, 0x0B, 0x0E, 0x0F, 0x1A, 0x1B, 0x1C, 0x1D, 0x1E, 0x1F, 0x20, 0x22,
   0x25, 0x26, 0x27, 0x2B, 0x2C, 0x2E, 0x33, 0x34, 0x35, 0x3E].contains offset.toNat

/-- R176: the codes 01h to 0Ch are commands; every other code, 00h included, is taken as UNKNOWN. -/
def isCommandCode (code : Byte) : Bool := 1 ≤ code.toNat && code.toNat ≤ 12

/-- A term is a command of the table: SETUP_WRITE names an offset without a row of its own (R167), UNKNOWN a code outside the table of R176, and STROBE_RELEASE a head row 1 to 7 (R152).
Every other constructor's operands are bounded by their types. -/
def Instr.wellFormed : Instr → Bool
  | .setupWrite offset _ => !offset.hasOwnRow
  | .unknown code => !isCommandCode code
  | .strobeRelease row => 1 ≤ row && row ≤ 7
  | _ => true

end Sys2Proof
end

