-- ==== Sys2Proof/Certificates/Slice0/Obligations.lean ====
section
/-! DEFINITION. What is claimed of the model: what each command does from the states its rules name, what it leaves alone, and what every step keeps. -/

open Sys2Proof Sys2Proof.Machine

/-! ## Steps, reset and start-up -/

/-- A step runs the command at the front of the queue, with the queue's rest. -/
def Obligations.StepRunsFrontCommand : Prop :=
  ∀ (command : Instr) (rest : List Instr) (s : State),
    s.pending = command :: rest → step s = exec command { s with pending := rest }

/-- R164 and the reset tables of the chapters: PIN_RESET gives every block the reset values that the manual states, stops every timer, holds the host and abandons a running grant. R135 gives the carriage HOME-SEEK only from the release of the host reset: that it stands in HOME-SEEK from PIN_RESET on is the model's choice (log 4). -/
def Obligations.PinResetValues : Prop :=
  ∀ s : State, ∃ t, exec .pinReset s = .next t ∧
    t.pending = s.pending ∧ t.passage.startUp = .holding ∧ hostResetAsserted t = true ∧ hostWait t = false ∧
    t.arbiter.grant = none ∧ firstWaiting t.arbiter = none ∧ t.arbiter.keymapQueue = [] ∧
    (∀ r : Requester, t.arbiter.wait r = .absent) ∧
    t.passage.lastRefused = 0 ∧ t.passage.refusedCause = .noCause ∧ t.passage.commandOverrun = false ∧
    t.passage.operand = 0 ∧ statusByte t = 0 ∧
    (t.switch.keyboard = ⟨false, true, true⟩ ∧ t.switch.lineIn = ⟨false, true, true⟩ ∧
      t.switch.sendRing = ⟨false, true, false⟩ ∧ t.switch.answerback = ⟨false, true, false⟩ ∧
      t.switch.deferred = none ∧ t.switch.roundRobin = .keyboard) ∧
    (t.rings.receiveSize = 0 ∧ t.rings.sendSize = 0 ∧ t.rings.receiveBase = 0 ∧ t.rings.sendBase = 0 ∧
      t.rings.receiveHead = 0 ∧ t.rings.receiveTail = 0 ∧ t.rings.sendHead = 0 ∧ t.rings.sendTail = 0 ∧
      t.rings.staged = [] ∧ t.rings.lossMark = false ∧ t.rings.prefetched = none ∧
      t.rings.notifyLevel = 1 ∧ t.rings.roomLevel = 0) ∧
    ((∀ p : Position, t.keyboard.positions[p] = KeyState.up) ∧ t.keyboard.header = ⟨none, none, none, none⟩ ∧
      t.keyboard.lock = false ∧ t.keyboard.queue = [] ∧ t.keyboard.repeatKey = none ∧ t.keyboard.repeatTimer = none ∧
      t.keyboard.keymapBase = 0 ∧ t.keyboard.delayCode = 1 ∧ t.keyboard.rateCode = 1 ∧ t.keyboard.click = true ∧
      t.keyboard.repeatEnable = true ∧ t.keyboard.onlinePreset = .full ∧ t.keyboard.eligibility = [] ∧
      t.keyboard.scanTimer = none ∧ t.translator = .idle) ∧
    (t.receiver.line = .idle ∧ t.receiver.carrier = false ∧ t.receiver.history = List.replicate 128 0 ∧
      t.receiver.window = .acquisition ∧ t.receiver.rateCode = 2 ∧ t.receiver.formatCode = 0 ∧
      t.receiver.onThreshold = 40 ∧ t.receiver.offThreshold = 28 ∧ t.receiver.qualifyCode = 6 ∧
      t.receiver.fadeCode = 4 ∧ t.receiver.listenCode = 6 ∧ t.receiver.options.inboundFlow = true ∧
      t.receiver.options.outboundFlow = true ∧ t.receiver.options.crImpliesLf = false ∧
      t.receiver.options.breakFlushesPrint = false ∧ t.receiver.listenTimer = none ∧
      t.receiver.qualifyTimer = none ∧ t.receiver.fadeTimer = none ∧ t.receiver.framer = .stopped ∧
      t.receiver.pauseCode = 0x13#8 ∧ t.receiver.resumeCode = 0x11#8) ∧
    (t.transmitter.state = .off ∧ t.transmitter.slot = .empty ∧ t.transmitter.shifter = none ∧
      t.transmitter.flowRequest = none ∧ t.transmitter.breakPending = false ∧ t.transmitter.bitClock = none ∧
      t.transmitter.breakTimer = none ∧ t.transmitter.breakLengthCode = 1) ∧
    (t.tones.line.sounding = false ∧ t.tones.sounder.sounding = false ∧ t.tones.line.output = 128 ∧
      t.tones.sounder.output = 128 ∧ t.tones.line.accumulator = 0 ∧ t.tones.sounder.accumulator = 0 ∧
      t.tones.request = none ∧ t.tones.sounderTimer = none ∧ t.tones.lineLevel = 12 ∧ t.tones.sounderLevel = 8) ∧
    (t.flow.state = .clear ∧ t.flow.printDemand = false ∧ t.flow.ringDemand = false ∧ t.flow.remotePause = false ∧
      t.flow.remotePauseTimer = none ∧ t.flow.ringPauseLevel = 8 ∧ t.flow.timeoutCode = 6) ∧
    (t.answerback.running = false ∧ t.answerback.pointer = 0 ∧ t.answerback.remaining = 0 ∧
      t.answerback.prefetched = none ∧ t.answerback.lastResult = .noResult ∧ t.answerback.base = 0 ∧
      t.answerback.length = 0) ∧
    (t.carriage.queue = [] ∧ t.carriage.pending = [] ∧ t.carriage.state = .homeSeek ∧ t.carriage.position = none ∧
      t.carriage.tabStops = [8, 16, 24, 32, 40, 48, 56, 64, 72] ∧ t.carriage.anyCause = false ∧
      t.carriage.paperTimer = none ∧ t.carriage.seekTimer = none ∧ t.carriage.consumedSinceIdle = false) ∧
    (t.dot.state = .idle ∧ t.dot.history = 0 ∧ t.dot.glyph = .absent ∧ t.dot.density = 3 ∧ t.dot.budget = 4 ∧
      t.dot.fontBase = 0 ∧ t.dot.columnTimer = none ∧ t.dot.settleTimer = none ∧ t.dot.strobes = 0 ∧
      t.dot.groups = [] ∧ t.sensor.sampleTimer = none) ∧
    (t.command.last = 0 ∧ t.command.result = .noResult ∧ t.command.running = none) ∧
    (t.attention.flags = 0 ∧ readControl 0x08#6 t = 0xFE#8 ∧ readControl 0x09#6 t = 0x03#8 ∧
      readControl 0x0A#6 t = 0x13#8 ∧ readControl 0x0B#6 t = 0x00#8 ∧ t.attention.stack = [] ∧
      t.attention.lineCause = .noCause ∧ t.attention.severalChanges = false ∧ attn t = false)

/-- R164, R165: RSTI_RELEASE asks for the start-up fetch; its completion takes the option record, releases the host and begins the header load, the readings, the judgement of the causes and the home seek. -/
def Obligations.StartUpSequence : Prop :=
  (∀ s : State, s.passage.startUp = .holding → s.arbiter.startUp = .absent →
    ∃ t, exec .rstiRelease s = .next t ∧
      t.passage = { s.passage with startUp := .fetching } ∧ t.arbiter = { s.arbiter with startUp := .waiting } ∧
      changesOnly [.passage, .arbiter] s t) ∧
  (∀ (s : State) (option0 option1 : Byte) (millivolts : Nat) (millidegrees : Int),
    startUpSound s → s.passage.startUp = .fetching → s.arbiter.grant = some .startUp →
    ∃ t, exec (.startUpFetch option0 option1 millivolts millidegrees) s = .next t ∧
      t.pins.memory = [.read 0x00F4#16 option0, .read 0x00F5#16 option1] ∧
      t.passage = { s.passage with
        startUp := .released
        page := if option0 = 0x00#8 ∨ option0 = 0xFF#8 then 0xFE#8 else option0
        answerbackLock := option1.getLsbD 0, keymapLock := option1.getLsbD 1 } ∧
      hostResetAsserted t = false ∧
      t.receiver = { s.receiver with
        channel := if option1.getLsbD 3 then .answer else .originate
        options := { s.receiver.options with enqAnswer := option1.getLsbD 4 } } ∧
      t.arbiter.grant = none ∧ t.arbiter.keymapQueue = [.headerLoad] ∧ t.arbiter.keymap = .waiting ∧
      t.keyboard = { s.keyboard with scanTimer := some 8 } ∧
      t.sensor = ⟨min (millivolts / 50) 255, max (-40) (min (Int.fdiv millidegrees 1000) 100), some 100⟩ ∧
      t.carriage = { s.carriage with
        wrap := option1.getLsbD 2, state := .homeSeek, position := none, seekTimer := some 240
        paper := !s.pins.paper, hot := 65 ≤ t.sensor.temperature, battery := t.sensor.battery < 88 } ∧
      t.attention = { s.attention with flags := s.attention.flags ||| flagIf t.carriage.anyCause .printFault } ∧
      settlesOnly [.passage, .pins, .arbiter, .receiver, .keyboard, .sensor, .carriage, .attention] s t)

/-! ## Attention and the control block -/

/-- R188, R190: the read of 04h returns and takes the highest eligible request: urgent before normal, and within each group the lowest code; with none eligible it returns 0 and changes nothing. -/
def Obligations.AttentionReadTakes : Prop :=
  ∀ s : State, portFree s →
    ∃ t, exec .attentionCodeRead s = .next t ∧ changesOnly [.pins, .attention] s t ∧
      t.pins.memory = [] ∧ t.pins.paper = s.pins.paper ∧
      ((∀ a ∈ attentionOrder, s.attention.eligible a = false) → t.pins.hostData = 0 ∧ t.attention = s.attention) ∧
      (∀ a ∈ attentionOrder, s.attention.eligible a = true →
        (∀ b ∈ attentionOrder, s.attention.eligible b = true →
          (s.attention.urgent.getLsbD b.bit = true → s.attention.urgent.getLsbD a.bit = true) ∧
          (s.attention.urgent.getLsbD b.bit = s.attention.urgent.getLsbD a.bit → a.code ≤ b.code)) →
        t.pins.hostData = BitVec.ofNat 8 a.code ∧
        t.attention = { s.attention with
          flags := s.attention.flags &&& ~~~BitVec.twoPow 10 a.bit
          stack := (if s.attention.urgent.getLsbD a.bit then .urgent else .normal) :: s.attention.stack
          severalChanges := s.attention.severalChanges && a ≠ .line })

/-- R189: a host write to 04h, whatever the byte, pops the top entry, and eligibility is judged again; a write to 05h leaves the stack alone; 05h reads the depth and the groups, the lower entry first. -/
def Obligations.ServiceEndPops : Prop :=
  (∀ (s : State) (data : Byte), portFree s →
    ∃ t, exec (.serviceEnd data) s = .next t ∧
      t.attention = { s.attention with stack := s.attention.stack.tail } ∧
      (attn t = true ↔ ∃ a : AttentionSource,
        s.attention.flags.getLsbD a.bit = true ∧ s.attention.masks.getLsbD a.bit = false ∧
        (s.attention.stack.tail = [] ∨
          s.attention.stack.tail.head? = some .normal ∧ s.attention.urgent.getLsbD a.bit = true)) ∧
      hostWrote 0x04#6 data s t ∧ settlesOnly [.attention, .pins] s t) ∧
  (∀ (s : State) (data : Byte), portFree s →
    ∃ t, exec (.setupWrite 0x05#6 data) s = .next t ∧ t.attention = s.attention ∧ hostWrote 0x05#6 data s t ∧
      settlesOnly [.pins] s t) ∧
  (∀ s : State,
    (s.attention.stack = [] → readControl 0x05#6 s = 0x00#8) ∧
    (s.attention.stack = [.normal] → readControl 0x05#6 s = 0x01#8) ∧
    (s.attention.stack = [.urgent] → readControl 0x05#6 s = 0x05#8) ∧
    (s.attention.stack = [.urgent, .normal] → readControl 0x05#6 s = 0x0A#8))

/-- R168, R169, R186: a write to 03h clears each sticky flag whose bit is 1; a write to 3Eh clears command-overrun with bit 7; the masks and the urgent group take their bytes, LINE apart. -/
def Obligations.FlagAndMaskWrites : Prop :=
  (∀ (s : State) (data : Byte), portFree s →
    ∃ t, exec (.statusWrite data) s = .next t ∧
      t.status = ⟨s.status.setupRefused && !data.getLsbD 0, s.status.keyLost && !data.getLsbD 1,
        s.status.txDiscarded && !data.getLsbD 2, s.status.printOverrun && !data.getLsbD 3,
        s.status.ringLoss && !data.getLsbD 4, s.status.sendOverflow && !data.getLsbD 5⟩ ∧
      hostWrote 0x03#6 data s t ∧ settlesOnly [.status, .pins] s t) ∧
  (∀ (s : State) (data : Byte), portFree s →
    ∃ t, exec (.refusedCauseWrite data) s = .next t ∧
      t.passage = { s.passage with commandOverrun := s.passage.commandOverrun && !data.getLsbD 7 } ∧
      hostWrote 0x3E#6 data s t ∧ settlesOnly [.passage, .pins] s t) ∧
  (∀ (s : State) (byte : MaskByte) (data : Byte), portFree s →
    ∃ t, exec (.maskWrite byte data) s = .next t ∧
      t.attention = { s.attention with masks := t.attention.masks, urgent := t.attention.urgent } ∧
      (∀ i : Fin 10,
        t.attention.masks.getLsbD i =
          (match byte with
            | .maskLow => if i = 0 then false else if i < 8 then data.getLsbD i else s.attention.masks.getLsbD i
            | .maskHigh => if i = 0 then false else if i < 8 then s.attention.masks.getLsbD i else data.getLsbD (i - 8)
            | _ => s.attention.masks.getLsbD i) ∧
        t.attention.urgent.getLsbD i =
          (match byte with
            | .urgentLow => if i = 0 then true else if i < 8 then data.getLsbD i else s.attention.urgent.getLsbD i
            | .urgentHigh => if i = 0 then true else if i < 8 then s.attention.urgent.getLsbD i else data.getLsbD (i - 8)
            | _ => s.attention.urgent.getLsbD i)) ∧
      hostWrote (match byte with
        | .maskLow => 0x08#6
        | .maskHigh => 0x09#6
        | .urgentLow => 0x0A#6
        | .urgentHigh => 0x0B#6) data s t ∧
      settlesOnly [.attention, .pins] s t)

/-- R2, R5: a host write to a join row is taken with its illegal cells unjoined; the ANSWERBACK row of a running answerback is deferred. -/
def Obligations.JoinRowWriteClamps : Prop :=
  ∀ (s : State) (source : Source) (data : Byte), portFree s →
    ∃ t, exec (.joinRowWrite source data) s = .next t ∧
      t.switch = { s.switch with
        printWaits := t.switch.printWaits
        keyboard := if source = .keyboard then ⟨data.getLsbD 0, data.getLsbD 1, data.getLsbD 2⟩ else s.switch.keyboard
        lineIn := if source = .lineIn then ⟨false, data.getLsbD 1, data.getLsbD 2⟩ else s.switch.lineIn
        sendRing := if source = .sendRing then ⟨data.getLsbD 0, data.getLsbD 1, false⟩ else s.switch.sendRing
        answerback :=
          if source = .answerback ∧ s.answerback.running = false then ⟨data.getLsbD 0, data.getLsbD 1, false⟩
          else s.switch.answerback
        deferred :=
          if source = .answerback ∧ s.answerback.running = true then some ⟨data.getLsbD 0, data.getLsbD 1, false⟩
          else s.switch.deferred } ∧
      hostWrote (match source with
        | .keyboard => 0x1A#6
        | .lineIn => 0x1B#6
        | .sendRing => 0x1C#6
        | .answerback => 0x1D#6) data s t ∧
      changesOnly [.switch, .flow, .transmitter, .pins] s t ∧
      onlySettles { s with switch := { t.switch with printWaits := s.switch.printWaits } } t

/-- R14, R21, R24: a placement byte is taken only while its ring is idle, with both indices set to 0 and a receive loss mark cleared; otherwise it is refused with setup-refused. -/
def Obligations.RingPlacementWrite : Prop :=
  ∀ (s : State) (byte : RingByte) (data : Byte), portFree s →
    ∃ t, exec (.ringPlacementWrite byte data) s = .next t ∧
      (let receiveIdle := s.rings.receiveOccupancy = 0 ∧ s.rings.staged = []
       let sendIdle := s.rings.sendOccupancy = 0
       let refused := t.rings = s.rings ∧ t.status = { s.status with setupRefused := true }
       match byte with
       | .receiveBaseLow =>
         if receiveIdle then
           t.rings = { s.rings with
             receiveBase := s.rings.receiveBase.extractLsb' 8 8 ++ data
             receiveHead := 0, receiveTail := 0, lossMark := false } ∧ t.status = s.status
         else refused
       | .receiveBaseHigh =>
         if receiveIdle then
           t.rings = { s.rings with
             receiveBase := data ++ s.rings.receiveBase.extractLsb' 0 8
             receiveHead := 0, receiveTail := 0, lossMark := false } ∧ t.status = s.status
         else refused
       | .receiveSize =>
         if receiveIdle then
           t.rings = { s.rings with
             receiveSize := min data.toNat 4, receiveHead := 0, receiveTail := 0, lossMark := false } ∧ t.status = s.status
         else refused
       | .sendBaseLow =>
         if sendIdle then
           t.rings = { s.rings with
             sendBase := s.rings.sendBase.extractLsb' 8 8 ++ data, sendHead := 0, sendTail := 0 } ∧ t.status = s.status
         else refused
       | .sendBaseHigh =>
         if sendIdle then
           t.rings = { s.rings with
             sendBase := data ++ s.rings.sendBase.extractLsb' 0 8, sendHead := 0, sendTail := 0 } ∧ t.status = s.status
         else refused
       | .sendSize =>
         if sendIdle then
           t.rings = { s.rings with sendSize := min data.toNat 5, sendHead := 0, sendTail := 0 } ∧ t.status = s.status
         else refused) ∧
      hostWrote (match byte with
        | .receiveBaseLow => 0x1E#6
        | .receiveBaseHigh => 0x1F#6
        | .receiveSize => 0x20#6
        | .sendBaseLow => 0x25#6
        | .sendBaseHigh => 0x26#6
        | .sendSize => 0x27#6) data s t ∧
      settlesOnly [.rings, .status, .pins] s t

/-- R64, R72, R104: the line setup byte is taken in IDLE alone; the line options byte at any time, and clearing inbound flow clears remote pause. -/
def Obligations.LineSetupWrites : Prop :=
  (∀ (s : State) (data : Byte), portFree s →
    ∃ t, exec (.lineSetupWrite data) s = .next t ∧
      (if s.receiver.line = .idle then
        t.receiver = { s.receiver with
          channel := if data.getLsbD 0 then .answer else .originate
          rateCode := min (data.toNat / 2 % 8) 3, formatCode := data.toNat / 16 % 8 } ∧ t.status = s.status
       else t.receiver = s.receiver ∧ t.status = { s.status with setupRefused := true }) ∧
      hostWrote 0x0E#6 data s t ∧ settlesOnly [.receiver, .status, .pins] s t) ∧
  (∀ (s : State) (data : Byte), portFree s →
    ∃ t, exec (.lineOptionsWrite data) s = .next t ∧
      t.receiver = { s.receiver with
        options := ⟨data.getLsbD 0, data.getLsbD 1, data.getLsbD 2, data.getLsbD 3, data.getLsbD 4⟩ } ∧
      (if data.getLsbD 0 then
        t.flow.remotePause = s.flow.remotePause ∧ t.flow.remotePauseTimer = s.flow.remotePauseTimer
       else t.flow.remotePause = false ∧ t.flow.remotePauseTimer = none) ∧
      hostWrote 0x0F#6 data s t ∧ changesOnly [.receiver, .pins, .switch, .flow, .transmitter] s t ∧
      onlySettles
        { s with flow := { s.flow with
            remotePause := t.flow.remotePause, remotePauseTimer := t.flow.remotePauseTimer } } t)

/-- R31, R37, R47, R98, R108, R115: the key-map base, the keyboard options, the ring pause level and the answerback setup are taken as their owners give. That a header load that waits already leaves the queue as it is, the new load taking its place, is the model's reading (log 14). -/
def Obligations.OwnedSetupWrites : Prop :=
  (∀ (s : State) (half : Half) (data : Byte), portFree s →
    ∃ t, exec (.keymapBaseWrite half data) s = .next t ∧
      t.keyboard = { s.keyboard with
        keymapBase := match half with
          | .low => s.keyboard.keymapBase.extractLsb' 8 8 ++ data
          | .high => data ++ s.keyboard.keymapBase.extractLsb' 0 8 } ∧
      t.arbiter.keymapQueue =
        (if KeymapRead.headerLoad ∈ s.arbiter.keymapQueue then s.arbiter.keymapQueue
         else s.arbiter.keymapQueue ++ [.headerLoad]) ∧
      t.arbiter = { s.arbiter with keymapQueue := t.arbiter.keymapQueue, keymap := keymapWait s t } ∧
      hostWrote (match half with
        | .low => 0x2B#6
        | .high => 0x2C#6) data s t ∧ settlesOnly [.keyboard, .arbiter, .pins] s t) ∧
  (∀ (s : State) (data : Byte), portFree s →
    ∃ t, exec (.keyboardOptionsWrite data) s = .next t ∧
      t.keyboard.click = data.getLsbD 0 ∧ t.keyboard.repeatEnable = data.getLsbD 1 ∧
      t.keyboard.onlinePreset = (if data.getLsbD 2 then .half else .full) ∧
      (data.getLsbD 1 = false →
        t.keyboard.repeatKey = none ∧ t.keyboard.repeatTimer = none ∧
        ∀ e ∈ t.keyboard.eligibility, e.eligible = [] ∧ ∀ r ∈ e.outstanding, r.discarded = true) ∧
      (data.getLsbD 1 = true → t.keyboard = { s.keyboard with
        click := t.keyboard.click, repeatEnable := true, onlinePreset := t.keyboard.onlinePreset }) ∧
      t.keyboard = { s.keyboard with
        click := t.keyboard.click, repeatEnable := t.keyboard.repeatEnable, onlinePreset := t.keyboard.onlinePreset
        repeatKey := t.keyboard.repeatKey, repeatTimer := t.keyboard.repeatTimer
        eligibility := t.keyboard.eligibility } ∧
      hostWrote 0x2E#6 data s t ∧ settlesOnly [.keyboard, .pins] s t) ∧
  (∀ (s : State) (data : Byte), portFree s →
    ∃ t, exec (.ringPauseLevelWrite data) s = .next t ∧
      t.flow.ringPauseLevel = max 1 (min data.toNat 126) ∧ hostWrote 0x22#6 data s t ∧
      changesOnly [.pins, .switch, .flow, .transmitter] s t ∧
      onlySettles { s with flow := { s.flow with ringPauseLevel := t.flow.ringPauseLevel } } t) ∧
  (∀ (s : State) (byte : AnswerbackByte) (data : Byte), portFree s →
    ∃ t, exec (.answerbackSetupWrite byte data) s = .next t ∧
      (if s.passage.answerbackLock = true ∧ s.answerback.length ≠ 0 then
        t.answerback = s.answerback ∧ t.status = { s.status with setupRefused := true }
       else t.status = s.status ∧ t.answerback = (match byte with
        | .baseLow => { s.answerback with base := s.answerback.base.extractLsb' 8 8 ++ data }
        | .baseHigh => { s.answerback with base := data ++ s.answerback.base.extractLsb' 0 8 }
        | .length => { s.answerback with length := min data.toNat 32 })) ∧
      hostWrote (match byte with
        | .baseLow => 0x33#6
        | .baseHigh => 0x34#6
        | .length => 0x35#6) data s t ∧ settlesOnly [.answerback, .status, .pins] s t)

/-- R167: a host write of a byte to an offset without a row of its own writes the one field of that offset, clamped, and a read then returns the value in force; a read-only offset keeps its old value. -/
def Obligations.SetupWriteReadsBack : Prop :=
  ∀ (s : State) (offset : Offset) (data : Byte), portFree s → (Instr.setupWrite offset data).wellFormed = true →
    ∃ t, exec (.setupWrite offset data) s = .next t ∧ hostWrote offset data s t ∧
      readControl offset t = (match offset.toNat with
        | 0x01 => data
        | 0x10 => data
        | 0x11 => if data.toNat ≤ s.receiver.onThreshold.toNat then data else s.receiver.onThreshold
        | 0x12 => BitVec.ofNat 8 (max 1 (min data.toNat 25))
        | 0x13 => BitVec.ofNat 8 (max 1 (min data.toNat 15))
        | 0x14 => BitVec.ofNat 8 (max 1 (min data.toNat 12))
        | 0x15 => BitVec.ofNat 8 (min data.toNat 3)
        | 0x16 => BitVec.ofNat 8 (min data.toNat 12)
        | 0x17 => data
        | 0x18 => data
        | 0x19 => data
        | 0x21 => BitVec.ofNat 8 (max 1 (min data.toNat 127))
        | 0x28 => data
        | 0x2D => BitVec.ofNat 8 (min (data.toNat % 16) 3 + 16 * min (data.toNat / 16) 3)
        | 0x2F => data
        | 0x30 => data
        | 0x31 => BitVec.ofNat 8 (min data.toNat 7)
        | 0x32 => BitVec.ofNat 8 (max 1 (min data.toNat 7))
        | _ => readControl offset s) ∧
      (let low (b : Addr) : Addr := b.extractLsb' 8 8 ++ data
       let high (b : Addr) : Addr := data ++ b.extractLsb' 0 8
       t.passage = (if offset = 0x01#6 then { s.passage with operand := data } else s.passage) ∧
       t.receiver = (match offset.toNat with
        | 0x10 => { s.receiver with onThreshold := data }
        | 0x11 => { s.receiver with offThreshold := data }
        | 0x12 => { s.receiver with qualifyCode := max 1 (min data.toNat 25) }
        | 0x13 => { s.receiver with fadeCode := max 1 (min data.toNat 15) }
        | 0x14 => { s.receiver with listenCode := max 1 (min data.toNat 12) }
        | 0x18 => { s.receiver with pauseCode := data }
        | 0x19 => { s.receiver with resumeCode := data }
        | _ => s.receiver) ∧
       t.transmitter.breakLengthCode =
        (if offset = 0x15#6 then min data.toNat 3 else s.transmitter.breakLengthCode) ∧
       t.flow.timeoutCode = (if offset = 0x16#6 then min data.toNat 12 else s.flow.timeoutCode) ∧
       t.tones = (if offset = 0x17#6 then
          { s.tones with lineLevel := data.extractLsb' 0 4, sounderLevel := data.extractLsb' 4 4 }
        else s.tones) ∧
       t.rings = (match offset.toNat with
        | 0x21 => { s.rings with notifyLevel := max 1 (min data.toNat 127) }
        | 0x28 => { s.rings with roomLevel := data.toNat }
        | _ => s.rings) ∧
       t.keyboard = (if offset = 0x2D#6 then
          { s.keyboard with delayCode := min (data.toNat % 16) 3, rateCode := min (data.toNat / 16) 3 }
        else s.keyboard) ∧
       t.dot = (match offset.toNat with
        | 0x2F => { s.dot with fontBase := low s.dot.fontBase }
        | 0x30 => { s.dot with fontBase := high s.dot.fontBase }
        | 0x31 => { s.dot with density := min data.toNat 7 }
        | 0x32 => { s.dot with budget := max 1 (min data.toNat 7) }
        | _ => s.dot)) ∧
      changesOnly [.passage, .receiver, .transmitter, .flow, .tones, .rings, .keyboard, .dot, .pins, .switch] s t ∧
      onlySettles
        { s with
          transmitter := { s.transmitter with breakLengthCode := t.transmitter.breakLengthCode }
          flow := { s.flow with timeoutCode := t.flow.timeoutCode } } t

/-- R160 to R162, R169: a write into a locked region, or a command write while a command is RUNNING, reaches no memory and no owner; its address and cause are stored and PROTECT is requested. -/
def Obligations.WithheldWrites : Prop :=
  (∀ (s : State) (address : Addr) (data : Byte), portFree s →
    (address.toNat < 256 * s.passage.page.toNat ∨ 256 * s.passage.page.toNat + 64 ≤ address.toNat) →
    (let inAnswerback := s.passage.answerbackLock = true ∧ (address - s.answerback.base).toNat < s.answerback.length
     let inKeymap := s.passage.keymapLock = true ∧ (address - s.keyboard.keymapBase).toNat < 196
     (inAnswerback ∨ inKeymap) →
     ∃ t, exec (.withheldWrite address data) s = .next t ∧
      t.passage = { s.passage with
        lastRefused := address, refusedCause := if inAnswerback then .answerbackLock else .keymapLock } ∧
      t.pins = { s.pins with memory := [] } ∧
      t.attention = { s.attention with flags := s.attention.flags ||| BitVec.twoPow 10 9 } ∧
      changesOnly [.passage, .pins, .attention] s t)) ∧
  (∀ (s : State) (code : Byte), portFree s → s.command.result = .running →
    ∃ t, exec (.commandWriteWithheld code) s = .next t ∧
      t.passage = { s.passage with
        lastRefused := BitVec.ofNat 16 (256 * s.passage.page.toNat), refusedCause := .commandBusy
        commandOverrun := true } ∧
      t.pins = { s.pins with memory := [] } ∧
      t.attention = { s.attention with flags := s.attention.flags ||| BitVec.twoPow 10 9 } ∧
      changesOnly [.passage, .pins, .attention] s t)

/-- R19, R21, R32, R163: a passed host write to the head slot of the send ring advances the head or sets send-overflow; one to a header byte enters the header copy; a passed read of the code byte at the receive tail consumes the record. -/
def Obligations.WatchedCycles : Prop :=
  (∀ (s : State) (data : Byte), portFree s → s.rings.sendSize ≠ 0 →
    judgeWrite (s.rings.sendBase + BitVec.ofNat 16 s.rings.sendHead) s = .passed true none →
    ∃ t, exec (.headCapture data) s = .next t ∧
      (let next := (s.rings.sendHead + 1) % ringSlots s.rings.sendSize
       if next = s.rings.sendTail then t.rings = s.rings ∧ t.status = { s.status with sendOverflow := true } ∧ t.arbiter = s.arbiter
       else t.rings = { s.rings with sendHead := next } ∧ t.status = s.status ∧
        t.arbiter = { s.arbiter with
          sendRing := waitAfterRequest (decide (0 < t.rings.sendOccupancy ∧ s.rings.prefetched = none)) .sendRing s }) ∧
      t.pins = { s.pins with memory := [.write (s.rings.sendBase + BitVec.ofNat 16 s.rings.sendHead) data] } ∧
      changesOnly [.rings, .status, .arbiter, .pins] s t) ∧
  (∀ (s : State) (entry : HeaderEntry) (data : Byte), portFree s →
    (let address : Addr := s.keyboard.keymapBase + (match entry with
      | .shiftA => 0
      | .shiftB => 1
      | .control => 2
      | .lock => 3)
     judgeWrite address s = .passed false (some entry) →
     ∃ t, exec (.headerCapture entry data) s = .next t ∧
      (let named : Option Position := if h : data.toNat < 64 then some ⟨data.toNat, h⟩ else none
       t.keyboard = { s.keyboard with
        header := ⟨if entry = .shiftA then named else s.keyboard.header.shiftA,
          if entry = .shiftB then named else s.keyboard.header.shiftB,
          if entry = .control then named else s.keyboard.header.control,
          if entry = .lock then named else s.keyboard.header.lock⟩ }) ∧
      t.pins = { s.pins with memory := [.write address data] } ∧ changesOnly [.keyboard, .pins] s t)) ∧
  (∀ (s : State) (data : Byte), portFree s → s.rings.receiveSize ≠ 0 → 0 < s.rings.receiveOccupancy →
    (let address : Addr := s.rings.receiveBase + BitVec.ofNat 16 (2 * s.rings.receiveTail + 1)
     controlOffset s.passage.page address = none →
     ∃ t, exec (.consumeRead data) s = .next t ∧
      t.rings = { s.rings with receiveTail := (s.rings.receiveTail + 1) % ringSlots s.rings.receiveSize } ∧
      t.pins = { s.pins with memory := [.read address data], hostData := data } ∧
      settlesOnly [.rings, .pins] s t))

/-! ## Commands -/

/-- R50, R178: a line-on command in IDLE writes the channel and enters LISTEN, in the answer channel with the transmitter on mark; in any other state it is REFUSED-STATE. -/
def Obligations.LineOnCommands : Prop :=
  ∀ (s : State) (answer : Bool), portFree s → commandFree s →
    (let channel : Channel := if answer then .answer else .originate
     let code : Byte := if answer then 0x02#8 else 0x01#8
     ∃ t, exec (if answer then .lineOnAnswer else .lineOnOriginate) s = .next t ∧
      hostWrote 0x00#6 code s t ∧
      (s.receiver.line ≠ .idle →
        t.command = { s.command with last := code, result := .refusedState } ∧ settlesOnly [.command, .pins] s t) ∧
      (s.receiver.line = .idle →
        t.command = { s.command with last := code, result := .done } ∧
        t.receiver = { s.receiver with
          channel := channel, line := .listen, carrier := false, history := List.replicate 128 0
          window := .acquisition, energy := 0, listenTimer := some (s.receiver.listenCode * 5000) } ∧
        (answer = true →
          t.transmitter.state = .markIdle ∧ t.transmitter.bitClock = some 0 ∧ t.transmitter.boundaryDue = false ∧
          t.tones = { s.tones with
            line := { s.tones.line with sounding := true, accumulator := 0, increment := 2532 } }) ∧
        (answer = false → t.transmitter.state = s.transmitter.state ∧ t.tones = s.tones) ∧
        changesOnly [.command, .pins, .receiver, .tones, .switch, .flow, .transmitter] s t ∧
        onlySettles
          { s with transmitter := { s.transmitter with
              state := t.transmitter.state, bitClock := t.transmitter.bitClock
              boundaryDue := t.transmitter.boundaryDue } } t))

/-- R56, R57, R178: LINE-OFF from a non-IDLE state enters IDLE with no LINE request and no cause; from IDLE it makes no entry; it ends DONE in both cases. -/
def Obligations.LineOffCommand : Prop :=
  ∀ s : State, portFree s → commandFree s →
    ∃ t, exec .lineOff s = .next t ∧ hostWrote 0x00#6 0x03#8 s t ∧
      t.command = { s.command with
        last := 0x03#8, result := .done
        running := if s.receiver.line ≠ .idle ∧ cutsCommandBreak s = true then none else s.command.running } ∧
      (s.receiver.line = .idle → settlesOnly [.command, .pins] s t) ∧
      (s.receiver.line ≠ .idle →
        enteredIdle s t ∧ t.attention = { s.attention with flags := s.attention.flags ||| idleRequests s } ∧
        changesOnly [.receiver, .transmitter, .tones, .flow, .status, .answerback, .switch, .arbiter, .command,
          .attention, .pins] s t)

/-- R90, R176, R179: SEND-BREAK is taken on a call with no break pending or under way, and RUNNING from then on; otherwise it is refused. A code outside the table is UNKNOWN and has no other effect. -/
def Obligations.SendBreakAndUnknown : Prop :=
  (∀ s : State, portFree s → commandFree s →
    ∃ t, exec .sendBreak s = .next t ∧ hostWrote 0x00#6 0x04#8 s t ∧
      (let onCall := s.receiver.line = .data ∨ s.receiver.line = .fade
       if onCall ∧ s.transmitter.breakBusy = false then
        t.command = { s.command with last := 0x04#8, result := .running, running := some .sendBreak } ∧
        t.transmitter.breakPending = true ∧ t.transmitter.breakByCommand = true
       else
        t.command = { s.command with
          last := 0x04#8, result := if onCall then .refusedBusy else .refusedState } ∧
        t.transmitter.breakPending = s.transmitter.breakPending ∧
        t.transmitter.breakByCommand = s.transmitter.breakByCommand) ∧
      changesOnly [.command, .pins, .switch, .flow, .transmitter] s t ∧
      onlySettles
        { s with transmitter := { s.transmitter with
            breakPending := t.transmitter.breakPending, breakByCommand := t.transmitter.breakByCommand } } t) ∧
  (∀ (s : State) (code : Byte), portFree s → commandFree s → (Instr.unknown code).wellFormed = true →
    ∃ t, exec (.unknown code) s = .next t ∧ hostWrote 0x00#6 code s t ∧
      t.command = { s.command with last := code, result := .unknown } ∧ settlesOnly [.command, .pins] s t)

/-- R110, R111, R180: SEND-ANSWERBACK starts an idle answerback of length 1 or more from its base, or is refused; SET-MODE applies the preset its operand names. -/
def Obligations.AnswerbackAndModeCommands : Prop :=
  (∀ s : State, portFree s → commandFree s →
    ∃ t, exec .sendAnswerback s = .next t ∧ hostWrote 0x00#6 0x05#8 s t ∧
      (if s.answerback.running = true then
        t.command = { s.command with last := 0x05#8, result := .refusedBusy } ∧ t.answerback = s.answerback ∧
          t.arbiter = s.arbiter
       else if s.answerback.length = 0 then
        t.command = { s.command with last := 0x05#8, result := .refusedState } ∧ t.answerback = s.answerback ∧
          t.arbiter = s.arbiter
       else
        t.command = { s.command with last := 0x05#8, result := .done } ∧
        t.answerback = { s.answerback with
          running := true, pointer := s.answerback.base, remaining := s.answerback.length, prefetched := none
          lastResult := .noResult } ∧
        t.arbiter = { s.arbiter with answerback := waitAfterRequest true .answerback s }) ∧
      settlesOnly [.command, .pins, .answerback, .arbiter] s t) ∧
  (∀ s : State, portFree s → commandFree s →
    ∃ t, exec .setMode s = .next t ∧ hostWrote 0x00#6 0x06#8 s t ∧
      (let lineOut := s.passage.operand ≠ 0
       let print := s.passage.operand ≠ 1
       let sending : Row := ⟨lineOut, print, false⟩
       if s.passage.operand.toNat < 3 then
        t.command = { s.command with last := 0x06#8, result := .done } ∧
        t.switch = { s.switch with
          printWaits := t.switch.printWaits
          keyboard := ⟨lineOut, print, true⟩, lineIn := ⟨false, true, true⟩, sendRing := sending
          answerback := if s.answerback.running then s.switch.answerback else sending
          deferred := if s.answerback.running then some sending else s.switch.deferred }
       else
        t.command = { s.command with last := 0x06#8, result := .badOperand } ∧
        t.switch = { s.switch with printWaits := t.switch.printWaits }) ∧
      changesOnly [.command, .pins, .switch, .flow, .transmitter] s t ∧
      onlySettles { s with switch := { t.switch with printWaits := s.switch.printWaits } } t)

/-- R119, R133, R134, R181: FLUSH-PRINT empties the print queue and the pending operations, with PRINT-IDLE when the carriage is READY and an entry has been consumed; FEED-LINE appends a FEED entry, or is REFUSED-BUSY at 48. That a flush of a READY carriage judges PRINT-IDLE at once is the model's reading (log 23), and the mark of a freed place, which the flush and the append clear, is how the model keeps R6 (log 17). -/
def Obligations.PrintCommands : Prop :=
  (∀ s : State, portFree s → commandFree s →
    ∃ t, exec .flushPrint s = .next t ∧ hostWrote 0x00#6 0x07#8 s t ∧
      t.command = { s.command with last := 0x07#8, result := .done } ∧
      (let idle := s.carriage.state = .ready ∧ s.carriage.consumedSinceIdle = true
       t.carriage = { s.carriage with
        queue := [], pending := [], consumedSinceIdle := if idle then false else s.carriage.consumedSinceIdle } ∧
       t.attention = { s.attention with flags := s.attention.flags ||| flagIf idle .printIdle }) ∧
      changesOnly [.command, .pins, .carriage, .attention, .switch, .flow, .transmitter] s t ∧
      onlySettles { s with switch := { s.switch with freedPlace := false } } t) ∧
  (∀ s : State, portFree s → commandFree s →
    ∃ t, exec .feedLine s = .next t ∧ hostWrote 0x00#6 0x08#8 s t ∧
      (if s.carriage.queue.length < 48 then
        t.command = { s.command with last := 0x08#8, result := .done } ∧
        t.carriage = { s.carriage with queue := s.carriage.queue ++ [.feed] }
       else
        t.command = { s.command with last := 0x08#8, result := .refusedBusy } ∧ t.carriage = s.carriage) ∧
      changesOnly [.command, .pins, .carriage, .switch, .flow, .transmitter] s t ∧
      onlySettles
        { s with switch := { s.switch with
            freedPlace := if s.carriage.queue.length < 48 then false else s.switch.freedPlace } } t)

/-- R126, R127: SET-TAB, CLEAR-TAB and CLEAR-ALL-TABS edit the set at the operand's cell, with the results of the table, in every carriage state. -/
def Obligations.TabCommands : Prop :=
  (∀ s : State, portFree s → commandFree s → tabsOrdered s →
    (let cell := s.passage.operand.toNat
     ∃ t, exec .setTab s = .next t ∧ hostWrote 0x00#6 0x09#8 s t ∧
      (if 1 ≤ cell ∧ cell ≤ 79 then
        if cell ∈ s.carriage.tabStops ∨ s.carriage.tabStops.length < 16 then
          t.command = { s.command with last := 0x09#8, result := .done } ∧
          t.carriage = { s.carriage with tabStops := t.carriage.tabStops } ∧ t.carriage.tabStops.Pairwise (· < ·) ∧
          (∀ c : Fin 80, c.val ∈ t.carriage.tabStops ↔ c.val = cell ∨ c.val ∈ s.carriage.tabStops)
        else t.command = { s.command with last := 0x09#8, result := .refusedState } ∧ t.carriage = s.carriage
       else t.command = { s.command with last := 0x09#8, result := .badOperand } ∧ t.carriage = s.carriage) ∧
      settlesOnly [.command, .pins, .carriage] s t)) ∧
  (∀ s : State, portFree s → commandFree s →
    (let cell := s.passage.operand.toNat
     ∃ t, exec .clearTab s = .next t ∧ hostWrote 0x00#6 0x0A#8 s t ∧
      (if 1 ≤ cell ∧ cell ≤ 79 then
        t.command = { s.command with last := 0x0A#8, result := .done } ∧
        t.carriage = { s.carriage with tabStops := s.carriage.tabStops.filter (· ≠ cell) }
       else t.command = { s.command with last := 0x0A#8, result := .badOperand } ∧ t.carriage = s.carriage) ∧
      settlesOnly [.command, .pins, .carriage] s t)) ∧
  (∀ s : State, portFree s → commandFree s →
    ∃ t, exec .clearAllTabs s = .next t ∧ hostWrote 0x00#6 0x0B#8 s t ∧
      t.command = { s.command with last := 0x0B#8, result := .done } ∧
      t.carriage = { s.carriage with tabStops := [] } ∧ settlesOnly [.command, .pins, .carriage] s t)

/-- R25, R48, R56, R83, R94, R107, R113, R117, R135, R155, R182, R183, R191: RESTART at its taking, block by block: the home seek begins at once with a full 240 ms from READY, HALTED or HOME-SEEK, a seek under way afresh, and otherwise once the operation under way has stopped. A waiting translation read leaves the key-map queue, whose next read begins its own wait. The mark of a freed place is how the model keeps R6 (log 17); that the column timer of a firing under way runs on until the unit stops is the model's choice (log 35). -/
def Obligations.RestartCommand : Prop :=
  ∀ s : State, portFree s → commandFree s → attentionSound s →
    ∃ t, exec .restart s = .next t ∧ hostWrote 0x00#6 0x0C#8 s t ∧
      t.command = { last := 0x0C#8, result := .running, running := some .restart } ∧
      t.passage = { s.passage with commandOverrun := false } ∧ t.status = ⟨false, false, false, false, false, false⟩ ∧
      t.attention = { s.attention with flags := 0, stack := [], severalChanges := false } ∧
      t.switch = { s.switch with
        answerback := if s.answerback.running then s.switch.deferred.getD s.switch.answerback else s.switch.answerback
        deferred := if s.answerback.running then none else s.switch.deferred
        freedPlace := false, printWaits := t.switch.printWaits } ∧
      onlySettles
        { s with
          switch := { t.switch with printWaits := s.switch.printWaits }, flow := t.flow
          transmitter := t.transmitter } t ∧
      t.rings = { s.rings with
        receiveHead := 0, receiveTail := 0, sendHead := 0, sendTail := 0, staged := [], lossMark := false
        prefetched := none } ∧
      t.keyboard = { s.keyboard with queue := [] } ∧ t.translator = .idle ∧
      t.receiver = { s.receiver with
        line := .idle, carrier := false, window := .acquisition, framer := .stopped
        listenTimer := none, qualifyTimer := none, fadeTimer := none } ∧
      t.transmitter = { s.transmitter with
        state := .off, slot := .empty, shifter := none, flowRequest := none, breakPending := false
        breakByCommand := false, bitClock := none, boundaryDue := false, breakTimer := none } ∧
      t.tones = { s.tones with
        line := { s.tones.line with sounding := false }, sounder := { s.tones.sounder with sounding := false }
        request := none, sounderTimer := none } ∧
      t.flow = { s.flow with
        state := .clear, printDemand := false, ringDemand := false, remotePause := false, remotePauseTimer := none } ∧
      (if s.answerback.running = true then
        t.answerback = { s.answerback with running := false, prefetched := none, lastResult := .aborted }
       else t.answerback = s.answerback) ∧
      (let stops : Option CarriageState :=
        if s.carriage.state = .printing ∨ s.carriage.state = .moving ∨ s.carriage.state = .returning ∨
            s.carriage.state = .feeding then some s.carriage.state
        else s.carriage.stopping
       t.carriage = { s.carriage with
        queue := [], pending := [], state := .homeSeek, position := none, jam := false, paper := !s.pins.paper
        hot := decide (65 ≤ s.sensor.temperature), battery := decide (s.sensor.battery < 88), paperTimer := none
        motionTimer := none, consumedSinceIdle := false, stopping := stops
        seekTimer := if stops = none then some 240 else none }) ∧
      (match s.dot.state with
        | .firing => t.dot = { s.dot with stopping := true }
        | .backStep _ => t.dot = { s.dot with stopping := true }
        | _ => t.dot = stoppedDot s.dot) ∧
      (let kept := s.arbiter.keymapQueue.filter (· ≠ .translation)
       t.arbiter = { s.arbiter with
        receiveWriter := .absent, font := .absent, sendRing := .absent, keymapQueue := kept
        answerback := if s.answerback.running then .absent else s.arbiter.answerback
        keymap :=
          if kept = [] then .absent
          else if s.arbiter.keymapQueue.head? = some .translation then .waiting
          else s.arbiter.keymap }) ∧
      t.sensor = s.sensor ∧ t.pending = s.pending

/-! ## Keyboard -/

/-- R26 to R30, R33 to R35, R37, R38: one scan pass: every position moves by its debounce table with the ghost hold judged on the states as they stand at its turn, the lock toggles, and the events of the pass join the queue in ascending order as far as it has room; a translation read is asked for when the translator leaves IDLE, an eligibility read for each press, the reads of positions that reach UP and of modifier positions are discarded, and a modifier position found eligible no longer counts. That of reads requested together the translation read comes first and the others in ascending order is the model's choice (log 32); that a repeat key chosen while UP, which this pass reads down, keeps the repeat in PRESS-PENDING is the model's choice too (log 21). -/
def Obligations.ScanPassDecides : Prop :=
  ∀ (s : State) (readings : BitVec 64), s.keyboard.scanTimer.isSome = true → keyboardSound s →
    s.keyboard.queue.length ≤ 8 →
    ∃ t, exec (.scanPass readings) s = .next t ∧
      (let before := s.keyboard.positions
       let after := t.keyboard.positions
       let header := s.keyboard.header
       let seen (p q : Position) : KeyState := if q.val < p.val then after[q] else before[q]
       let held (p : Position) : Prop := ∃ q : Position,
        q.val / 8 ≠ p.val / 8 ∧ q.val % 8 ≠ p.val % 8 ∧ seen p q = .down ∧
        (∀ c : Position, (c.val / 8 = p.val / 8 ∧ c.val % 8 = q.val % 8) ∨ (c.val / 8 = q.val / 8 ∧ c.val % 8 = p.val % 8) →
          seen p c = .down)
       let presses (p : Position) : Prop := before[p] = .pressPending ∧ after[p] = .down
       let modifier (p : Position) : Prop :=
        header.shiftA = some p ∨ header.shiftB = some p ∨ header.control = some p ∨ header.lock = some p
       let plays (role : Option Position) : Prop := ∃ p : Position, role = some p ∧ after[p] = .down
       let pressed := (List.finRange 64).filter fun p => decide (presses p ∧ ¬ modifier p)
       let events := pressed.map fun p =>
        (⟨p, t.keyboard.passShift, t.keyboard.passControl, t.keyboard.lock⟩ : KeyEvent)
       (∀ p : Position, after[p] = (match before[p], readings.getLsbD p.val with
          | .up, true => .pressPending
          | .up, false => .up
          | .pressPending, true => if held p then .pressPending else .down
          | .pressPending, false => .up
          | .down, true => .down
          | .down, false => .releasePending
          | .releasePending, true => .down
          | .releasePending, false => .up)) ∧
       (t.keyboard.passShift = true ↔ plays header.shiftA ∨ plays header.shiftB) ∧
       (t.keyboard.passControl = true ↔ plays header.control) ∧
       t.keyboard.lock = (s.keyboard.lock != decide (∃ p : Position, header.lock = some p ∧ presses p)) ∧
       t.keyboard.queue = (s.keyboard.queue ++ events).take 8 ∧
       t.status = { s.status with keyLost := s.status.keyLost || 8 < s.keyboard.queue.length + events.length } ∧
       t.attention = { s.attention with
        flags := s.attention.flags ||| flagIf (!s.status.keyLost && 8 < s.keyboard.queue.length + events.length) .loss } ∧
       t.tones = (if 8 < s.keyboard.queue.length + events.length then tonesAfterChirp s else s.tones) ∧
       t.translator = (if s.translator = .idle ∧ events ≠ [] then .fetching else s.translator) ∧
       t.keyboard.repeatKey = s.keyboard.repeatKey.filter (fun p => decide (after[p] ≠ .up ∧ ¬ modifier p)) ∧
       t.keyboard.repeatTimer = (if t.keyboard.repeatKey = none then none else s.keyboard.repeatTimer) ∧
       t.keyboard.eligibility =
        (s.keyboard.eligibility.map fun e =>
          { outstanding := e.outstanding.map fun r => { r with
              discarded := r.discarded || decide (modifier r.position) ||
                decide (before[r.position] = KeyState.releasePending ∧ after[r.position] = KeyState.up) }
            eligible := e.eligible.filter fun p => decide (¬ modifier p) }) ++
        (if s.keyboard.repeatEnable = true ∧ pressed ≠ [] then [⟨pressed.map fun p => ⟨p, false⟩, []⟩] else []) ∧
       t.arbiter.keymapQueue =
        s.arbiter.keymapQueue ++ (if s.translator = .idle ∧ events ≠ [] then [.translation] else []) ++
          (if s.keyboard.repeatEnable then pressed.map .eligibility else []) ∧
       t.arbiter.keymap =
        (if s.arbiter.keymapQueue = [] ∧ t.arbiter.keymapQueue ≠ [] then .waiting else s.arbiter.keymap) ∧
       t.arbiter = { s.arbiter with keymapQueue := t.arbiter.keymapQueue, keymap := t.arbiter.keymap } ∧
       t.keyboard.scanTimer = some 8 ∧ t.keyboard.header = header ∧ t.keyboard.keymapBase = s.keyboard.keymapBase ∧
       t.keyboard = { s.keyboard with
        positions := after, lock := t.keyboard.lock, passShift := t.keyboard.passShift
        passControl := t.keyboard.passControl, queue := t.keyboard.queue, repeatKey := t.keyboard.repeatKey
        repeatTimer := t.keyboard.repeatTimer, scanTimer := some 8, eligibility := t.keyboard.eligibility }) ∧
      settlesOnly [.keyboard, .translator, .arbiter, .status, .attention, .tones] s t

/-- R29, R31, R35, R36: a header load replaces the header copy; the last eligibility read of a pass makes its highest eligible position the repeat key and starts the timer with the delay. A change of the header copy counts from the next pass alone (R29). That a position which reached UP after its own read completed is chosen all the same is the model's choice (log 21). -/
def Obligations.KeymapReadsComplete : Prop :=
  (∀ (s : State) (address : Addr) (discarded : Bool) (b0 b1 b2 b3 : Byte),
    s.arbiter.grant = some (.headerLoad address discarded) → s.arbiter.held = none →
    ∃ t, exec (.headerLoad b0 b1 b2 b3) s = .next t ∧
      t.keyboard = { s.keyboard with
        header := if discarded then s.keyboard.header
          else ⟨namedPosition b0, namedPosition b1, namedPosition b2, namedPosition b3⟩ } ∧
      t.arbiter = { s.arbiter with grant := none } ∧
      t.pins = { s.pins with
        memory := [.read address b0, .read (address + 1) b1, .read (address + 2) b2, .read (address + 3) b3] } ∧
      settlesOnly [.keyboard, .arbiter, .pins] s t) ∧
  (∀ (s : State) (p : Position) (address : Addr) (data : Byte) (discarded : Bool) (others : List EligibilityPending)
      (eligible : List Position) (later : List EligibilityPass),
    s.arbiter.grant = some (.eligibility p address) → s.arbiter.held = none →
    s.keyboard.eligibility = ⟨⟨p, discarded⟩ :: others, eligible⟩ :: later →
    ∃ t, exec (.eligibilityRead data) s = .next t ∧
      (let chosen :=
        if discarded = false ∧ ((1 ≤ data.toNat ∧ data.toNat ≤ 127) ∨ data = 0x86#8) then eligible ++ [p] else eligible
       if others ≠ [] then t.keyboard = { s.keyboard with eligibility := ⟨others, chosen⟩ :: later }
       else if chosen = [] then t.keyboard = { s.keyboard with eligibility := later }
       else
        (∃ q : Position, q ∈ chosen ∧ (∀ r ∈ chosen, r.val ≤ q.val) ∧ t.keyboard.repeatKey = some q) ∧
        t.keyboard = { s.keyboard with
          eligibility := later, repeatKey := t.keyboard.repeatKey
          repeatTimer := some (match s.keyboard.delayCode with
            | 0 => 250
            | 1 => 500
            | 2 => 750
            | _ => 1000) }) ∧
      t.arbiter = { s.arbiter with grant := none } ∧ t.pins = { s.pins with memory := [.read address data] } ∧
      settlesOnly [.keyboard, .arbiter, .pins] s t)

/-- R36, R45: at the repeat timer's expiry a DOWN repeat key queues one event while there is room, and the timer restarts with the interval; a FEED in FEED-WAIT is appended when a place of the print queue falls to it, and waits on until then. A repeat key in PRESS-PENDING or UP queues nothing, and the timer restarts: the model's choice (log 21). Which waiter a freed place falls to is kept as log 17 says. -/
def Obligations.RepeatAndFeedWait : Prop :=
  (∀ s : State, s.keyboard.repeatTimer.isSome = true → keyboardSound s →
    ∃ t, exec .repeatTimerExpiry s = .next t ∧
      t.keyboard = { s.keyboard with
        repeatTimer := some (match s.keyboard.rateCode with
          | 0 => 200
          | 1 => 100
          | 2 => 67
          | _ => 50)
        queue := t.keyboard.queue } ∧
      (∀ p : Position, s.keyboard.repeatKey = some p →
        t.keyboard.queue =
          (if s.keyboard.positions[p] = KeyState.down ∧ s.keyboard.queue.length < 8 then
            s.keyboard.queue ++ [⟨p, s.keyboard.passShift, s.keyboard.passControl, s.keyboard.lock⟩]
           else s.keyboard.queue)) ∧
      t.translator = (if s.translator = .idle ∧ t.keyboard.queue ≠ [] then .fetching else s.translator) ∧
      t.arbiter = { s.arbiter with
        keymapQueue := s.arbiter.keymapQueue ++
          (if s.translator = .idle ∧ t.keyboard.queue ≠ [] then [.translation] else [])
        keymap := keymapWait s t } ∧
      changesOnly [.keyboard, .translator, .arbiter] s t) ∧
  (∀ s : State, s.translator = .feedWait → s.carriage.queue.length < 48 → placeFallsTo .feed s = true →
    ∃ t, exec .feedAppend s = .next t ∧
      t.carriage = { s.carriage with queue := s.carriage.queue ++ [.feed] } ∧ eventLeft s t ∧
      t.keyboard = { s.keyboard with queue := s.keyboard.queue.tail } ∧ t.tones = tonesAfterClick s ∧
      (let joined := joinedRing s.switch.keyboard s
       t.arbiter = { s.arbiter with
        keymapQueue := t.arbiter.keymapQueue, keymap := t.arbiter.keymap
        receiveWriter := waitAfterRequest (joined && recordFits s) .receiveWriter s } ∧
       t.rings = ringsAfterOffer joined (plainRecord .keyboardFunction 0x86#8) s ∧
       t.status = { s.status with ringLoss := s.status.ringLoss || losesRecord joined s } ∧
       t.attention = { s.attention with
        flags := s.attention.flags ||| flagIf (losesRecord joined s && !s.status.ringLoss) .loss }) ∧
      changesOnly [.carriage, .keyboard, .translator, .arbiter, .tones, .rings, .status, .attention, .switch, .flow,
        .transmitter] s t ∧
      onlySettles { s with switch := { s.switch with freedPlace := false } } t) ∧
  (∀ s : State, s.translator ≠ .feedWait ∨ 48 ≤ s.carriage.queue.length ∨ placeFallsTo .feed s = false →
    exec .feedAppend s = .next s)

/-- R38, R39, R48, R174: the translation read's byte, adjusted for the lock, is a character and goes on offer, or a blank and its event is discarded with no output; the byte of a read that RESTART has discarded brings about nothing. -/
def Obligations.TranslationClassifies : Prop :=
  (∀ (s : State) (address : Addr) (e : KeyEvent) (rest : List KeyEvent) (data : Byte),
    s.arbiter.grant = some (.translation address false) → s.arbiter.held = none → s.keyboard.queue = e :: rest →
    (let used : Byte :=
      if e.lock = true ∧ e.control = false ∧ e.shift = false ∧ 0x61 ≤ data.toNat ∧ data.toNat ≤ 0x7A then data - 0x20#8
      else data
     data.toNat < 0x80 ∨ 0x89 ≤ data.toNat →
     ∃ t, exec (.translationRead data) s = .next t ∧
      (if 1 ≤ data.toNat ∧ data.toNat < 0x80 then
        t.translator = .offering used ∧ t.keyboard = s.keyboard ∧ t.arbiter = { s.arbiter with grant := none }
       else
        eventLeft s t ∧ t.keyboard = { s.keyboard with queue := rest } ∧
        t.arbiter = { s.arbiter with
          grant := none, keymapQueue := t.arbiter.keymapQueue, keymap := t.arbiter.keymap }) ∧
      t.arbiter.grant = none ∧ t.pins = { s.pins with memory := [.read address data] } ∧
      settlesOnly [.translator, .keyboard, .arbiter, .pins] s t)) ∧
  (∀ (s : State) (address : Addr) (data : Byte),
    s.arbiter.grant = some (.translation address true) → s.arbiter.held = none →
    ∃ t, exec (.translationRead data) s = .next t ∧
      t.arbiter = { s.arbiter with grant := none } ∧ t.pins = { s.pins with memory := [.read address data] } ∧
      settlesOnly [.arbiter, .pins] s t)

/-- R41 to R46: a local function offers its record and then acts, and its event leaves the key queue; FEED is appended while the print queue has room, with its record, a CLICK and the event's leaving, and otherwise waits in FEED-WAIT. That a FEED with room is appended at its translation is the model's reading (log 26), and the mark of a freed place, which the append clears, is how the model keeps R6 (log 17); that LINE/LOCAL takes an IDLE line to LISTEN while RESTART runs too is the model's choice (log 34). -/
def Obligations.LocalFunctionsAct : Prop :=
  (∀ (s : State) (address : Addr) (code : Byte),
    s.arbiter.grant = some (.translation address false) → s.arbiter.held = none → s.keyboard.queue ≠ [] →
    0x80 ≤ code.toNat → code.toNat ≤ 0x88 → code ≠ 0x86#8 →
    ∃ t, exec (.translationRead code) s = .next t ∧ eventLeft s t ∧
      (let joined := joinedRing s.switch.keyboard s
       let lost := losesRecord joined s
       let leaves := goesLocal code s
       let aborts := leaves && abortsAnswerback s
       let onCall := s.receiver.line = .data ∨ s.receiver.line = .fade
       let startable := s.answerback.running = false ∧ s.answerback.length ≠ 0
       let p := s.carriage.position
       t.rings = ringsAfterOffer joined (plainRecord .keyboardFunction code) s ∧
       t.status = { s.status with
        ringLoss := s.status.ringLoss || lost
        txDiscarded := s.status.txDiscarded || (leaves && discardsCharacter s) } ∧
       t.attention = { s.attention with
        flags := s.attention.flags ||| flagIf (lost && !s.status.ringLoss) .loss |||
          (if leaves then idleRequests s ||| flagIf true .line else 0)
        lineCause := if leaves then .operatorOff else s.attention.lineCause
        severalChanges := s.attention.severalChanges || (leaves && s.attention.flags.getLsbD 0) } ∧
       t.command = (if leaves && cutsCommandBreak s then { s.command with result := .refusedState, running := none }
        else s.command) ∧
       (code = 0x80#8 →
        if onCall ∧ s.transmitter.breakBusy = false then
          t.transmitter.breakPending = true ∧ t.transmitter.breakByCommand = false ∧ t.tones = s.tones
        else t.transmitter.breakPending = s.transmitter.breakPending ∧ t.tones = tonesAfterChirp s) ∧
       (code = 0x81#8 →
        if s.receiver.line = .idle then
          t.receiver = { s.receiver with
            line := .listen, carrier := false, history := List.replicate 128 0, window := .acquisition, energy := 0
            listenTimer := some (s.receiver.listenCode * 5000) } ∧
          t.tones = (if s.receiver.channel = .answer then
              { s.tones with line := { s.tones.line with sounding := true, accumulator := 0, increment := 2532 } }
            else s.tones)
        else
          t.receiver = idleReceiver s ∧ t.transmitter = idleTransmitter s ∧ t.tones = idleTones s ∧ t.flow = idleFlow s) ∧
       (code = 0x82#8 →
        if startable then
          t.answerback = { s.answerback with
            running := true, pointer := s.answerback.base, remaining := s.answerback.length, prefetched := none
            lastResult := .noResult } ∧ t.tones = s.tones
        else t.answerback = s.answerback ∧ t.tones = tonesAfterChirp s) ∧
       (code = 0x83#8 →
        match p with
        | some cell =>
          if 1 ≤ cell ∧ cell ≤ 79 ∧ (cell ∈ s.carriage.tabStops ∨ s.carriage.tabStops.length < 16) then
            t.carriage = { s.carriage with tabStops := insertStop cell s.carriage.tabStops } ∧ t.tones = s.tones
          else t.carriage = s.carriage ∧ t.tones = tonesAfterChirp s
        | none => t.carriage = s.carriage ∧ t.tones = tonesAfterChirp s) ∧
       (code = 0x84#8 →
        t.tones = s.tones ∧
        match p with
        | some cell => t.carriage = { s.carriage with tabStops := s.carriage.tabStops.filter (· ≠ cell) }
        | none => t.carriage = s.carriage) ∧
       (code = 0x85#8 → t.carriage = { s.carriage with tabStops := [] } ∧ t.tones = s.tones) ∧
       (code = 0x87#8 →
        t.keyboard.onlinePreset = (if s.keyboard.onlinePreset = .full then .half else .full) ∧ t.tones = s.tones) ∧
       (code = 0x88#8 → t.keyboard.click = !s.keyboard.click ∧ t.tones = s.tones) ∧
       t.keyboard = { s.keyboard with
        queue := s.keyboard.queue.tail, click := t.keyboard.click, onlinePreset := t.keyboard.onlinePreset } ∧
       (code ≠ 0x87#8 → t.keyboard.onlinePreset = s.keyboard.onlinePreset) ∧
       (code ≠ 0x88#8 → t.keyboard.click = s.keyboard.click) ∧
       (code ≠ 0x83#8 ∧ code ≠ 0x84#8 ∧ code ≠ 0x85#8 → t.carriage = s.carriage) ∧
       (code ≠ 0x81#8 → t.receiver = s.receiver) ∧
       (code ≠ 0x82#8 → t.answerback = (if aborts then
          { s.answerback with running := false, prefetched := none, lastResult := .aborted }
        else s.answerback)) ∧
       t.switch = { switchAfterFunction code s with printWaits := t.switch.printWaits } ∧
       onlySettles
        { s with
          switch := switchAfterFunction code s, transmitter := transmitterAfterFunction code s
          flow := if leaves then idleFlow s else s.flow } t ∧
       t.arbiter = { s.arbiter with
        grant := none, keymapQueue := t.arbiter.keymapQueue, keymap := t.arbiter.keymap
        receiveWriter := waitAfterRequest (joined && recordFits s) .receiveWriter s
        answerback :=
          if aborts then .absent else waitAfterRequest (decide (code = 0x82#8 ∧ startable)) .answerback s }) ∧
      t.pins = { s.pins with memory := [.read address code] } ∧
      t.passage = s.passage ∧ t.dot = s.dot ∧ t.sensor = s.sensor ∧ t.pending = s.pending) ∧
  (∀ (s : State) (address : Addr), s.arbiter.grant = some (.translation address false) → s.arbiter.held = none →
    s.keyboard.queue ≠ [] →
    ∃ t, exec (.translationRead 0x86#8) s = .next t ∧
      (let joined := joinedRing s.switch.keyboard s
       let appended := s.carriage.queue.length < 48
       if appended then
        t.carriage = { s.carriage with queue := s.carriage.queue ++ [.feed] } ∧ eventLeft s t ∧
        t.keyboard = { s.keyboard with queue := s.keyboard.queue.tail } ∧ t.tones = tonesAfterClick s ∧
        t.rings = ringsAfterOffer joined (plainRecord .keyboardFunction 0x86#8) s ∧
        t.status = { s.status with ringLoss := s.status.ringLoss || losesRecord joined s } ∧
        t.attention = { s.attention with
          flags := s.attention.flags ||| flagIf (losesRecord joined s && !s.status.ringLoss) .loss } ∧
        t.arbiter = { s.arbiter with
          grant := none, keymapQueue := t.arbiter.keymapQueue, keymap := t.arbiter.keymap
          receiveWriter := waitAfterRequest (joined && recordFits s) .receiveWriter s } ∧
        onlySettles { s with switch := { s.switch with freedPlace := false } } t
       else
        t.translator = .feedWait ∧ t.keyboard = s.keyboard ∧ t.carriage = s.carriage ∧ t.rings = s.rings ∧
        t.tones = s.tones ∧ t.status = s.status ∧ t.attention = s.attention ∧
        t.arbiter = { s.arbiter with grant := none } ∧ onlySettles s t) ∧
      t.pins = { s.pins with memory := [.read address 0x86#8] } ∧
      changesOnly [.translator, .keyboard, .arbiter, .pins, .carriage, .tones, .rings, .status, .attention, .switch, .flow,
        .transmitter] s t)

/-! ## Takes -/

/-- R6 to R10, R12, R40: the KEYBOARD character is taken when its blocking sinks are ready, and with one of them not ready it waits and nothing changes; taken, it enters the holding slot or is discarded off line, joins the print queue, is offered to the ring, and its event leaves the key queue with a CLICK. Which waiter a freed place falls to is kept as log 17 says. -/
def Obligations.TakeFromKeyboard : Prop :=
  ∀ (s : State) (character : Byte), s.translator = .offering character → s.keyboard.queue ≠ [] →
    (let row := s.switch.keyboard
     let onCall := s.receiver.line = .data ∨ s.receiver.line = .fade
     let ready : Prop :=
      (row.print = true → s.carriage.queue.length < 48 ∧ placeFallsTo .keyboard s = true) ∧ lineOutAdmitsKeyboard s
     (¬ ready → exec (.take .keyboard) s = .next s) ∧
     (ready → ∃ t, exec (.take .keyboard) s = .next t ∧ eventLeft s t ∧
      t.keyboard = { s.keyboard with queue := s.keyboard.queue.tail } ∧ t.tones = tonesAfterClick s ∧
      t.carriage = { s.carriage with
        queue := if row.print then s.carriage.queue ++ [.character (character.extractLsb' 0 7)] else s.carriage.queue } ∧
      (let joined := row.ring && decide (s.rings.receiveSize ≠ 0)
       let discarded := row.lineOut && decide (¬ onCall)
       t.rings = ringsAfterOffer joined (plainRecord .keyboardCharacter character) s ∧
       t.arbiter = { s.arbiter with
        keymapQueue := t.arbiter.keymapQueue, keymap := t.arbiter.keymap
        receiveWriter := waitAfterRequest (joined && recordFits s) .receiveWriter s } ∧
       t.status = { s.status with
        txDiscarded := s.status.txDiscarded || discarded, ringLoss := s.status.ringLoss || losesRecord joined s } ∧
       t.attention = { s.attention with
        flags := s.attention.flags |||
          flagIf ((discarded && !s.status.txDiscarded) || (losesRecord joined s && !s.status.ringLoss)) .loss }) ∧
      (row.lineOut = true ∧ onCall → t.transmitter.slot = .character character ∧ t.switch.roundRobin = .sendRing) ∧
      (¬ (row.lineOut = true ∧ onCall) → t.switch.roundRobin = s.switch.roundRobin) ∧
      changesOnly [.translator, .keyboard, .tones, .carriage, .rings, .status, .attention, .arbiter, .switch, .flow,
        .transmitter] s t ∧
      onlySettles
        { s with
          switch := { s.switch with
            freedPlace := if row.print then false else s.switch.freedPlace, roundRobin := t.switch.roundRobin }
          transmitter := { s.transmitter with
            slot := if row.lineOut = true ∧ onCall then .character character else s.transmitter.slot } } t))

/-- R6 to R10, R12, R22, R23: the SEND RING byte is taken when its blocking sinks are ready, and with one of them not ready it waits and nothing changes; taken, it is delivered, the tail advances, TX-ROOM is requested at or below the level and the next fetch is asked for. Which waiter a freed place falls to is kept as log 17 says. -/
def Obligations.TakeFromSendRing : Prop :=
  ∀ (s : State) (byte : Byte), s.rings.prefetched = some byte → sendRingSound s →
    (let row := s.switch.sendRing
     let onCall := s.receiver.line = .data ∨ s.receiver.line = .fade
     let ready : Prop :=
      (row.print = true → s.carriage.queue.length < 48 ∧ placeFallsTo .sendRing s = true) ∧ lineOutAdmitsSendRing s
     (¬ ready → exec (.take .sendRing) s = .next s) ∧
     (ready → ∃ t, exec (.take .sendRing) s = .next t ∧
      t.rings = { s.rings with
        sendTail := (s.rings.sendTail + 1) % ringSlots s.rings.sendSize, prefetched := none } ∧
      t.rings.sendOccupancy + 1 = s.rings.sendOccupancy ∧
      t.arbiter = { s.arbiter with
        sendRing := waitAfterRequest (decide (0 < t.rings.sendOccupancy)) .sendRing s } ∧
      t.carriage = { s.carriage with
        queue := if row.print then s.carriage.queue ++ [.character (byte.extractLsb' 0 7)] else s.carriage.queue } ∧
      (let discarded := row.lineOut && decide (¬ onCall)
       t.status = { s.status with txDiscarded := s.status.txDiscarded || discarded } ∧
       t.attention = { s.attention with
        flags := s.attention.flags ||| flagIf (discarded && !s.status.txDiscarded) .loss |||
          flagIf (t.rings.sendOccupancy ≤ min s.rings.roomLevel (ringSlots s.rings.sendSize - 1)) .txRoom }) ∧
      (row.lineOut = true ∧ onCall → t.transmitter.slot = .character byte ∧ t.switch.roundRobin = .keyboard) ∧
      (¬ (row.lineOut = true ∧ onCall) → t.switch.roundRobin = s.switch.roundRobin) ∧
      changesOnly [.carriage, .rings, .status, .attention, .arbiter, .switch, .flow, .transmitter] s t ∧
      onlySettles
        { s with
          switch := { s.switch with
            freedPlace := if row.print then false else s.switch.freedPlace, roundRobin := t.switch.roundRobin }
          transmitter := { s.transmitter with
            slot := if row.lineOut = true ∧ onCall then .character byte else s.transmitter.slot } } t))

/-- R6 to R10, R12, R111, R112: the ANSWERBACK byte is taken when its blocking sinks are ready, and with one of them not ready it waits and nothing changes; taken, it is delivered, the pointer advances and the remaining count falls; at 0 the run ends COMPLETE, with ANSWERBACK-END and the deferred row applied. Which waiter a freed place falls to is kept as log 17 says. -/
def Obligations.TakeFromAnswerback : Prop :=
  ∀ (s : State) (byte : Byte), s.answerback.prefetched = some byte → answerbackSound s →
    (let row := s.switch.answerback
     let onCall := s.receiver.line = .data ∨ s.receiver.line = .fade
     let ready : Prop :=
      (row.print = true → s.carriage.queue.length < 48 ∧ placeFallsTo .answerback s = true) ∧ lineOutAdmits row (answerbackHoldsLine s) s
     (¬ ready → exec (.take .answerback) s = .next s) ∧
     (ready → ∃ t, exec (.take .answerback) s = .next t ∧
      (let complete := s.answerback.remaining = 1
       t.answerback = { s.answerback with
        prefetched := none, pointer := s.answerback.pointer + 1, remaining := s.answerback.remaining - 1
        running := ¬ complete, lastResult := if complete then .complete else s.answerback.lastResult } ∧
       t.arbiter = { s.arbiter with answerback := waitAfterRequest (decide (¬ complete)) .answerback s } ∧
       (complete → t.switch.answerback = s.switch.deferred.getD s.switch.answerback ∧ t.switch.deferred = none) ∧
       (¬ complete → t.switch.answerback = s.switch.answerback ∧ t.switch.deferred = s.switch.deferred) ∧
       t.carriage = { s.carriage with
        queue := if row.print then s.carriage.queue ++ [.character (byte.extractLsb' 0 7)] else s.carriage.queue } ∧
       (let discarded := row.lineOut && decide (¬ onCall)
        t.status = { s.status with txDiscarded := s.status.txDiscarded || discarded } ∧
        t.attention = { s.attention with
          flags := s.attention.flags ||| flagIf (discarded && !s.status.txDiscarded) .loss |||
            flagIf complete .answerbackEnd })) ∧
      (row.lineOut = true ∧ onCall → t.transmitter.slot = .character byte) ∧
      t.switch.roundRobin = s.switch.roundRobin ∧
      changesOnly [.carriage, .answerback, .status, .attention, .arbiter, .switch, .flow, .transmitter] s t ∧
      onlySettles
        { s with
          switch := { s.switch with
            freedPlace := if row.print then false else s.switch.freedPlace
            answerback := t.switch.answerback, deferred := t.switch.deferred }
          transmitter := { s.transmitter with
            slot := if row.lineOut = true ∧ onCall then .character byte else s.transmitter.slot } } t))

/-! ## Line receiver -/

/-- R51, R54, R55, R60 to R62: the sample, of the pair that the channel listens for, at which the carrier becomes present takes LISTEN to QUALIFY and FADE to DATA; the one at which it becomes absent takes QUALIFY to LISTEN and DATA to FADE, with the frame in progress abandoned. The two rows are samples guarded by their consequence: the model's choice (log 15); the bit clock is the model's count (log 6). -/
def Obligations.CarrierChanges : Prop :=
  (∀ (s : State) (line : LineInput) (energy : Byte) (tone : Tone), heardBy s line = ⟨energy, tone⟩ →
    receiverSound s → s.receiver.line ≠ .idle →
    s.receiver.carrier = false → s.receiver.onThreshold.toNat ≤ sampleE energy s →
    ∃ t, exec (.carrierPresent line.low line.high) s = .next t ∧
      (if s.receiver.line = .listen then
        t.receiver = { sampledReceiver energy s with
          carrier := true, line := .qualify, qualifyTimer := some (s.receiver.qualifyCode * 100) }
       else
        t.receiver = { sampledReceiver energy s with
          carrier := true, line := .data, fadeTimer := none
          framer := if tone = .space then .frame ⟨0, 1, [], [], false⟩ else .hunt .mark }) ∧
      sampleOnly s t) ∧
  (∀ (s : State) (line : LineInput) (energy : Byte) (tone : Tone), heardBy s line = ⟨energy, tone⟩ →
    receiverSound s → s.receiver.line ≠ .idle →
    s.receiver.carrier = true → sampleE energy s < offThreshold s →
    ∃ t, exec (.carrierAbsent line.low line.high) s = .next t ∧
      (if s.receiver.line = .qualify then
        t.receiver = { sampledReceiver energy s with carrier := false, line := .listen, qualifyTimer := none }
       else
        t.receiver = { sampledReceiver energy s with
          carrier := false, line := .fade, fadeTimer := some (s.receiver.fadeCode * 100), framer := .hunt .mark }) ∧
      sampleOnly s t)

/-- R60 to R62, R65, R66: a sample, of the pair that the channel listens for, that leaves the carrier as it stands: in IDLE none is taken; in DATA the framer takes one tone decision, voting samples 7, 8 and 9 of each bit; elsewhere only the history and E move. A sample with a consequence that a row names, the carrier changing or a frame or break ending, is what that row is: one event under two names is the model's choice (log 15). The bit clock that a sample ticks is the model's count (log 6). -/
def Obligations.SamplesAndVotes : Prop :=
  (∀ (s : State) (line : LineInput), s.receiver.line = .idle →
    exec (.lineSample line.low line.high) s = .next s) ∧
  (∀ (s : State) (line : LineInput) (energy : Byte) (tone : Tone), heardBy s line = ⟨energy, tone⟩ →
    s.receiver.line ≠ .idle →
    (if s.receiver.carrier then offThreshold s ≤ sampleE energy s
     else sampleE energy s < s.receiver.onThreshold.toNat) →
    s.receiver.line ≠ .data →
    ∃ t, exec (.lineSample line.low line.high) s = .next t ∧ t.receiver = sampledReceiver energy s ∧ sampleOnly s t) ∧
  (∀ (s : State) (line : LineInput) (energy : Byte) (tone : Tone), heardBy s line = ⟨energy, tone⟩ →
    s.receiver.line = .data → s.receiver.carrier = true →
    offThreshold s ≤ sampleE energy s → framerSound s →
    (∀ p : FrameProgress, s.receiver.framer = .frame p → ¬ (p.bit = 9 ∧ p.sample = 15)) →
    ∃ t, exec (.lineSample line.low line.high) s = .next t ∧
      t.receiver = { sampledReceiver energy s with
        framer := match s.receiver.framer with
          | .stopped => .stopped
          | .hunt previous =>
            if previous = .mark ∧ tone = .space then .frame ⟨0, 1, [], [], false⟩ else .hunt tone
          | .breakWait => if tone = .mark then .hunt .mark else .breakWait
          | .frame p =>
            if p.sample = 16 then .frame { p with bit := p.bit + 1, sample := 1, early := [] }
            else if p.sample = 6 ∨ p.sample = 7 then
              .frame { p with sample := p.sample + 1, early := p.early ++ [tone] }
            else if p.sample = 8 then
              (let spaces := ((p.early ++ [tone]).filter (· = .space)).length
               let value : Tone := if 2 ≤ spaces then .space else .mark
               if p.bit = 0 ∧ value = .mark then .hunt tone
               else .frame { p with
                sample := 9, votes := p.votes ++ [value]
                noise := p.noise || decide (spaces = 1) || decide (spaces = 2) })
            else .frame { p with sample := p.sample + 1 } } ∧
      sampleOnly s t) ∧
  (∀ (s : State) (line : LineInput) (energy : Byte) (tone : Tone), heardBy s line = ⟨energy, tone⟩ →
    s.receiver.line ≠ .idle → s.receiver.carrier = false → s.receiver.onThreshold.toNat ≤ sampleE energy s →
    ∃ t, exec (.lineSample line.low line.high) s = .next t ∧ exec (.carrierPresent line.low line.high) s = .next t) ∧
  (∀ (s : State) (line : LineInput) (energy : Byte) (tone : Tone), heardBy s line = ⟨energy, tone⟩ →
    s.receiver.line ≠ .idle → s.receiver.carrier = true → sampleE energy s < offThreshold s →
    ∃ t, exec (.lineSample line.low line.high) s = .next t ∧ exec (.carrierAbsent line.low line.high) s = .next t) ∧
  (∀ (s : State) (line : LineInput) (energy : Byte) (tone : Tone) (p : FrameProgress), heardBy s line = ⟨energy, tone⟩ →
    s.receiver.line = .data → s.receiver.carrier = true → offThreshold s ≤ sampleE energy s →
    s.receiver.formatCode ≤ 7 → s.receiver.framer = .frame p → atFrameEnd p → ¬ allSpace p →
    ∃ t, exec (.lineSample line.low line.high) s = .next t ∧ exec (.frameReceived line.low line.high) s = .next t) ∧
  (∀ (s : State) (line : LineInput) (energy : Byte) (tone : Tone) (p : FrameProgress), heardBy s line = ⟨energy, tone⟩ →
    s.receiver.line = .data → s.receiver.carrier = true → offThreshold s ≤ sampleE energy s →
    s.receiver.formatCode ≤ 7 → s.receiver.framer = .frame p → atFrameEnd p → allSpace p →
    ∃ t, exec (.lineSample line.low line.high) s = .next t ∧ exec (.receivedBreak line.low line.high) s = .next t)

/-- R64, R67, R69 to R71, R11, R12, R18, R111: the sample that ends a frame that is no break: a pause or resume code is consumed, an ENQ triggers the answerback and asks for its first read, and any other character goes to the sinks of the LINE-IN row, an error glyph for one with an error, and an accepted record asks for its placement. The row is a sample guarded by its consequence: the model's choice (log 15); the bit clock that the sample ticks is the model's count (log 6), and the mark of a freed place is how the model keeps R6 (log 17). -/
def Obligations.FrameReceived : Prop :=
  ∀ (s : State) (line : LineInput) (energy : Byte) (tone : Tone) (p : FrameProgress) (character : Byte),
    heardBy s line = ⟨energy, tone⟩ → s.receiver.line = .data →
    s.receiver.carrier = true → offThreshold s ≤ sampleE energy s → s.receiver.formatCode ≤ 7 →
    s.receiver.framer = .frame p → atFrameEnd p → ¬ allSpace p → carries character s.receiver.formatCode p →
    ∃ t, exec (.frameReceived line.low line.high) s = .next t ∧
      t.receiver = { sampledReceiver energy s with framer := .hunt tone } ∧ clockTicked s t ∧
      (let parityError := frameParityError s.receiver.formatCode p
       let framingError := !votedMark p 9
       let inbound := !parityError && !framingError && s.receiver.options.inboundFlow
       let pauses := inbound && character = s.receiver.pauseCode
       let resumes := inbound && character ≠ s.receiver.pauseCode && character = s.receiver.resumeCode
       let enquires := !parityError && !framingError && s.receiver.options.enqAnswer && character = 0x05#8 &&
        !pauses && !resumes
       let taken := !pauses && !resumes && !enquires
       let entry : PrintEntry :=
        if parityError || framingError then .errorGlyph else .character (character.extractLsb' 0 7)
       let printed := taken && s.switch.lineIn.print && decide (s.carriage.queue.length < 48)
       let overrun := taken && s.switch.lineIn.print && decide (48 ≤ s.carriage.queue.length)
       let offered := taken && s.switch.lineIn.ring && decide (s.rings.receiveSize ≠ 0)
       let record : ReceiveRecord := ⟨.lineCharacter, parityError, framingError, p.noise, false, character⟩
       (if pauses then
        t.flow.remotePause = true ∧
          t.flow.remotePauseTimer = (if s.flow.timeoutCode = 0 then none else some (s.flow.timeoutCode * 5000))
        else if resumes then t.flow.remotePause = false ∧ t.flow.remotePauseTimer = none
        else t.flow.remotePause = s.flow.remotePause ∧ t.flow.remotePauseTimer = s.flow.remotePauseTimer) ∧
       t.arbiter = { s.arbiter with
        receiveWriter := waitAfterRequest (offered && recordFits s) .receiveWriter s
        answerback := waitAfterRequest
          (enquires && decide (s.answerback.running = false) && decide (s.answerback.length ≠ 0)) .answerback s } ∧
       (if enquires = true ∧ s.answerback.running = false ∧ s.answerback.length ≠ 0 then
        t.answerback = { s.answerback with
          running := true, pointer := s.answerback.base, remaining := s.answerback.length, prefetched := none
          lastResult := .noResult }
        else t.answerback = s.answerback) ∧
       t.carriage = { s.carriage with queue := if printed then s.carriage.queue ++ [entry] else s.carriage.queue } ∧
       t.rings = ringsAfterOffer offered record s ∧
       t.status = { s.status with
        printOverrun := s.status.printOverrun || overrun
        ringLoss := s.status.ringLoss || losesRecord offered s } ∧
       t.attention = { s.attention with
        flags := s.attention.flags ||| flagIf ((overrun && !s.status.printOverrun) ||
          (losesRecord offered s && !s.status.ringLoss)) .loss } ∧
       changesOnly [.receiver, .transmitter, .flow, .switch, .answerback, .arbiter, .carriage, .rings, .status,
        .attention] s t ∧
       onlySettles
        { s with
          switch := { s.switch with freedPlace := if printed then false else s.switch.freedPlace }
          flow := { s.flow with
            remotePause := t.flow.remotePause, remotePauseTimer := t.flow.remotePauseTimer }
          transmitter := { s.transmitter with
            bitClock := t.transmitter.bitClock, boundaryDue := t.transmitter.boundaryDue } } t)

/-- R18, R68, R113, R133, R134: the sample that ends a break: BREAK-IN, a break marker for the ring, which asks for its placement if accepted, the flush if its option is set, the answerback aborted whatever its row holds, remote pause cleared, and the framer waits for mark. The row is a sample guarded by its consequence: the model's choice (log 15); the bit clock that the sample ticks is the model's count (log 6), PRINT-IDLE at the flush of a READY carriage is the model's reading (log 23), and the mark of a freed place is how the model keeps R6 (log 17). -/
def Obligations.ReceivedBreak : Prop :=
  ∀ (s : State) (line : LineInput) (energy : Byte) (tone : Tone) (p : FrameProgress),
    heardBy s line = ⟨energy, tone⟩ → s.receiver.line = .data →
    s.receiver.carrier = true → offThreshold s ≤ sampleE energy s → s.receiver.formatCode ≤ 7 →
    s.receiver.framer = .frame p → atFrameEnd p → allSpace p →
    ∃ t, exec (.receivedBreak line.low line.high) s = .next t ∧
      t.receiver = { sampledReceiver energy s with framer := .breakWait } ∧ clockTicked s t ∧
      (let offered := s.switch.lineIn.ring && decide (s.rings.receiveSize ≠ 0)
       let flushes := s.receiver.options.breakFlushesPrint
       let idle := flushes && decide (s.carriage.state = .ready) && s.carriage.consumedSinceIdle
       t.flow.remotePause = false ∧ t.flow.remotePauseTimer = none ∧
       (if s.answerback.running then answerbackAborted s t
        else t.answerback = s.answerback ∧ t.switch.answerback = s.switch.answerback ∧
          t.switch.deferred = s.switch.deferred) ∧
       t.rings = ringsAfterOffer offered (plainRecord .breakMarker 0x00#8) s ∧
       t.arbiter = { (if s.answerback.running then arbiterAfterAbort s else s.arbiter) with
        receiveWriter := waitAfterRequest (offered && recordFits s) .receiveWriter s } ∧
       t.carriage = (if flushes then { s.carriage with
          queue := [], pending := [], consumedSinceIdle := s.carriage.consumedSinceIdle && !idle }
        else s.carriage) ∧
       t.status = { s.status with ringLoss := s.status.ringLoss || losesRecord offered s } ∧
       t.attention = { s.attention with
        flags := s.attention.flags ||| flagIf true .breakIn |||
          flagIf (losesRecord offered s && !s.status.ringLoss) .loss ||| flagIf idle .printIdle |||
          flagIf s.answerback.running .answerbackEnd } ∧
       changesOnly [.receiver, .transmitter, .flow, .switch, .answerback, .arbiter, .carriage, .rings, .status,
        .attention] s t ∧
       onlySettles
        { s with
          switch := { s.switch with
            freedPlace := if flushes then false else s.switch.freedPlace
            answerback := t.switch.answerback, deferred := t.switch.deferred }
          flow := { s.flow with remotePause := false, remotePauseTimer := none }
          transmitter := { s.transmitter with
            bitClock := t.transmitter.bitClock, boundaryDue := t.transmitter.boundaryDue } } t)

/-- R52, R53, R55, R57, R59, R190: the listen and fade expiries take the line to IDLE with NO-ANSWER and CARRIER-LOST, the qualify expiry takes it to DATA with QUALIFIED; LINE is requested with its cause. -/
def Obligations.LineTimers : Prop :=
  (∀ s : State, s.receiver.line = .listen ∨ s.receiver.line = .qualify → receiverSound s →
    ∃ t, exec .listenExpiry s = .next t ∧ enteredIdle s t ∧
      t.command = (if cutsCommandBreak s then { s.command with result := .refusedState, running := none }
        else s.command) ∧
      t.attention = { s.attention with
        flags := s.attention.flags ||| idleRequests s ||| flagIf true .line, lineCause := .noAnswer
        severalChanges := s.attention.severalChanges || s.attention.flags.getLsbD 0 } ∧
      changesOnly [.receiver, .transmitter, .tones, .flow, .status, .answerback, .switch, .arbiter, .command,
        .attention] s t) ∧
  (∀ s : State, s.receiver.line = .fade → receiverSound s →
    ∃ t, exec .fadeExpiry s = .next t ∧ enteredIdle s t ∧
      t.command = (if cutsCommandBreak s then { s.command with result := .refusedState, running := none }
        else s.command) ∧
      t.attention = { s.attention with
        flags := s.attention.flags ||| idleRequests s ||| flagIf true .line, lineCause := .carrierLost
        severalChanges := s.attention.severalChanges || s.attention.flags.getLsbD 0 } ∧
      changesOnly [.receiver, .transmitter, .tones, .flow, .status, .answerback, .switch, .arbiter, .command,
        .attention] s t) ∧
  (∀ s : State, s.receiver.line = .qualify → receiverSound s → offCallQuiet s →
    ∃ t, exec .qualifyExpiry s = .next t ∧
      t.receiver = { s.receiver with
        line := .data, window := .tracking, listenTimer := none, qualifyTimer := none, framer := .hunt .space } ∧
      (s.receiver.channel = .originate → leftOff s t) ∧
      (s.receiver.channel = .answer →
        t.transmitter.state = s.transmitter.state ∧ t.transmitter.bitClock = s.transmitter.bitClock ∧
        t.transmitter.boundaryDue = s.transmitter.boundaryDue ∧ t.tones = s.tones) ∧
      t.flow.state = (if t.flow.printDemand || t.flow.ringDemand then .pausePending else .clear) ∧ demandsJudged t ∧
      t.attention = { s.attention with
        flags := s.attention.flags ||| flagIf true .line, lineCause := .qualified
        severalChanges := s.attention.severalChanges || s.attention.flags.getLsbD 0 } ∧
      changesOnly [.receiver, .transmitter, .tones, .flow, .switch, .attention] s t ∧
      onlySettles
        { s with transmitter := { s.transmitter with
            state := t.transmitter.state, bitClock := t.transmitter.bitClock
            boundaryDue := t.transmitter.boundaryDue } } t)

/-! ## Line transmitter, flow control and voices -/

/-- R64, R86: the frame of a character: start bit, data bits least significant first, the parity bit of the format, and its stop bits. -/
def Obligations.FrameLayout : Prop :=
  ∀ (format : Fin 8) (character : Byte),
    (let bits := frameBits format.val character
     let data := dataBitsOf format.val
     let odd := (List.range 7).foldl (fun acc i => acc != character.getLsbD i) false
     bits.length = (if format.val < 5 then 10 else 11) ∧ bits[0]? = some .space ∧
     (∀ i : Fin 8, i.val < data → bits[i.val + 1]? = some (if character.getLsbD i then .mark else .space)) ∧
     (data = 7 → bits[8]? = some (match format.val with
        | 0 => if odd then .mark else .space
        | 5 => if odd then .mark else .space
        | 1 => if odd then .space else .mark
        | 6 => if odd then .space else .mark
        | 2 => .mark
        | _ => .space)) ∧
     bits[9]? = some .mark ∧ (5 ≤ format.val → bits[10]? = some .mark))

/-- R84, R86, R87, R90, R91: a bit boundary that is due: in MARK-IDLE and at a frame's end the shifter is free, within a frame the next bit's tone is sent, in BREAKING nothing changes, and POST-BREAK counts to its third boundary. That a boundary is due until it is taken is the model's choice (log 6); that FRAME_START and FRAME_END are the same due boundary, guarded by its consequence, that one step ends a frame and starts the next, and that BIT_BOUNDARY is what the row of its consequence is, is the model's choice (log 16). -/
def Obligations.BitBoundaries : Prop :=
  (∀ s : State, s.transmitter.boundaryDue = false → exec .bitBoundary s = .next s) ∧
  (∀ s : State, s.transmitter.boundaryDue = true → demandsJudged s → s.transmitter.state = .markIdle →
    s.transmitter.slot ≠ .empty → s.transmitter.breakPending = false →
    ∃ t, exec .frameStart s = .next t ∧ freeBoundary s t ∧ changesOnly [.transmitter, .tones, .flow, .switch] s t ∧
      onlySettles { s with transmitter := t.transmitter, flow := t.flow } t) ∧
  (∀ (s : State) (f : Shifting), s.transmitter.boundaryDue = true → demandsJudged s →
    s.transmitter.state = .sending → s.transmitter.shifter = some f → f.bits.length ≤ f.reached + 1 →
    ∃ t, exec .frameEnd s = .next t ∧ freeBoundary s t ∧ changesOnly [.transmitter, .tones, .flow, .switch] s t ∧
      onlySettles { s with transmitter := t.transmitter, flow := t.flow } t) ∧
  (∀ s : State, s.transmitter.boundaryDue = true → demandsJudged s →
    ∃ t, exec .bitBoundary s = .next t ∧
      (∀ f : Shifting, s.transmitter.state = .sending → s.transmitter.shifter = some f →
        f.reached + 1 < f.bits.length →
        t.transmitter = { s.transmitter with
          boundaryDue := false, shifter := some { f with reached := f.reached + 1 } } ∧
        (∀ tone : Tone, f.bits[f.reached + 1]? = some tone → t.tones = tonesOn tone s) ∧ t.flow = s.flow) ∧
      (s.transmitter.state = .markIdle → s.transmitter.slot = .empty → s.transmitter.breakPending = false →
        t.transmitter = { s.transmitter with boundaryDue := false } ∧ t.tones = s.tones ∧ t.flow = s.flow) ∧
      (s.transmitter.state = .breaking →
        t.transmitter = { s.transmitter with boundaryDue := false } ∧ t.tones = s.tones ∧ t.flow = s.flow) ∧
      (s.transmitter.state = .postBreak 0 →
        t.transmitter = { s.transmitter with boundaryDue := false, state := .postBreak 1 } ∧ t.tones = s.tones ∧
          t.flow = s.flow) ∧
      (s.transmitter.state = .postBreak 1 →
        t.transmitter = { s.transmitter with boundaryDue := false, state := .postBreak 2 } ∧ t.tones = s.tones ∧
          t.flow = s.flow) ∧
      (s.transmitter.state = .off ∨ s.transmitter.state = .markIdle ∨ s.transmitter.state = .sending ∨
          s.transmitter.state = .breaking ∨ s.transmitter.state = .postBreak 0 ∨ s.transmitter.state = .postBreak 1 →
        t.command = s.command ∧ t.attention = s.attention) ∧
      onlySettles { s with transmitter := t.transmitter, flow := t.flow } t ∧
      changesOnly [.transmitter, .tones, .flow, .switch, .command, .attention] s t) ∧
  (∀ s : State, s.transmitter.boundaryDue = true →
    ∃ t, exec .bitBoundary s = .next t ∧
      (s.transmitter.state = .markIdle ∨ frameCloses s = true ∨ s.transmitter.state = .postBreak 2 →
        s.transmitter.breakPending = false → s.transmitter.slot ≠ .empty → exec .frameStart s = .next t) ∧
      (frameCloses s = true → exec .frameEnd s = .next t) ∧
      (s.transmitter.state = .markIdle ∨ frameCloses s = true → s.transmitter.breakPending = true →
        exec .breakStart s = .next t) ∧
      (s.transmitter.state = .postBreak 2 → exec .postBreakEnd s = .next t))

/-- R90, R91: a pending break begins at a boundary in MARK-IDLE, whatever the slot holds; the break timer's expiry is followed by mark, and the third boundary after it ends the break, with DONE and COMMAND-END for a SEND-BREAK. That a boundary still due at the break timer's expiry is not counted is the model's reading (log 25); that BREAK_START and POST_BREAK_END are a due boundary guarded by its consequence is the model's choice (log 16), and that a boundary is due until it is taken is too (log 6). -/
def Obligations.Breaks : Prop :=
  (∀ s : State, s.transmitter.boundaryDue = true → demandsJudged s → s.transmitter.state = .markIdle →
    s.transmitter.breakPending = true →
    ∃ t, exec .breakStart s = .next t ∧ freeBoundary s t ∧ changesOnly [.transmitter, .tones, .switch] s t ∧
      onlySettles { s with transmitter := t.transmitter } t) ∧
  (∀ s : State, s.transmitter.state = .breaking → s.transmitter.breakTimer.isSome = true →
    ∃ t, exec .breakTimerExpiry s = .next t ∧
      t.transmitter = { s.transmitter with state := .postBreak 0, breakTimer := none, boundaryDue := false } ∧
      t.tones = tonesOn .mark s ∧ changesOnly [.transmitter, .tones] s t) ∧
  (∀ s : State, s.transmitter.boundaryDue = true → demandsJudged s → s.transmitter.state = .postBreak 2 →
    s.transmitter.breakPending = false →
    ∃ t, exec .postBreakEnd s = .next t ∧
      freeBoundary { s with transmitter := { s.transmitter with breakByCommand := false } } t ∧
      (if s.transmitter.breakByCommand = true ∧ s.command.running = some .sendBreak then
        t.command = { s.command with result := .done, running := none } ∧
        t.attention = { s.attention with flags := s.attention.flags ||| flagIf true .commandEnd }
       else t.command = s.command ∧ t.attention = s.attention) ∧
      changesOnly [.transmitter, .tones, .flow, .switch, .command, .attention] s t ∧
      onlySettles { s with transmitter := t.transmitter, flow := t.flow } t)

/-- R82, R88, R105: a requested flow code takes the empty slot, with the code in force; the remote-pause timer's expiry clears remote pause; the sounder timer's expiry ends the request and silences the sounder. -/
def Obligations.FlowCodeAndTimers : Prop :=
  (∀ (s : State) (kind : FlowCode), s.transmitter.flowRequest = some kind → s.transmitter.slot = .empty →
    demandsJudged s →
    ∃ t, exec .flowCodePlaced s = .next t ∧
      t.transmitter = { s.transmitter with
        flowRequest := none
        slot := .flow kind (match kind with
          | .pause => s.receiver.pauseCode
          | .resume => s.receiver.resumeCode) } ∧
      changesOnly [.transmitter, .switch] s t ∧ onlySettles { s with transmitter := t.transmitter } t) ∧
  (∀ s : State, s.flow.remotePauseTimer.isSome = true →
    ∃ t, exec .remotePauseTimerExpiry s = .next t ∧
      t.flow = { s.flow with remotePause := false, remotePauseTimer := none } ∧ changesOnly [.flow] s t) ∧
  (∀ s : State, s.tones.sounderTimer.isSome = true →
    ∃ t, exec .sounderTimerExpiry s = .next t ∧
      t.tones = { s.tones with
        sounder := { s.tones.sounder with sounding := false }, request := none, sounderTimer := none } ∧
      changesOnly [.tones] s t)

/-- R6, R9, R89, R96 to R101: the judgement that ends an event: the print demand at 32 and 8 entries, the ring demand at the pause level P and at P + 8, and the outbound flow state moves when demand arises or is withdrawn as a whole. A cancellation takes the code from the flow request or from the holding slot, and leaves a character in the slot. The waits for PRINT: one ends with its character or FEED, goes on while that waits, and begins when that finds the queue full; those that begin together begin later than every other. A freed place falls to the waiter that could fill it and has waited longest, and it is contested when more than one could fill it; how the model counts the moments is its choice (log 17). -/
def Obligations.DemandJudgement : Prop :=
  (∀ s : State,
    (let t := settle s
     let active := s.receiver.options.outboundFlow = true ∧ (s.receiver.line = .data ∨ s.receiver.line = .fade)
     let capacity := ringSlots s.rings.receiveSize - 1
     let level := min s.flow.ringPauseLevel (capacity - 1)
     let free := capacity - s.rings.receiveOccupancy - s.rings.staged.length
     let before := s.flow.printDemand || s.flow.ringDemand
     let after := t.flow.printDemand || t.flow.ringDemand
     t.flow.printDemand = decide (active ∧ s.switch.lineIn.print = true ∧
      (if s.flow.printDemand then 8 < s.carriage.queue.length else 32 ≤ s.carriage.queue.length)) ∧
     t.flow.ringDemand = decide (active ∧ s.switch.lineIn.ring = true ∧ s.rings.receiveSize ≠ 0 ∧
      (if s.flow.ringDemand then free < min (level + 8) capacity else free ≤ level)) ∧
     t.flow.state = (match s.flow.state, before, after with
      | .clear, false, true => .pausePending
      | .pausePending, true, false => .clear
      | .paused, true, false => .resumePending
      | .resumePending, false, true => .paused
      | state, _, _ => state) ∧
     t.transmitter = (match s.flow.state, before, after with
      | .clear, false, true => { s.transmitter with flowRequest := some .pause }
      | .paused, true, false => { s.transmitter with flowRequest := some .resume }
      | .pausePending, true, false => flowCodeCancelled s
      | .resumePending, false, true => flowCodeCancelled s
      | _, _, _ => s.transmitter) ∧
     settlesOnly [] s t)) ∧
  (∀ (s : State) (w : Waiter),
    (let before := s.switch.printWaits
     let after := (settle s).switch.printWaits
     (¬ waits w s → after.get w = none) ∧
     (waits w s → before.get w ≠ none → after.get w = before.get w) ∧
     (waits w s → before.get w = none → ¬ (goesToPrint w s ∧ 48 ≤ s.carriage.queue.length) → after.get w = none) ∧
     (waits w s → before.get w = none → goesToPrint w s → 48 ≤ s.carriage.queue.length →
      ∃ now, after.get w = some now ∧
       ∀ other : Waiter, ∀ since, after.get other = some since →
        (before.get other = none → since = now) ∧ (before.get other ≠ none → since < now)))) ∧
  (∀ (s : State) (w : Waiter), s.carriage.queue.length < 48 → couldFill w s →
    (placeFallsTo w s = true ↔
      (s.switch.freedPlace = true →
       ∀ other : Waiter, ∀ since, couldFill other s → s.switch.printWaits.get other = some since →
        ∃ mine, s.switch.printWaits.get w = some mine ∧ mine ≤ since))) ∧
  (∀ s : State, s.carriage.queue.length < 48 →
    (placeContested s = true ↔ ∃ w other : Waiter, w ≠ other ∧ couldFill w s ∧ couldFill other s))

/-- R74 to R76: one synthesis sample of both voices, each from its own accumulator, increment and level; none is made before the release of pin reset. That none is made before the release is the model's reading (log 27). -/
def Obligations.SynthesisSample : Prop :=
  (∀ s : State, s.passage.startUp ≠ .holding →
    ∃ t, exec .synthesisSample s = .next t ∧ voiceSampled s.tones.lineLevel s.tones.line t.tones.line ∧
      voiceSampled s.tones.sounderLevel s.tones.sounder t.tones.sounder ∧
      t.tones = { s.tones with line := t.tones.line, sounder := t.tones.sounder } ∧ changesOnly [.tones] s t) ∧
  (∀ s : State, s.passage.startUp = .holding → exec .synthesisSample s = .next s)

/-! ## Carriage -/

/-- R6, R121 to R125, R134: with the carriage READY the head entry leaves the queue and its first operation begins, with the rest pending, by its kind, its code, the position and the margin action; an entry without an operation is consumed at once; BEL requests a BELL. How a place freed in a full queue is kept for the longest wait of R6 is the model's (log 17). -/
def Obligations.EntryHandling : Prop :=
  ∀ (s : State) (e : PrintEntry) (rest : List PrintEntry) (p : Nat), s.carriage.queue = e :: rest →
    s.carriage.state = .ready → s.carriage.position = some p → p ≤ 80 →
    ∃ t, exec .entryHandling s = .next t ∧
      (let begun (state : CarriageState) (later : List Operation) : Prop :=
        t.carriage.state = state ∧ t.carriage.pending = later ∧ t.carriage.consumedSinceIdle = true ∧
        t.attention = s.attention
       let still : Prop := t.dot = s.dot ∧ t.arbiter = s.arbiter
       let moves (cell : Nat) : Prop :=
        begun .moving [] ∧ still ∧ t.carriage.target = cell ∧
        t.carriage.motionTimer = some (30 * (max p cell - min p cell))
       let consumed : Prop :=
        t.carriage = { s.carriage with queue := rest, consumedSinceIdle := rest ≠ [] } ∧ still ∧
        t.attention = { s.attention with flags := s.attention.flags ||| flagIf (rest = []) .printIdle }
       let prints (glyph : BitVec 7) : Prop :=
        if p = 80 ∧ s.carriage.wrap = true then
          begun .returning [.feed, .print glyph] ∧ still ∧ t.carriage.motionTimer = some 200
        else
          begun .printing [] ∧ t.dot = handedDot glyph (p = 80) s.dot s.sensor ∧ t.arbiter.font ≠ .absent ∧
          t.arbiter = { s.arbiter with font := t.arbiter.font }
       (match e with
        | .errorGlyph => prints 0x7F#7
        | .feed => begun .feeding [] ∧ still ∧ t.carriage.motionTimer = some 24
        | .character code =>
          if 0x21 ≤ code.toNat ∧ code.toNat ≤ 0x7E then prints code
          else if code = 0x20#7 then (if p < 80 then moves (p + 1) else consumed)
          else if code = 0x08#7 then (if 0 < p then moves (p - 1) else consumed)
          else if code = 0x09#7 then
            (if ∃ cell ∈ s.carriage.tabStops, p < cell then
              moves t.carriage.target ∧ t.carriage.target ∈ s.carriage.tabStops ∧ p < t.carriage.target ∧
              ∀ cell ∈ s.carriage.tabStops, p < cell → t.carriage.target ≤ cell
             else if p < 79 then moves 79 else consumed)
          else if code = 0x0D#7 then
            begun .returning (if s.receiver.options.crImpliesLf then [.feed] else []) ∧ still ∧
              t.carriage.motionTimer = some (40 + 2 * p)
          else if code = 0x0A#7 then begun .feeding [] ∧ still ∧ t.carriage.motionTimer = some 24
          else consumed) ∧
       t.carriage = { s.carriage with
        queue := rest, consumedSinceIdle := t.carriage.consumedSinceIdle, state := t.carriage.state
        pending := t.carriage.pending, target := t.carriage.target, motionTimer := t.carriage.motionTimer } ∧
       t.tones = (if e = .character 0x07#7 then tonesAfterBell s else s.tones)) ∧
      changesOnly [.carriage, .dot, .arbiter, .tones, .attention, .switch, .flow, .transmitter] s t ∧
      onlySettles
        { s with switch := { s.switch with
            freedPlace := decide (s.carriage.queue.length = 48) &&
              placeContested { s with carriage := { s.carriage with queue := rest } } } } t

/-- R120, R121, R123, R124, R130, R134: the end of a motion puts the position at its target, the end of a return at 0 with JAM set if home does not show, and the end of a feed leaves it; the boundary between operations follows. -/
def Obligations.OperationEnds : Prop :=
  (∀ s : State, s.carriage.state = .moving → carriageSound s →
    ∃ t, exec .motionEnd s = .next t ∧
      t.carriage = { s.carriage with
        position := some s.carriage.target, state := t.carriage.state, pending := t.carriage.pending
        motionTimer := t.carriage.motionTimer, consumedSinceIdle := t.carriage.consumedSinceIdle } ∧
      operationFollows s.carriage.pending s.dot s t ∧
      t.attention = { s.attention with
        flags := s.attention.flags ||| flagIf (boundaryIdle s.carriage.pending s t) .printIdle } ∧
      settlesOnly [.carriage, .dot, .arbiter, .attention] s t) ∧
  (∀ (s : State) (home : Bool), s.carriage.state = .returning → carriageSound s →
    ∃ t, exec (.returnEnd home) s = .next t ∧
      t.carriage = { s.carriage with
        position := some 0, jam := s.carriage.jam || !home, state := t.carriage.state
        pending := t.carriage.pending, motionTimer := t.carriage.motionTimer
        consumedSinceIdle := t.carriage.consumedSinceIdle } ∧
      operationFollows s.carriage.pending s.dot s t ∧
      t.attention = { s.attention with
        flags := s.attention.flags ||| flagIf (boundaryIdle s.carriage.pending s t) .printIdle |||
          flagIf (!home && !s.carriage.jam) .printFault } ∧
      settlesOnly [.carriage, .dot, .arbiter, .attention] s t) ∧
  (∀ s : State, s.carriage.state = .feeding → carriageSound s →
    ∃ t, exec .feedEnd s = .next t ∧
      t.carriage = { s.carriage with
        state := t.carriage.state, pending := t.carriage.pending, motionTimer := t.carriage.motionTimer
        consumedSinceIdle := t.carriage.consumedSinceIdle } ∧
      operationFollows s.carriage.pending s.dot s t ∧
      t.attention = { s.attention with
        flags := s.attention.flags ||| flagIf (boundaryIdle s.carriage.pending s t) .printIdle } ∧
      settlesOnly [.carriage, .dot, .arbiter, .attention] s t)

/-- R129, R130: the paper sensor's change to out sets PAPER, with PRINT-FAULT if it was clear, stops the timer and halts a READY carriage; its change to present starts 2 s while PAPER is set; the expiry clears PAPER, and a carriage halted for it alone goes on. That the sensor only moves its pin before the release of the host reset is the model's choice (log 19). -/
def Obligations.PaperSensor : Prop :=
  (∀ s : State, s.pins.paper = true → s.passage.startUp = .released →
    ∃ t, exec .paperOut s = .next t ∧ t.pins = { s.pins with paper := false } ∧
      t.carriage = { s.carriage with
        paper := true, paperTimer := none
        state := if s.carriage.state = .ready then .halted else s.carriage.state } ∧
      t.attention = { s.attention with flags := s.attention.flags ||| flagIf (!s.carriage.paper) .printFault } ∧
      settlesOnly [.pins, .carriage, .attention] s t) ∧
  (∀ s : State, s.pins.paper = false →
    ∃ t, exec .paperPresent s = .next t ∧ t.pins = { s.pins with paper := true } ∧
      t.carriage = { s.carriage with
        paperTimer := if s.carriage.paper then some 2000 else s.carriage.paperTimer } ∧
      changesOnly [.pins, .carriage] s t) ∧
  (∀ s : State, s.carriage.paperTimer.isSome = true → carriageSound s →
    ∃ t, exec .paperTimerExpiry s = .next t ∧
      (let others := s.carriage.hot || s.carriage.battery || s.carriage.jam
       if s.carriage.state = .halted ∧ others = false then
        t.carriage = { s.carriage with
          paper := false, paperTimer := none, state := t.carriage.state, pending := t.carriage.pending
          motionTimer := t.carriage.motionTimer, consumedSinceIdle := t.carriage.consumedSinceIdle } ∧
        operationFollows s.carriage.pending s.dot s t ∧
        t.attention = { s.attention with
          flags := s.attention.flags ||| flagIf (boundaryIdle s.carriage.pending s t) .printIdle }
       else
        t.carriage = { s.carriage with paper := false, paperTimer := none } ∧ t.attention = s.attention ∧
          t.dot = s.dot ∧ t.arbiter = s.arbiter) ∧
      settlesOnly [.carriage, .dot, .arbiter, .attention] s t)

/-- R131, R176, R183: a RESTART's home seek begins once its operation has stopped; a seek that finds home puts the position at 0 and the carriage in READY or HALTED; one that expires sets JAM and halts with the position undefined; either end ends a running RESTART with DONE and COMMAND-END. That home shown at the start of a seek is found by the HOME_FOUND that follows is the model's choice (log 18). -/
def Obligations.HomeSeek : Prop :=
  (let ended (s t : State) : Prop :=
    t.command = (if s.command.running = some .restart then { s.command with result := .done, running := none }
      else s.command)
   let endFlag (s : State) : BitVec 10 := flagIf (s.command.running = some .restart) .commandEnd
   (∀ s : State, s.carriage.state = .homeSeek → s.carriage.stopping.isSome = true → s.dot.state = .idle →
    ∃ t, exec .homeSeekStart s = .next t ∧
      t.carriage = { s.carriage with position := none, stopping := none, seekTimer := some 240 } ∧
      changesOnly [.carriage] s t) ∧
   (∀ s : State, s.carriage.state = .homeSeek → s.carriage.seekTimer.isSome = true → s.carriage.pending = [] →
    ∃ t, exec .homeFound s = .next t ∧
      t.carriage = { s.carriage with
        position := some 0, seekTimer := none, stopping := none, motionTimer := t.carriage.motionTimer
        state := t.carriage.state, consumedSinceIdle := t.carriage.consumedSinceIdle } ∧
      operationFollows [] s.dot s t ∧ ended s t ∧
      t.attention = { s.attention with
        flags := s.attention.flags ||| flagIf (boundaryIdle [] s t) .printIdle ||| endFlag s } ∧
      settlesOnly [.carriage, .command, .attention] s t) ∧
   (∀ s : State, s.carriage.state = .homeSeek → s.carriage.seekTimer.isSome = true →
    ∃ t, exec .seekTimerExpiry s = .next t ∧
      t.carriage = { s.carriage with
        state := .halted, position := none, seekTimer := none, stopping := none, jam := true } ∧
      ended s t ∧
      t.attention = { s.attention with
        flags := s.attention.flags ||| flagIf (!s.carriage.jam) .printFault ||| endFlag s } ∧
      settlesOnly [.carriage, .command, .attention] s t))

/-! ## Dot firing and sensing -/

/-- R136, R138 to R141, R155: a completed glyph fetch gives the five patterns, bit 7 dropped, which stand at columns 1 to 5 with column 6 empty, and begins the firing that waited for it, or is discarded after RESTART; the sixth back step is followed by the first column step. Where the firing that begins ends the cell at once, the glyph is discarded with it: the model's choice (log 33). -/
def Obligations.GlyphFetchAndBackStep : Prop :=
  (∀ (s : State) (address : Addr) (discarded : Bool) (c1 c2 c3 c4 c5 : Byte),
    s.arbiter.grant = some (.glyph address discarded) → s.arbiter.held = none →
    ∃ t, exec (.glyphFetch c1 c2 c3 c4 c5) s = .next t ∧
      (let pattern (data : Byte) : Rows := data.extractLsb' 0 7
       let held := { s.dot with glyph := .held (pattern c1) (pattern c2) (pattern c3) (pattern c4) (pattern c5) }
       let ended := { s with arbiter := { s.arbiter with grant := none } }
       if discarded then t.dot = s.dot ∧ unitAlone ended t
       else if s.dot.glyph = .requested ∧ s.dot.state = .settle ∧ s.dot.settleTimer = none then
        (1 ≤ s.dot.inputs.budget → (∀ op ∈ s.carriage.pending, op.mayFollow = true) → firingBegun held ended t)
       else t.dot = held ∧ unitAlone ended t) ∧
      t.arbiter.grant = none ∧ t.arbiter.held = none ∧
      t.pins = { s.pins with
        memory := [.read address c1, .read (address + 1) c2, .read (address + 2) c3, .read (address + 3) c4,
          .read (address + 4) c5] } ∧
      settlesOnly [.dot, .carriage, .arbiter, .attention, .pins] s t) ∧
  (∀ (s : State) (made : Nat), s.dot.state = .backStep made →
    ∃ t, exec .backStep s = .next t ∧
      t.dot = (if s.dot.stopping then stoppedDot s.dot
        else if made < 5 then { s.dot with state := .backStep (made + 1) }
        else steppedDot 1 s.dot s.sensor) ∧
      changesOnly [.dot] s t)

/-- R136, R138, R140, R141, R143, R152, R155: the settle expiry begins the firing of the column, the five patterns of the glyph at columns 1 to 5 in order and nothing at column 6; each strobe line is released at its own width, the last release of the last group ends the firing, and the next group starts with every line released. A firing that ends before the column timer dwells; one that ends after its expiry is followed at once by the next column step or, at column 6, by the end of the cell. That the end of the cell discards the glyph is the model's choice (log 33). -/
def Obligations.ColumnFiring : Prop :=
  (∀ s : State, s.dot.state = .settle → s.dot.settleTimer.isSome = true → 1 ≤ s.dot.inputs.budget →
    (∀ op ∈ s.carriage.pending, op.mayFollow = true) →
    ∃ t, exec .settleExpiry s = .next t ∧
      (if s.dot.glyph = .requested then t.dot = { s.dot with settleTimer := none } ∧ changesOnly [.dot] s t
       else
        firingBegun { s.dot with settleTimer := none } s t ∧
        settlesOnly [.dot, .carriage, .arbiter, .attention] s t)) ∧
  (∀ (s : State) (row : Fin 7), s.dot.state = .firing → s.dot.strobes.getLsbD row = true →
    (∀ other : Fin 7, s.dot.strobes.getLsbD other = true →
      rowWidth s.dot.freshWidth s.dot.warmWidth s.dot.history (row + 1) ≤
        rowWidth s.dot.freshWidth s.dot.warmWidth s.dot.history (other + 1)) →
    (∀ op ∈ s.carriage.pending, op.mayFollow = true) →
    ∃ t, exec (.strobeRelease (row + 1)) s = .next t ∧
      (let left := s.dot.strobes &&& ~~~BitVec.twoPow 7 row
       if left = 0 ∧ s.dot.groups = [] then firingEnded { s.dot with strobes := 0 } s t
       else t.dot = { s.dot with strobes := left } ∧ unitAlone s t) ∧
      settlesOnly [.dot, .carriage, .arbiter, .attention] s t) ∧
  (∀ (s : State) (g : Rows) (rest : List Rows), s.dot.state = .firing → s.dot.strobes = 0 →
    s.dot.groups = g :: rest →
    ∃ t, exec .groupStart s = .next t ∧ t.dot = { s.dot with strobes := g, groups := rest } ∧
      changesOnly [.dot] s t)

/-- R120 to R122, R130, R134, R140, R141, R155: the column timer's expiry before the end of the firing, one that RESTART lets finish among them, is only noted; it ends a dwell with the next column step, or, at column 6, ends the cell: the unit is IDLE, the position is one further but stays 80 at the margin, and the boundary between operations follows. That the end of the cell discards the glyph is the model's choice (log 33), and so is that the timer runs on in a firing that RESTART lets finish (log 35). -/
def Obligations.ColumnTimerExpiry : Prop :=
  ∀ s : State, s.dot.columnTimer.isSome = true → (s.dot.state = .dwell → s.carriage.state = .printing) → carriageSound s →
    ∃ t, exec .columnTimerExpiry s = .next t ∧
      (if s.dot.state ≠ .dwell then
        t.dot = { s.dot with columnTimer := none } ∧ settlesOnly [.dot] s t
       else if s.dot.column < 6 then
        t.dot = steppedDot (s.dot.column + 1) s.dot s.sensor ∧ settlesOnly [.dot] s t
       else
        (∀ p, s.carriage.position = some p → t.carriage.position = some (if p = 80 then 80 else p + 1)) ∧
        t.carriage = { s.carriage with
          position := t.carriage.position, state := t.carriage.state, pending := t.carriage.pending
          motionTimer := t.carriage.motionTimer, consumedSinceIdle := t.carriage.consumedSinceIdle } ∧
        operationFollows s.carriage.pending (stoppedDot s.dot) s t ∧
        t.attention = { s.attention with
          flags := s.attention.flags ||| flagIf (boundaryIdle s.carriage.pending s t) .printIdle } ∧
        settlesOnly [.carriage, .dot, .arbiter, .attention] s t)

/-- R128, R130, R156 to R158: the sample timer's expiry takes a new pair, in the units of R157, and restarts; HOT and BATTERY follow it with their thresholds, each change from clear to set requests PRINT-FAULT, and READY and HALTED are left as the causes say. -/
def Obligations.SensorReading : Prop :=
  ∀ (s : State) (millivolts : Nat) (millidegrees : Int), s.sensor.sampleTimer.isSome = true → carriageSound s →
    ∃ t, exec (.sensorReading millivolts millidegrees) s = .next t ∧
      (let u := min (millivolts / 50) 255
       let degrees := max (-40) (min (Int.fdiv millidegrees 1000) 100)
       let hot := decide (65 ≤ degrees) || (s.carriage.hot && decide (55 < degrees))
       let battery := decide (u < 88) || (s.carriage.battery && decide (u < 94))
       let fault := flagIf ((hot && !s.carriage.hot) || (battery && !s.carriage.battery)) .printFault
       let caused := s.carriage.paper || hot || battery || s.carriage.jam
       t.sensor = ⟨u, degrees, some 100⟩ ∧
       (if s.carriage.state = .halted ∧ caused = false then
        t.carriage = { s.carriage with
          hot := hot, battery := battery, state := t.carriage.state, pending := t.carriage.pending
          motionTimer := t.carriage.motionTimer, consumedSinceIdle := t.carriage.consumedSinceIdle } ∧
        operationFollows s.carriage.pending s.dot { s with sensor := t.sensor } t ∧
        t.attention = { s.attention with
          flags := s.attention.flags ||| fault ||| flagIf (boundaryIdle s.carriage.pending s t) .printIdle }
       else
        t.carriage = { s.carriage with
          hot := hot, battery := battery
          state := if s.carriage.state = .ready ∧ caused = true then .halted else s.carriage.state } ∧
        t.dot = s.dot ∧ t.arbiter = s.arbiter ∧
        t.attention = { s.attention with flags := s.attention.flags ||| fault })) ∧
      settlesOnly [.sensor, .carriage, .dot, .arbiter, .attention] s t

/-- R145, R147 to R149: the basic width by its three stages, the two widths from it within 100 to 1500 µs, and the effective budget, for the inputs of a column under any setup and reading in range. -/
def Obligations.PulseWidths : Prop :=
  (∀ i : ColumnInputs,
    (let u := max 80 (min i.battery 140)
     let voltage := (400 + 40 * i.density) * 14400 / (u * u)
     let basic := voltage * (125 - max (-10) (min i.temperature 60)).toNat / 100
     freshWidthOf i = max 100 (min basic 1500) ∧ warmWidthOf i = max 100 (min (basic * 3 / 4) 1500) ∧
     (i.density ≤ 7 → 190 ≤ freshWidthOf i ∧ freshWidthOf i ≤ 1500 ∧ 142 ≤ warmWidthOf i ∧
      warmWidthOf i ≤ freshWidthOf i))) ∧
  (∀ (column : Nat) (s : State), (columnStep column s).dot = steppedDot column s.dot s.sensor) ∧
  (∀ (fresh warm : Nat) (history : Rows) (row : Fin 7),
    rowWidth fresh warm history (row + 1) = if history.getLsbD row then warm else fresh)

/-- R150: the dots of the pattern, ascending, are cut into consecutive groups of B, the last of which may hold fewer; the number of groups is the number of dots over B, rounded up. -/
def Obligations.DotGroups : Prop :=
  ∀ (pattern : Rows) (budget : Nat), 1 ≤ budget → budget ≤ 7 →
    (let dots := (List.finRange 7).filter fun row => pattern.getLsbD row
     let groups := dotGroups pattern budget
     let members (g : Rows) := (List.finRange 7).filter fun row => g.getLsbD row
     (groups.map members).flatten = dots ∧ (∀ g ∈ groups.dropLast, (members g).length = budget) ∧
     (∀ g ∈ groups, 1 ≤ (members g).length ∧ (members g).length ≤ budget) ∧
     groups.length * budget < dots.length + budget ∧ dots.length ≤ groups.length * budget)

/-- R151: a group lasts as long as its longest pulse: the fresh width if it holds any fresh dot, the warm width if every dot in it is warm; with clamped inputs the warm width never exceeds the fresh. -/
def Obligations.GroupDuration : Prop :=
  ∀ (i : ColumnInputs) (history group : Rows), group ≠ 0 →
    (let fresh := freshWidthOf i
     let warm := warmWidthOf i
     let lasts := groupDuration fresh warm history group
     let pulse (row : Fin 7) := rowWidth fresh warm history (row + 1)
     warm ≤ fresh ∧
     ((∃ row : Fin 7, group.getLsbD row = true ∧ history.getLsbD row = false) → lasts = fresh) ∧
     ((∀ row : Fin 7, group.getLsbD row = true → history.getLsbD row = true) → lasts = warm) ∧
     (∀ row : Fin 7, group.getLsbD row = true → pulse row ≤ lasts) ∧
     (∃ row : Fin 7, group.getLsbD row = true ∧ pulse row = lasts))

/-! ## Memory cycles -/

/-- R38, R171 to R173: with the port free, the first waiting requester's grant starts, in the order of R172, at the address its owner has in force, its wait timer gone; a wait timer that reaches 16 µs makes the request overdue. -/
def Obligations.GrantStart : Prop :=
  (∀ s : State, s.arbiter.grant = none → s.arbiter.held = none → (grantLive .receiveWriter s = false) →
    (s.arbiter.receiveWriter ≠ .absent → s.rings.staged ≠ []) →
    (s.arbiter.keymap ≠ .absent → s.arbiter.keymapQueue ≠ []) →
    ∃ t, exec .grantStart s = .next t ∧ changesOnly [.arbiter] s t ∧
      (let a := s.arbiter
       if a.startUp ≠ .absent then t.arbiter = { a with startUp := .absent, grant := some .startUp }
       else if a.receiveWriter ≠ .absent then
        ∀ record ∈ s.rings.staged.head?, t.arbiter = { a with
          receiveWriter := .absent
          grant := some (.placement (s.rings.receiveBase + BitVec.ofNat 16 (2 * s.rings.receiveHead)) record.tag
            record.code false) }
       else if a.font ≠ .absent then
        t.arbiter = { a with
          font := .absent
          grant := some (.glyph (s.dot.fontBase + BitVec.ofNat 16 ((s.dot.code.toNat - 0x20) * 5)) false) }
       else if a.keymap ≠ .absent then
        ∃ grant, t.arbiter = { a with
          keymapQueue := a.keymapQueue.tail, grant := some grant
          keymap := if a.keymapQueue.tail = [] then .absent else .waiting } ∧
          (let base := s.keyboard.keymapBase
           match a.keymapQueue.head? with
            | some .headerLoad => grant = .headerLoad base false
            | some (.eligibility p) => grant = .eligibility p (base + BitVec.ofNat 16 (4 + p.val))
            | some .translation =>
              ∀ e ∈ s.keyboard.queue.head?,
                (let layer := if e.control then 2 else if e.shift then 1 else 0
                 grant = .translation (base + BitVec.ofNat 16 (4 + layer * 64 + e.position.val)) false)
            | none => False)
       else if a.answerback ≠ .absent then
        t.arbiter = { a with answerback := .absent, grant := some (.answerback s.answerback.pointer false) }
       else if a.sendRing ≠ .absent then
        t.arbiter = { a with
          sendRing := .absent
          grant := some (.send (s.rings.sendBase + BitVec.ofNat 16 s.rings.sendTail) false) }
       else t = s)) ∧
  (∀ (s : State) (r : Requester), s.arbiter.wait r = .waiting →
    ∃ t, exec (.waitTimerExpiry r) s = .next t ∧ t.arbiter.wait r = .overdue ∧
      (∀ other : Requester, other ≠ r → t.arbiter.wait other = s.arbiter.wait other) ∧
      t.arbiter.keymapQueue = s.arbiter.keymapQueue ∧ t.arbiter.grant = s.arbiter.grant ∧
      t.arbiter.held = s.arbiter.held ∧ changesOnly [.arbiter] s t)

/-- R18, R20, R22, R111, R160, R171 to R173: a completed placement has written the tag and the code, advances the head and requests RX-LEVEL at or above the level, and one that its owner has discarded only ends; a completed fetch holds its byte on offer. Each host-cycle row makes its cycle: through a free port it passes at once; during a grant it is held with HWAIT; while a wait timer stands at 16 µs it is held and the first waiting grant starts. At the end of any grant the held cycle passes after the grant's own effect. That a held cycle is kept as it was judged at its start is the model's reading (log 13). -/
def Obligations.RingGrants : Prop :=
  (∀ (s : State) (address : Addr) (tag code : Byte) (record : ReceiveRecord) (rest : List ReceiveRecord),
    s.arbiter.grant = some (.placement address tag code false) → s.arbiter.held = none →
    s.rings.staged = record :: rest →
    ∃ t, exec .receivePlacement s = .next t ∧
      t.rings = { s.rings with
        receiveHead := (s.rings.receiveHead + 1) % ringSlots s.rings.receiveSize, staged := rest } ∧
      t.pins = { s.pins with memory := [.write address tag, .write (address + 1) code] } ∧
      t.attention = { s.attention with
        flags := s.attention.flags ||| flagIf
          (min s.rings.notifyLevel (ringSlots s.rings.receiveSize - 1) ≤ t.rings.receiveOccupancy) .rxLevel } ∧
      t.arbiter = { s.arbiter with
        grant := none
        receiveWriter := if rest ≠ [] ∧ s.arbiter.receiveWriter = .absent then .waiting else s.arbiter.receiveWriter } ∧
      settlesOnly [.rings, .pins, .attention, .arbiter] s t) ∧
  (∀ (s : State) (address : Addr) (tag code : Byte),
    s.arbiter.grant = some (.placement address tag code true) → s.arbiter.held = none →
    ∃ t, exec .receivePlacement s = .next t ∧ t.arbiter = { s.arbiter with grant := none } ∧
      t.pins = { s.pins with memory := [.write address tag, .write (address + 1) code] } ∧
      settlesOnly [.pins, .arbiter] s t) ∧
  (∀ (s : State) (address : Addr) (discarded : Bool) (data : Byte),
    s.arbiter.grant = some (.send address discarded) → s.arbiter.held = none →
    ∃ t, exec (.sendFetch data) s = .next t ∧
      t.rings = { s.rings with prefetched := if discarded then s.rings.prefetched else some data } ∧
      t.arbiter = { s.arbiter with grant := none } ∧ t.pins = { s.pins with memory := [.read address data] } ∧
      settlesOnly [.rings, .pins, .arbiter] s t) ∧
  (∀ (s : State) (address : Addr) (discarded : Bool) (data : Byte),
    s.arbiter.grant = some (.answerback address discarded) → s.arbiter.held = none →
    ∃ t, exec (.answerbackRead data) s = .next t ∧
      t.answerback = { s.answerback with prefetched := if discarded then s.answerback.prefetched else some data } ∧
      t.arbiter = { s.arbiter with grant := none } ∧ t.pins = { s.pins with memory := [.read address data] } ∧
      settlesOnly [.answerback, .pins, .arbiter] s t) ∧
  (∀ (command : Instr) (s : State) (cycle : HostCycle), hostCycleOf command s = some cycle → portFree s →
    exec command s = .next (passCycle cycle s)) ∧
  (∀ (command : Instr) (s : State) (cycle : HostCycle), hostCycleOf command s = some cycle →
    s.passage.startUp = .released → s.arbiter.held = none → s.arbiter.grant ≠ none →
    ∃ t, exec command s = .next t ∧ hostWait t = true ∧
      t.arbiter = { s.arbiter with held := some cycle } ∧ changesOnly [.arbiter] s t) ∧
  (∀ (command : Instr) (s : State) (cycle : HostCycle) (r : Requester), hostCycleOf command s = some cycle →
    s.passage.startUp = .released → s.arbiter.held = none → s.arbiter.grant = none → s.arbiter.wait r = .overdue →
    (s.arbiter.receiveWriter ≠ .absent → s.rings.staged ≠ []) →
    (s.arbiter.keymap ≠ .absent → s.arbiter.keymapQueue ≠ []) →
    ∃ t u, exec command s = .next t ∧ exec .grantStart s = .next u ∧ u.arbiter.grant ≠ none ∧ hostWait t = true ∧
      t = { u with arbiter := { u.arbiter with held := some cycle } }) ∧
  (∀ (command : Instr) (s : State) (grant : Grant) (cycle : HostCycle), completesGrant command grant = true →
    s.arbiter.grant = some grant → s.arbiter.held = some cycle →
    ∃ t u, exec command { s with arbiter := { s.arbiter with held := none } } = .next u ∧ exec command s = .next t ∧
      u.arbiter.held = none ∧ hostWait t = false ∧
      (let passed := passCycle cycle u
       t = { passed with pins := { passed.pins with memory := u.pins.memory ++ passed.pins.memory } }))

/-! ## What every step keeps -/

/-- R186, R187 and the clamps of the chapters: LINE is never masked and always urgent, the in-service stack holds at most an URGENT entry above a NORMAL one, and every setup value and reading stands in its range. -/
def Obligations.HostFieldsInvariant : Prop :=
  ∀ s t : State, attentionSound s ∧ setupInRange s → step s = .next t → attentionSound t ∧ setupInRange t

/-- R14, R17, R21, R22, R34, R119: the queues keep within their capacities and the rings' indices within their rings; a placement runs only for a staged record, and the send ring fetches and offers only while it holds a byte. A place is kept for the longest wait for PRINT only in a queue of 47 that an entry has just left (R6; the mark is the model's, log 17). -/
def Obligations.RingsInvariant : Prop :=
  (∀ s t : State, queuesBounded s ∧ receiveRingSound s ∧ sendRingSound s → step s = .next t →
    queuesBounded t ∧ receiveRingSound t ∧ sendRingSound t) ∧
  (∀ s t : State, freedPlaceSound s → step s = .next t → freedPlaceSound t)

/-- R5, R109, R111: a running answerback has 1 to 32 bytes left, and only a running one reads, offers a byte or holds back a deferred row. -/
def Obligations.AnswerbackInvariant : Prop :=
  ∀ s t : State, answerbackSound s → step s = .next t → answerbackSound t

/-- R49 to R58, R65 to R67, R79, R84, R88, R93, R96, R100, R101: the line timers, the carrier, the window, the framer, the transmitter, the line voice and the flow state agree with the line state. -/
def Obligations.LineInvariant : Prop :=
  ∀ s t : State,
    startUpSound s ∧ receiverSound s ∧ framerSound s ∧ offCallQuiet s ∧ transmitterSound s ∧ flowSound s →
    step s = .next t →
    startUpSound t ∧ receiverSound t ∧ framerSound t ∧ offCallQuiet t ∧ transmitterSound t ∧ flowSound t

/-- R120, R126, R130, R136, R141, R150, R152, R155: the position lies in 0 to 80, the tab stops stay ordered, the carriage, its timers and the Dot Firing Unit agree, and no strobe line is driven outside FIRING or beyond the effective budget. -/
def Obligations.PrinterInvariant : Prop :=
  ∀ s t : State, printerSound s ∧ setupInRange s → step s = .next t → printerSound t ∧ setupInRange t

/-- R36 to R38, R77, R80, R82: the translator is IDLE exactly while the key queue is empty, the repeat timer runs exactly while there is a repeat key, and the sounder timer runs and the sounder sounds exactly while a sounder request is in progress. -/
def Obligations.KeyboardInvariant : Prop :=
  (∀ s t : State, keyboardSound s → step s = .next t → keyboardSound t) ∧
  (∀ s t : State, sounderSound s → step s = .next t → sounderSound t)

/-- R99 to R101: after every event the demands held are those that the queue, the rings, the rows, the option and the line give, and the outbound flow state is PAUSE-PENDING or PAUSED exactly while a demand is held; both from a state in which offCallQuiet holds: with the line not DATA or FADE no demand is held, no flow code is requested and the outbound flow state is CLEAR (R96, R103), which LineInvariant keeps along with its other parts. -/
def Obligations.DemandsInvariant : Prop :=
  (∀ s t : State, offCallQuiet s ∧ demandsJudged s → step s = .next t → demandsJudged t) ∧
  (∀ s t : State, offCallQuiet s ∧ flowFollowsDemand s → step s = .next t → flowFollowsDemand t)

/-- The state after pin reset meets every invariant. The values that the manual does not state for it are the model's (logs 4, 5, 19, 20). -/
def Obligations.ResetMeetsInvariants : Prop :=
  (let s := State.reset
   attentionSound s ∧ setupInRange s ∧ queuesBounded s ∧ receiveRingSound s ∧ sendRingSound s ∧ answerbackSound s ∧
   startUpSound s ∧ receiverSound s ∧ framerSound s ∧ offCallQuiet s ∧ transmitterSound s ∧ flowSound s ∧
   printerSound s ∧ keyboardSound s ∧ demandsJudged s ∧ sounderSound s ∧ freedPlaceSound s ∧
   flowFollowsDemand s)
end

