-- ==== Sys2Proof/Laws/State.lean ====
section
/-! SUPPORT. What each block update does to each block: the updated block is the function's value, every other block is as it was. -/

namespace Sys2Proof.Machine.State

variable (s : State)

section
variable (f : BusPassage → BusPassage)
@[simp] theorem onPassage_passage : (s.onPassage f).passage = f s.passage := rfl
@[simp] theorem onPassage_status : (s.onPassage f).status = s.status := rfl
@[simp] theorem onPassage_pins : (s.onPassage f).pins = s.pins := rfl
@[simp] theorem onPassage_arbiter : (s.onPassage f).arbiter = s.arbiter := rfl
@[simp] theorem onPassage_switch : (s.onPassage f).switch = s.switch := rfl
@[simp] theorem onPassage_rings : (s.onPassage f).rings = s.rings := rfl
@[simp] theorem onPassage_keyboard : (s.onPassage f).keyboard = s.keyboard := rfl
@[simp] theorem onPassage_translator : (s.onPassage f).translator = s.translator := rfl
@[simp] theorem onPassage_receiver : (s.onPassage f).receiver = s.receiver := rfl
@[simp] theorem onPassage_transmitter : (s.onPassage f).transmitter = s.transmitter := rfl
@[simp] theorem onPassage_tones : (s.onPassage f).tones = s.tones := rfl
@[simp] theorem onPassage_flow : (s.onPassage f).flow = s.flow := rfl
@[simp] theorem onPassage_answerback : (s.onPassage f).answerback = s.answerback := rfl
@[simp] theorem onPassage_carriage : (s.onPassage f).carriage = s.carriage := rfl
@[simp] theorem onPassage_dot : (s.onPassage f).dot = s.dot := rfl
@[simp] theorem onPassage_sensor : (s.onPassage f).sensor = s.sensor := rfl
@[simp] theorem onPassage_command : (s.onPassage f).command = s.command := rfl
@[simp] theorem onPassage_attention : (s.onPassage f).attention = s.attention := rfl
@[simp] theorem onPassage_pending : (s.onPassage f).pending = s.pending := rfl
end

section
variable (f : StatusFlags → StatusFlags)
@[simp] theorem onStatus_passage : (s.onStatus f).passage = s.passage := rfl
@[simp] theorem onStatus_status : (s.onStatus f).status = f s.status := rfl
@[simp] theorem onStatus_pins : (s.onStatus f).pins = s.pins := rfl
@[simp] theorem onStatus_arbiter : (s.onStatus f).arbiter = s.arbiter := rfl
@[simp] theorem onStatus_switch : (s.onStatus f).switch = s.switch := rfl
@[simp] theorem onStatus_rings : (s.onStatus f).rings = s.rings := rfl
@[simp] theorem onStatus_keyboard : (s.onStatus f).keyboard = s.keyboard := rfl
@[simp] theorem onStatus_translator : (s.onStatus f).translator = s.translator := rfl
@[simp] theorem onStatus_receiver : (s.onStatus f).receiver = s.receiver := rfl
@[simp] theorem onStatus_transmitter : (s.onStatus f).transmitter = s.transmitter := rfl
@[simp] theorem onStatus_tones : (s.onStatus f).tones = s.tones := rfl
@[simp] theorem onStatus_flow : (s.onStatus f).flow = s.flow := rfl
@[simp] theorem onStatus_answerback : (s.onStatus f).answerback = s.answerback := rfl
@[simp] theorem onStatus_carriage : (s.onStatus f).carriage = s.carriage := rfl
@[simp] theorem onStatus_dot : (s.onStatus f).dot = s.dot := rfl
@[simp] theorem onStatus_sensor : (s.onStatus f).sensor = s.sensor := rfl
@[simp] theorem onStatus_command : (s.onStatus f).command = s.command := rfl
@[simp] theorem onStatus_attention : (s.onStatus f).attention = s.attention := rfl
@[simp] theorem onStatus_pending : (s.onStatus f).pending = s.pending := rfl
end

section
variable (f : Pins → Pins)
@[simp] theorem onPins_passage : (s.onPins f).passage = s.passage := rfl
@[simp] theorem onPins_status : (s.onPins f).status = s.status := rfl
@[simp] theorem onPins_pins : (s.onPins f).pins = f s.pins := rfl
@[simp] theorem onPins_arbiter : (s.onPins f).arbiter = s.arbiter := rfl
@[simp] theorem onPins_switch : (s.onPins f).switch = s.switch := rfl
@[simp] theorem onPins_rings : (s.onPins f).rings = s.rings := rfl
@[simp] theorem onPins_keyboard : (s.onPins f).keyboard = s.keyboard := rfl
@[simp] theorem onPins_translator : (s.onPins f).translator = s.translator := rfl
@[simp] theorem onPins_receiver : (s.onPins f).receiver = s.receiver := rfl
@[simp] theorem onPins_transmitter : (s.onPins f).transmitter = s.transmitter := rfl
@[simp] theorem onPins_tones : (s.onPins f).tones = s.tones := rfl
@[simp] theorem onPins_flow : (s.onPins f).flow = s.flow := rfl
@[simp] theorem onPins_answerback : (s.onPins f).answerback = s.answerback := rfl
@[simp] theorem onPins_carriage : (s.onPins f).carriage = s.carriage := rfl
@[simp] theorem onPins_dot : (s.onPins f).dot = s.dot := rfl
@[simp] theorem onPins_sensor : (s.onPins f).sensor = s.sensor := rfl
@[simp] theorem onPins_command : (s.onPins f).command = s.command := rfl
@[simp] theorem onPins_attention : (s.onPins f).attention = s.attention := rfl
@[simp] theorem onPins_pending : (s.onPins f).pending = s.pending := rfl
end

section
variable (f : Arbiter → Arbiter)
@[simp] theorem onArbiter_passage : (s.onArbiter f).passage = s.passage := rfl
@[simp] theorem onArbiter_status : (s.onArbiter f).status = s.status := rfl
@[simp] theorem onArbiter_pins : (s.onArbiter f).pins = s.pins := rfl
@[simp] theorem onArbiter_arbiter : (s.onArbiter f).arbiter = f s.arbiter := rfl
@[simp] theorem onArbiter_switch : (s.onArbiter f).switch = s.switch := rfl
@[simp] theorem onArbiter_rings : (s.onArbiter f).rings = s.rings := rfl
@[simp] theorem onArbiter_keyboard : (s.onArbiter f).keyboard = s.keyboard := rfl
@[simp] theorem onArbiter_translator : (s.onArbiter f).translator = s.translator := rfl
@[simp] theorem onArbiter_receiver : (s.onArbiter f).receiver = s.receiver := rfl
@[simp] theorem onArbiter_transmitter : (s.onArbiter f).transmitter = s.transmitter := rfl
@[simp] theorem onArbiter_tones : (s.onArbiter f).tones = s.tones := rfl
@[simp] theorem onArbiter_flow : (s.onArbiter f).flow = s.flow := rfl
@[simp] theorem onArbiter_answerback : (s.onArbiter f).answerback = s.answerback := rfl
@[simp] theorem onArbiter_carriage : (s.onArbiter f).carriage = s.carriage := rfl
@[simp] theorem onArbiter_dot : (s.onArbiter f).dot = s.dot := rfl
@[simp] theorem onArbiter_sensor : (s.onArbiter f).sensor = s.sensor := rfl
@[simp] theorem onArbiter_command : (s.onArbiter f).command = s.command := rfl
@[simp] theorem onArbiter_attention : (s.onArbiter f).attention = s.attention := rfl
@[simp] theorem onArbiter_pending : (s.onArbiter f).pending = s.pending := rfl
end

section
variable (f : CharSwitch → CharSwitch)
@[simp] theorem onSwitch_passage : (s.onSwitch f).passage = s.passage := rfl
@[simp] theorem onSwitch_status : (s.onSwitch f).status = s.status := rfl
@[simp] theorem onSwitch_pins : (s.onSwitch f).pins = s.pins := rfl
@[simp] theorem onSwitch_arbiter : (s.onSwitch f).arbiter = s.arbiter := rfl
@[simp] theorem onSwitch_switch : (s.onSwitch f).switch = f s.switch := rfl
@[simp] theorem onSwitch_rings : (s.onSwitch f).rings = s.rings := rfl
@[simp] theorem onSwitch_keyboard : (s.onSwitch f).keyboard = s.keyboard := rfl
@[simp] theorem onSwitch_translator : (s.onSwitch f).translator = s.translator := rfl
@[simp] theorem onSwitch_receiver : (s.onSwitch f).receiver = s.receiver := rfl
@[simp] theorem onSwitch_transmitter : (s.onSwitch f).transmitter = s.transmitter := rfl
@[simp] theorem onSwitch_tones : (s.onSwitch f).tones = s.tones := rfl
@[simp] theorem onSwitch_flow : (s.onSwitch f).flow = s.flow := rfl
@[simp] theorem onSwitch_answerback : (s.onSwitch f).answerback = s.answerback := rfl
@[simp] theorem onSwitch_carriage : (s.onSwitch f).carriage = s.carriage := rfl
@[simp] theorem onSwitch_dot : (s.onSwitch f).dot = s.dot := rfl
@[simp] theorem onSwitch_sensor : (s.onSwitch f).sensor = s.sensor := rfl
@[simp] theorem onSwitch_command : (s.onSwitch f).command = s.command := rfl
@[simp] theorem onSwitch_attention : (s.onSwitch f).attention = s.attention := rfl
@[simp] theorem onSwitch_pending : (s.onSwitch f).pending = s.pending := rfl
end

section
variable (f : Rings → Rings)
@[simp] theorem onRings_passage : (s.onRings f).passage = s.passage := rfl
@[simp] theorem onRings_status : (s.onRings f).status = s.status := rfl
@[simp] theorem onRings_pins : (s.onRings f).pins = s.pins := rfl
@[simp] theorem onRings_arbiter : (s.onRings f).arbiter = s.arbiter := rfl
@[simp] theorem onRings_switch : (s.onRings f).switch = s.switch := rfl
@[simp] theorem onRings_rings : (s.onRings f).rings = f s.rings := rfl
@[simp] theorem onRings_keyboard : (s.onRings f).keyboard = s.keyboard := rfl
@[simp] theorem onRings_translator : (s.onRings f).translator = s.translator := rfl
@[simp] theorem onRings_receiver : (s.onRings f).receiver = s.receiver := rfl
@[simp] theorem onRings_transmitter : (s.onRings f).transmitter = s.transmitter := rfl
@[simp] theorem onRings_tones : (s.onRings f).tones = s.tones := rfl
@[simp] theorem onRings_flow : (s.onRings f).flow = s.flow := rfl
@[simp] theorem onRings_answerback : (s.onRings f).answerback = s.answerback := rfl
@[simp] theorem onRings_carriage : (s.onRings f).carriage = s.carriage := rfl
@[simp] theorem onRings_dot : (s.onRings f).dot = s.dot := rfl
@[simp] theorem onRings_sensor : (s.onRings f).sensor = s.sensor := rfl
@[simp] theorem onRings_command : (s.onRings f).command = s.command := rfl
@[simp] theorem onRings_attention : (s.onRings f).attention = s.attention := rfl
@[simp] theorem onRings_pending : (s.onRings f).pending = s.pending := rfl
end

section
variable (f : Keyboard → Keyboard)
@[simp] theorem onKeyboard_passage : (s.onKeyboard f).passage = s.passage := rfl
@[simp] theorem onKeyboard_status : (s.onKeyboard f).status = s.status := rfl
@[simp] theorem onKeyboard_pins : (s.onKeyboard f).pins = s.pins := rfl
@[simp] theorem onKeyboard_arbiter : (s.onKeyboard f).arbiter = s.arbiter := rfl
@[simp] theorem onKeyboard_switch : (s.onKeyboard f).switch = s.switch := rfl
@[simp] theorem onKeyboard_rings : (s.onKeyboard f).rings = s.rings := rfl
@[simp] theorem onKeyboard_keyboard : (s.onKeyboard f).keyboard = f s.keyboard := rfl
@[simp] theorem onKeyboard_translator : (s.onKeyboard f).translator = s.translator := rfl
@[simp] theorem onKeyboard_receiver : (s.onKeyboard f).receiver = s.receiver := rfl
@[simp] theorem onKeyboard_transmitter : (s.onKeyboard f).transmitter = s.transmitter := rfl
@[simp] theorem onKeyboard_tones : (s.onKeyboard f).tones = s.tones := rfl
@[simp] theorem onKeyboard_flow : (s.onKeyboard f).flow = s.flow := rfl
@[simp] theorem onKeyboard_answerback : (s.onKeyboard f).answerback = s.answerback := rfl
@[simp] theorem onKeyboard_carriage : (s.onKeyboard f).carriage = s.carriage := rfl
@[simp] theorem onKeyboard_dot : (s.onKeyboard f).dot = s.dot := rfl
@[simp] theorem onKeyboard_sensor : (s.onKeyboard f).sensor = s.sensor := rfl
@[simp] theorem onKeyboard_command : (s.onKeyboard f).command = s.command := rfl
@[simp] theorem onKeyboard_attention : (s.onKeyboard f).attention = s.attention := rfl
@[simp] theorem onKeyboard_pending : (s.onKeyboard f).pending = s.pending := rfl
end

section
variable (f : Translator → Translator)
@[simp] theorem onTranslator_passage : (s.onTranslator f).passage = s.passage := rfl
@[simp] theorem onTranslator_status : (s.onTranslator f).status = s.status := rfl
@[simp] theorem onTranslator_pins : (s.onTranslator f).pins = s.pins := rfl
@[simp] theorem onTranslator_arbiter : (s.onTranslator f).arbiter = s.arbiter := rfl
@[simp] theorem onTranslator_switch : (s.onTranslator f).switch = s.switch := rfl
@[simp] theorem onTranslator_rings : (s.onTranslator f).rings = s.rings := rfl
@[simp] theorem onTranslator_keyboard : (s.onTranslator f).keyboard = s.keyboard := rfl
@[simp] theorem onTranslator_translator : (s.onTranslator f).translator = f s.translator := rfl
@[simp] theorem onTranslator_receiver : (s.onTranslator f).receiver = s.receiver := rfl
@[simp] theorem onTranslator_transmitter : (s.onTranslator f).transmitter = s.transmitter := rfl
@[simp] theorem onTranslator_tones : (s.onTranslator f).tones = s.tones := rfl
@[simp] theorem onTranslator_flow : (s.onTranslator f).flow = s.flow := rfl
@[simp] theorem onTranslator_answerback : (s.onTranslator f).answerback = s.answerback := rfl
@[simp] theorem onTranslator_carriage : (s.onTranslator f).carriage = s.carriage := rfl
@[simp] theorem onTranslator_dot : (s.onTranslator f).dot = s.dot := rfl
@[simp] theorem onTranslator_sensor : (s.onTranslator f).sensor = s.sensor := rfl
@[simp] theorem onTranslator_command : (s.onTranslator f).command = s.command := rfl
@[simp] theorem onTranslator_attention : (s.onTranslator f).attention = s.attention := rfl
@[simp] theorem onTranslator_pending : (s.onTranslator f).pending = s.pending := rfl
end

section
variable (f : LineReceiver → LineReceiver)
@[simp] theorem onReceiver_passage : (s.onReceiver f).passage = s.passage := rfl
@[simp] theorem onReceiver_status : (s.onReceiver f).status = s.status := rfl
@[simp] theorem onReceiver_pins : (s.onReceiver f).pins = s.pins := rfl
@[simp] theorem onReceiver_arbiter : (s.onReceiver f).arbiter = s.arbiter := rfl
@[simp] theorem onReceiver_switch : (s.onReceiver f).switch = s.switch := rfl
@[simp] theorem onReceiver_rings : (s.onReceiver f).rings = s.rings := rfl
@[simp] theorem onReceiver_keyboard : (s.onReceiver f).keyboard = s.keyboard := rfl
@[simp] theorem onReceiver_translator : (s.onReceiver f).translator = s.translator := rfl
@[simp] theorem onReceiver_receiver : (s.onReceiver f).receiver = f s.receiver := rfl
@[simp] theorem onReceiver_transmitter : (s.onReceiver f).transmitter = s.transmitter := rfl
@[simp] theorem onReceiver_tones : (s.onReceiver f).tones = s.tones := rfl
@[simp] theorem onReceiver_flow : (s.onReceiver f).flow = s.flow := rfl
@[simp] theorem onReceiver_answerback : (s.onReceiver f).answerback = s.answerback := rfl
@[simp] theorem onReceiver_carriage : (s.onReceiver f).carriage = s.carriage := rfl
@[simp] theorem onReceiver_dot : (s.onReceiver f).dot = s.dot := rfl
@[simp] theorem onReceiver_sensor : (s.onReceiver f).sensor = s.sensor := rfl
@[simp] theorem onReceiver_command : (s.onReceiver f).command = s.command := rfl
@[simp] theorem onReceiver_attention : (s.onReceiver f).attention = s.attention := rfl
@[simp] theorem onReceiver_pending : (s.onReceiver f).pending = s.pending := rfl
end

section
variable (f : LineTransmitter → LineTransmitter)
@[simp] theorem onTransmitter_passage : (s.onTransmitter f).passage = s.passage := rfl
@[simp] theorem onTransmitter_status : (s.onTransmitter f).status = s.status := rfl
@[simp] theorem onTransmitter_pins : (s.onTransmitter f).pins = s.pins := rfl
@[simp] theorem onTransmitter_arbiter : (s.onTransmitter f).arbiter = s.arbiter := rfl
@[simp] theorem onTransmitter_switch : (s.onTransmitter f).switch = s.switch := rfl
@[simp] theorem onTransmitter_rings : (s.onTransmitter f).rings = s.rings := rfl
@[simp] theorem onTransmitter_keyboard : (s.onTransmitter f).keyboard = s.keyboard := rfl
@[simp] theorem onTransmitter_translator : (s.onTransmitter f).translator = s.translator := rfl
@[simp] theorem onTransmitter_receiver : (s.onTransmitter f).receiver = s.receiver := rfl
@[simp] theorem onTransmitter_transmitter : (s.onTransmitter f).transmitter = f s.transmitter := rfl
@[simp] theorem onTransmitter_tones : (s.onTransmitter f).tones = s.tones := rfl
@[simp] theorem onTransmitter_flow : (s.onTransmitter f).flow = s.flow := rfl
@[simp] theorem onTransmitter_answerback : (s.onTransmitter f).answerback = s.answerback := rfl
@[simp] theorem onTransmitter_carriage : (s.onTransmitter f).carriage = s.carriage := rfl
@[simp] theorem onTransmitter_dot : (s.onTransmitter f).dot = s.dot := rfl
@[simp] theorem onTransmitter_sensor : (s.onTransmitter f).sensor = s.sensor := rfl
@[simp] theorem onTransmitter_command : (s.onTransmitter f).command = s.command := rfl
@[simp] theorem onTransmitter_attention : (s.onTransmitter f).attention = s.attention := rfl
@[simp] theorem onTransmitter_pending : (s.onTransmitter f).pending = s.pending := rfl
end

section
variable (f : ToneSynthesizer → ToneSynthesizer)
@[simp] theorem onTones_passage : (s.onTones f).passage = s.passage := rfl
@[simp] theorem onTones_status : (s.onTones f).status = s.status := rfl
@[simp] theorem onTones_pins : (s.onTones f).pins = s.pins := rfl
@[simp] theorem onTones_arbiter : (s.onTones f).arbiter = s.arbiter := rfl
@[simp] theorem onTones_switch : (s.onTones f).switch = s.switch := rfl
@[simp] theorem onTones_rings : (s.onTones f).rings = s.rings := rfl
@[simp] theorem onTones_keyboard : (s.onTones f).keyboard = s.keyboard := rfl
@[simp] theorem onTones_translator : (s.onTones f).translator = s.translator := rfl
@[simp] theorem onTones_receiver : (s.onTones f).receiver = s.receiver := rfl
@[simp] theorem onTones_transmitter : (s.onTones f).transmitter = s.transmitter := rfl
@[simp] theorem onTones_tones : (s.onTones f).tones = f s.tones := rfl
@[simp] theorem onTones_flow : (s.onTones f).flow = s.flow := rfl
@[simp] theorem onTones_answerback : (s.onTones f).answerback = s.answerback := rfl
@[simp] theorem onTones_carriage : (s.onTones f).carriage = s.carriage := rfl
@[simp] theorem onTones_dot : (s.onTones f).dot = s.dot := rfl
@[simp] theorem onTones_sensor : (s.onTones f).sensor = s.sensor := rfl
@[simp] theorem onTones_command : (s.onTones f).command = s.command := rfl
@[simp] theorem onTones_attention : (s.onTones f).attention = s.attention := rfl
@[simp] theorem onTones_pending : (s.onTones f).pending = s.pending := rfl
end

section
variable (f : FlowController → FlowController)
@[simp] theorem onFlow_passage : (s.onFlow f).passage = s.passage := rfl
@[simp] theorem onFlow_status : (s.onFlow f).status = s.status := rfl
@[simp] theorem onFlow_pins : (s.onFlow f).pins = s.pins := rfl
@[simp] theorem onFlow_arbiter : (s.onFlow f).arbiter = s.arbiter := rfl
@[simp] theorem onFlow_switch : (s.onFlow f).switch = s.switch := rfl
@[simp] theorem onFlow_rings : (s.onFlow f).rings = s.rings := rfl
@[simp] theorem onFlow_keyboard : (s.onFlow f).keyboard = s.keyboard := rfl
@[simp] theorem onFlow_translator : (s.onFlow f).translator = s.translator := rfl
@[simp] theorem onFlow_receiver : (s.onFlow f).receiver = s.receiver := rfl
@[simp] theorem onFlow_transmitter : (s.onFlow f).transmitter = s.transmitter := rfl
@[simp] theorem onFlow_tones : (s.onFlow f).tones = s.tones := rfl
@[simp] theorem onFlow_flow : (s.onFlow f).flow = f s.flow := rfl
@[simp] theorem onFlow_answerback : (s.onFlow f).answerback = s.answerback := rfl
@[simp] theorem onFlow_carriage : (s.onFlow f).carriage = s.carriage := rfl
@[simp] theorem onFlow_dot : (s.onFlow f).dot = s.dot := rfl
@[simp] theorem onFlow_sensor : (s.onFlow f).sensor = s.sensor := rfl
@[simp] theorem onFlow_command : (s.onFlow f).command = s.command := rfl
@[simp] theorem onFlow_attention : (s.onFlow f).attention = s.attention := rfl
@[simp] theorem onFlow_pending : (s.onFlow f).pending = s.pending := rfl
end

section
variable (f : AnswerbackUnit → AnswerbackUnit)
@[simp] theorem onAnswerback_passage : (s.onAnswerback f).passage = s.passage := rfl
@[simp] theorem onAnswerback_status : (s.onAnswerback f).status = s.status := rfl
@[simp] theorem onAnswerback_pins : (s.onAnswerback f).pins = s.pins := rfl
@[simp] theorem onAnswerback_arbiter : (s.onAnswerback f).arbiter = s.arbiter := rfl
@[simp] theorem onAnswerback_switch : (s.onAnswerback f).switch = s.switch := rfl
@[simp] theorem onAnswerback_rings : (s.onAnswerback f).rings = s.rings := rfl
@[simp] theorem onAnswerback_keyboard : (s.onAnswerback f).keyboard = s.keyboard := rfl
@[simp] theorem onAnswerback_translator : (s.onAnswerback f).translator = s.translator := rfl
@[simp] theorem onAnswerback_receiver : (s.onAnswerback f).receiver = s.receiver := rfl
@[simp] theorem onAnswerback_transmitter : (s.onAnswerback f).transmitter = s.transmitter := rfl
@[simp] theorem onAnswerback_tones : (s.onAnswerback f).tones = s.tones := rfl
@[simp] theorem onAnswerback_flow : (s.onAnswerback f).flow = s.flow := rfl
@[simp] theorem onAnswerback_answerback : (s.onAnswerback f).answerback = f s.answerback := rfl
@[simp] theorem onAnswerback_carriage : (s.onAnswerback f).carriage = s.carriage := rfl
@[simp] theorem onAnswerback_dot : (s.onAnswerback f).dot = s.dot := rfl
@[simp] theorem onAnswerback_sensor : (s.onAnswerback f).sensor = s.sensor := rfl
@[simp] theorem onAnswerback_command : (s.onAnswerback f).command = s.command := rfl
@[simp] theorem onAnswerback_attention : (s.onAnswerback f).attention = s.attention := rfl
@[simp] theorem onAnswerback_pending : (s.onAnswerback f).pending = s.pending := rfl
end

section
variable (f : Carriage → Carriage)
@[simp] theorem onCarriage_passage : (s.onCarriage f).passage = s.passage := rfl
@[simp] theorem onCarriage_status : (s.onCarriage f).status = s.status := rfl
@[simp] theorem onCarriage_pins : (s.onCarriage f).pins = s.pins := rfl
@[simp] theorem onCarriage_arbiter : (s.onCarriage f).arbiter = s.arbiter := rfl
@[simp] theorem onCarriage_switch : (s.onCarriage f).switch = s.switch := rfl
@[simp] theorem onCarriage_rings : (s.onCarriage f).rings = s.rings := rfl
@[simp] theorem onCarriage_keyboard : (s.onCarriage f).keyboard = s.keyboard := rfl
@[simp] theorem onCarriage_translator : (s.onCarriage f).translator = s.translator := rfl
@[simp] theorem onCarriage_receiver : (s.onCarriage f).receiver = s.receiver := rfl
@[simp] theorem onCarriage_transmitter : (s.onCarriage f).transmitter = s.transmitter := rfl
@[simp] theorem onCarriage_tones : (s.onCarriage f).tones = s.tones := rfl
@[simp] theorem onCarriage_flow : (s.onCarriage f).flow = s.flow := rfl
@[simp] theorem onCarriage_answerback : (s.onCarriage f).answerback = s.answerback := rfl
@[simp] theorem onCarriage_carriage : (s.onCarriage f).carriage = f s.carriage := rfl
@[simp] theorem onCarriage_dot : (s.onCarriage f).dot = s.dot := rfl
@[simp] theorem onCarriage_sensor : (s.onCarriage f).sensor = s.sensor := rfl
@[simp] theorem onCarriage_command : (s.onCarriage f).command = s.command := rfl
@[simp] theorem onCarriage_attention : (s.onCarriage f).attention = s.attention := rfl
@[simp] theorem onCarriage_pending : (s.onCarriage f).pending = s.pending := rfl
end

section
variable (f : DotFiring → DotFiring)
@[simp] theorem onDot_passage : (s.onDot f).passage = s.passage := rfl
@[simp] theorem onDot_status : (s.onDot f).status = s.status := rfl
@[simp] theorem onDot_pins : (s.onDot f).pins = s.pins := rfl
@[simp] theorem onDot_arbiter : (s.onDot f).arbiter = s.arbiter := rfl
@[simp] theorem onDot_switch : (s.onDot f).switch = s.switch := rfl
@[simp] theorem onDot_rings : (s.onDot f).rings = s.rings := rfl
@[simp] theorem onDot_keyboard : (s.onDot f).keyboard = s.keyboard := rfl
@[simp] theorem onDot_translator : (s.onDot f).translator = s.translator := rfl
@[simp] theorem onDot_receiver : (s.onDot f).receiver = s.receiver := rfl
@[simp] theorem onDot_transmitter : (s.onDot f).transmitter = s.transmitter := rfl
@[simp] theorem onDot_tones : (s.onDot f).tones = s.tones := rfl
@[simp] theorem onDot_flow : (s.onDot f).flow = s.flow := rfl
@[simp] theorem onDot_answerback : (s.onDot f).answerback = s.answerback := rfl
@[simp] theorem onDot_carriage : (s.onDot f).carriage = s.carriage := rfl
@[simp] theorem onDot_dot : (s.onDot f).dot = f s.dot := rfl
@[simp] theorem onDot_sensor : (s.onDot f).sensor = s.sensor := rfl
@[simp] theorem onDot_command : (s.onDot f).command = s.command := rfl
@[simp] theorem onDot_attention : (s.onDot f).attention = s.attention := rfl
@[simp] theorem onDot_pending : (s.onDot f).pending = s.pending := rfl
end

section
variable (f : SensorMonitor → SensorMonitor)
@[simp] theorem onSensor_passage : (s.onSensor f).passage = s.passage := rfl
@[simp] theorem onSensor_status : (s.onSensor f).status = s.status := rfl
@[simp] theorem onSensor_pins : (s.onSensor f).pins = s.pins := rfl
@[simp] theorem onSensor_arbiter : (s.onSensor f).arbiter = s.arbiter := rfl
@[simp] theorem onSensor_switch : (s.onSensor f).switch = s.switch := rfl
@[simp] theorem onSensor_rings : (s.onSensor f).rings = s.rings := rfl
@[simp] theorem onSensor_keyboard : (s.onSensor f).keyboard = s.keyboard := rfl
@[simp] theorem onSensor_translator : (s.onSensor f).translator = s.translator := rfl
@[simp] theorem onSensor_receiver : (s.onSensor f).receiver = s.receiver := rfl
@[simp] theorem onSensor_transmitter : (s.onSensor f).transmitter = s.transmitter := rfl
@[simp] theorem onSensor_tones : (s.onSensor f).tones = s.tones := rfl
@[simp] theorem onSensor_flow : (s.onSensor f).flow = s.flow := rfl
@[simp] theorem onSensor_answerback : (s.onSensor f).answerback = s.answerback := rfl
@[simp] theorem onSensor_carriage : (s.onSensor f).carriage = s.carriage := rfl
@[simp] theorem onSensor_dot : (s.onSensor f).dot = s.dot := rfl
@[simp] theorem onSensor_sensor : (s.onSensor f).sensor = f s.sensor := rfl
@[simp] theorem onSensor_command : (s.onSensor f).command = s.command := rfl
@[simp] theorem onSensor_attention : (s.onSensor f).attention = s.attention := rfl
@[simp] theorem onSensor_pending : (s.onSensor f).pending = s.pending := rfl
end

section
variable (f : CommandUnit → CommandUnit)
@[simp] theorem onCommand_passage : (s.onCommand f).passage = s.passage := rfl
@[simp] theorem onCommand_status : (s.onCommand f).status = s.status := rfl
@[simp] theorem onCommand_pins : (s.onCommand f).pins = s.pins := rfl
@[simp] theorem onCommand_arbiter : (s.onCommand f).arbiter = s.arbiter := rfl
@[simp] theorem onCommand_switch : (s.onCommand f).switch = s.switch := rfl
@[simp] theorem onCommand_rings : (s.onCommand f).rings = s.rings := rfl
@[simp] theorem onCommand_keyboard : (s.onCommand f).keyboard = s.keyboard := rfl
@[simp] theorem onCommand_translator : (s.onCommand f).translator = s.translator := rfl
@[simp] theorem onCommand_receiver : (s.onCommand f).receiver = s.receiver := rfl
@[simp] theorem onCommand_transmitter : (s.onCommand f).transmitter = s.transmitter := rfl
@[simp] theorem onCommand_tones : (s.onCommand f).tones = s.tones := rfl
@[simp] theorem onCommand_flow : (s.onCommand f).flow = s.flow := rfl
@[simp] theorem onCommand_answerback : (s.onCommand f).answerback = s.answerback := rfl
@[simp] theorem onCommand_carriage : (s.onCommand f).carriage = s.carriage := rfl
@[simp] theorem onCommand_dot : (s.onCommand f).dot = s.dot := rfl
@[simp] theorem onCommand_sensor : (s.onCommand f).sensor = s.sensor := rfl
@[simp] theorem onCommand_command : (s.onCommand f).command = f s.command := rfl
@[simp] theorem onCommand_attention : (s.onCommand f).attention = s.attention := rfl
@[simp] theorem onCommand_pending : (s.onCommand f).pending = s.pending := rfl
end

section
variable (f : Attention → Attention)
@[simp] theorem onAttention_passage : (s.onAttention f).passage = s.passage := rfl
@[simp] theorem onAttention_status : (s.onAttention f).status = s.status := rfl
@[simp] theorem onAttention_pins : (s.onAttention f).pins = s.pins := rfl
@[simp] theorem onAttention_arbiter : (s.onAttention f).arbiter = s.arbiter := rfl
@[simp] theorem onAttention_switch : (s.onAttention f).switch = s.switch := rfl
@[simp] theorem onAttention_rings : (s.onAttention f).rings = s.rings := rfl
@[simp] theorem onAttention_keyboard : (s.onAttention f).keyboard = s.keyboard := rfl
@[simp] theorem onAttention_translator : (s.onAttention f).translator = s.translator := rfl
@[simp] theorem onAttention_receiver : (s.onAttention f).receiver = s.receiver := rfl
@[simp] theorem onAttention_transmitter : (s.onAttention f).transmitter = s.transmitter := rfl
@[simp] theorem onAttention_tones : (s.onAttention f).tones = s.tones := rfl
@[simp] theorem onAttention_flow : (s.onAttention f).flow = s.flow := rfl
@[simp] theorem onAttention_answerback : (s.onAttention f).answerback = s.answerback := rfl
@[simp] theorem onAttention_carriage : (s.onAttention f).carriage = s.carriage := rfl
@[simp] theorem onAttention_dot : (s.onAttention f).dot = s.dot := rfl
@[simp] theorem onAttention_sensor : (s.onAttention f).sensor = s.sensor := rfl
@[simp] theorem onAttention_command : (s.onAttention f).command = s.command := rfl
@[simp] theorem onAttention_attention : (s.onAttention f).attention = f s.attention := rfl
@[simp] theorem onAttention_pending : (s.onAttention f).pending = s.pending := rfl
end

end Sys2Proof.Machine.State
end

