-- ==== Sys2Proof/Laws/Operations.lean ====
section
/-! SUPPORT. What the shared operations do, said once: a host cycle through a free port, the end of a grant, the judgement that ends an event, and the values the flags and the rings take. -/

namespace Sys2Proof.Machine

/-! ## Addresses of the control block -/

theorem controlAddress_getLsbD (page : Byte) (offset : Offset) (i : Nat) :
    (controlAddress page offset).getLsbD i =
      if i < 8 then (0#2 ++ offset : Byte).getLsbD i else page.getLsbD (i - 8) :=
  BitVec.getLsbD_append (x := page) (y := (0#2 ++ offset : Byte))

theorem controlOffset_controlAddress (page : Byte) (offset : Offset) :
    controlOffset page (controlAddress page offset) = some offset := by
  have h : ∀ o : Offset, (0#2 ++ o : Byte).extractLsb' 6 2 = 0#2 ∧ (0#2 ++ o : Byte).extractLsb' 0 6 = o := by decide
  have hp : (controlAddress page offset).extractLsb' 8 8 = page := by
    apply BitVec.eq_of_getLsbD_eq; intro i hi
    simp [controlAddress_getLsbD, hi]
  have hm : (controlAddress page offset).extractLsb' 6 2 = (0#2 ++ offset : Byte).extractLsb' 6 2 := by
    apply BitVec.eq_of_getLsbD_eq; intro i hi
    simp only [BitVec.getLsbD_extractLsb', controlAddress_getLsbD, show 6 + i < 8 by omega, if_true]
  have hl : (controlAddress page offset).extractLsb' 0 6 = (0#2 ++ offset : Byte).extractLsb' 0 6 := by
    apply BitVec.eq_of_getLsbD_eq; intro i hi
    simp only [BitVec.getLsbD_extractLsb', controlAddress_getLsbD, show 0 + i < 8 by omega, if_true]
  simp [controlOffset, hp, hm, hl, h offset]

/-! ## Host cycles and grants -/

theorem judgeWrite_control {s : State} {offset : Offset} (h : offset = 0#6 → s.command.result ≠ .running) :
    judgeWrite (controlAddress s.passage.page offset) s = .control offset := by
  simp only [judgeWrite, controlOffset_controlAddress]
  split
  · rename_i hc; exact absurd hc.2 (h hc.1)
  · rfl

theorem hostWrite_of_portFree {s : State} (h : portFree s) (address : Addr) (data : Byte) :
    hostWrite address data s = completeWrite address data (judgeWrite address s) s := by
  obtain ⟨h1, h2, h3, h4⟩ := h
  simp [hostWrite, hostMayCycle, runCycle, passCycle, h1, h2, h3, h4]

theorem hostRead_of_portFree {s : State} (h : portFree s) (address : Addr) (data : Byte) :
    hostRead address data s = completeRead address data (judgeRead address s) s := by
  obtain ⟨h1, h2, h3, h4⟩ := h
  simp [hostRead, hostMayCycle, runCycle, passCycle, h1, h2, h3, h4]

/-- A host write to the control block through a free port reaches the field's owner, and the event is judged. -/
theorem writeAt_of_portFree {s : State} (h : portFree s) {offset : Offset} (data : Byte)
    (hc : offset = 0#6 → s.command.result ≠ .running) :
    writeAt offset data s =
      settle (writeControl offset data (driveMemory [.write (controlAddress s.passage.page offset) data] s)) := by
  simp only [writeAt, hostWrite_of_portFree h, judgeWrite_control hc, completeWrite]

theorem passHeld_of_none {s : State} (h : s.arbiter.held = none) : passHeld s = s := by simp [passHeld, h]

/-! ## The judgement that ends an event (R6, R99) -/

theorem judgeWaits_changes (s : State) :
    judgeWaits s = s.onSwitch fun c => { c with printWaits := (judgeWaits s).switch.printWaits } := rfl

theorem demandArises_cases (s : State) :
    demandArises s = s ∨
    demandArises s = requestFlowCode .pause (s.onFlow fun f => { f with state := .pausePending }) ∨
    demandArises s = cancelFlowCode (s.onFlow fun f => { f with state := .paused }) := by
  unfold demandArises; split <;> simp

theorem demandWithdrawn_cases (s : State) :
    demandWithdrawn s = s ∨
    demandWithdrawn s = cancelFlowCode (s.onFlow fun f => { f with state := .clear }) ∨
    demandWithdrawn s = requestFlowCode .resume (s.onFlow fun f => { f with state := .resumePending }) := by
  unfold demandWithdrawn; split <;> simp

/-- R89: a cancellation changes the Line Transmitter as `flowCodeCancelled` says, and nothing else. -/
theorem cancelFlowCode_eq (s : State) : cancelFlowCode s = { s with transmitter := flowCodeCancelled s } := by
  unfold cancelFlowCode flowCodeCancelled
  cases slot : s.transmitter.slot <;> simp [State.onTransmitter, slot]

theorem cancelFlowCode_slot (s : State) :
    (cancelFlowCode s).transmitter.slot = s.transmitter.slot ∨
    ((cancelFlowCode s).transmitter.slot = .empty ∧ ∃ kind code, s.transmitter.slot = .flow kind code) := by
  simp only [cancelFlowCode, State.onTransmitter_transmitter]
  split
  · rename_i k c h; exact .inr ⟨rfl, k, c, h⟩
  · exact .inl rfl

theorem judgeDemands_touches (s : State) : judgementTouches s (judgeDemands s) := by
  have base : judgementTouches s
      (s.onFlow fun f => { f with printDemand := judgedPrintDemand s, ringDemand := judgedRingDemand s }) :=
    ⟨rfl, rfl, rfl, .inl rfl⟩
  simp only [judgeDemands]
  split
  · rcases demandArises_cases
      (s.onFlow fun f => { f with printDemand := judgedPrintDemand s, ringDemand := judgedRingDemand s }) with
      h | h | h <;> rw [h]
    · exact base
    · exact ⟨rfl, rfl, rfl, .inl rfl⟩
    · refine ⟨rfl, rfl, rfl, ?_⟩
      exact cancelFlowCode_slot _
  · split
    · rcases demandWithdrawn_cases
        (s.onFlow fun f => { f with printDemand := judgedPrintDemand s, ringDemand := judgedRingDemand s }) with
        h | h | h <;> rw [h]
      · exact base
      · refine ⟨rfl, rfl, rfl, ?_⟩
        exact cancelFlowCode_slot _
      · exact ⟨rfl, rfl, rfl, .inl rfl⟩
    · exact base

theorem settle_touches (s : State) : judgementTouches s (settle s) := by
  obtain ⟨h1, h2, h3, h4⟩ := judgeDemands_touches s
  refine ⟨?_, h2, h3, h4⟩
  have : (settle s).switch = { (judgeDemands s).switch with printWaits := (settle s).switch.printWaits } := rfl
  rw [this, h1]

theorem judgeDemands_changesOnly (s : State) : changesOnly [.flow, .transmitter] s (judgeDemands s) := by
  intro b hb
  simp only [judgeDemands]
  split
  · rcases demandArises_cases
      (s.onFlow fun f => { f with printDemand := judgedPrintDemand s, ringDemand := judgedRingDemand s }) with
      h | h | h <;> rw [h] <;> cases b <;> first | rfl | simp at hb
  · split
    · rcases demandWithdrawn_cases
        (s.onFlow fun f => { f with printDemand := judgedPrintDemand s, ringDemand := judgedRingDemand s }) with
        h | h | h <;> rw [h] <;> cases b <;> first | rfl | simp at hb
    · cases b <;> first | rfl | simp at hb

theorem settle_changesOnly (s : State) : changesOnly [.switch, .flow, .transmitter] s (settle s) := by
  intro b hb
  have h := judgeDemands_changesOnly s b
  cases b <;> first | exact h (by decide) | exact absurd hb (by decide)

theorem settle_rest (s : State) :
    { settle s with switch := s.switch, flow := s.flow, transmitter := s.transmitter } = s := by
  have h := fun b => settle_changesOnly s b
  have passage : (settle s).passage = s.passage := h .passage (by decide)
  have status : (settle s).status = s.status := h .status (by decide)
  have pins : (settle s).pins = s.pins := h .pins (by decide)
  have arbiter : (settle s).arbiter = s.arbiter := h .arbiter (by decide)
  have rings : (settle s).rings = s.rings := h .rings (by decide)
  have keyboard : (settle s).keyboard = s.keyboard := h .keyboard (by decide)
  have translator : (settle s).translator = s.translator := h .translator (by decide)
  have receiver : (settle s).receiver = s.receiver := h .receiver (by decide)
  have tones : (settle s).tones = s.tones := h .tones (by decide)
  have answerback : (settle s).answerback = s.answerback := h .answerback (by decide)
  have carriage : (settle s).carriage = s.carriage := h .carriage (by decide)
  have dot : (settle s).dot = s.dot := h .dot (by decide)
  have sensor : (settle s).sensor = s.sensor := h .sensor (by decide)
  have command : (settle s).command = s.command := h .command (by decide)
  have attention : (settle s).attention = s.attention := h .attention (by decide)
  have pending : (settle s).pending = s.pending := h .pending (by decide)
  cases s
  simp only [passage, status, pins, arbiter, rings, keyboard, translator, receiver, tones, answerback, carriage, dot,
    sensor, command, attention, pending]

/-- An event that leaves the state `u` and then settles leaves what `onlySettles` says, from a state that agrees with `u` on the switch, the flow and the transmitter. -/
theorem onlySettles_of_settle {s u : State} (hswitch : u.switch = s.switch) (hflow : u.flow = s.flow)
    (htransmitter : u.transmitter = s.transmitter) : onlySettles s (settle u) := by
  refine ⟨?_, ?_⟩
  · obtain ⟨h1, h2, h3, h4⟩ := settle_touches u
    exact ⟨hswitch ▸ h1, hflow ▸ h2, htransmitter ▸ h3, htransmitter ▸ h4⟩
  · rw [← hswitch, ← hflow, ← htransmitter, settle_rest]

theorem settle_onlySettles (s : State) : onlySettles s (settle s) := onlySettles_of_settle rfl rfl rfl

/-- Where the demands held are the ones judged, only the waits for PRINT move. -/
theorem judgeDemands_of_judged {s : State} (h : demandsJudged s) : judgeDemands s = s := by
  obtain ⟨h1, h2⟩ := h
  simp only [judgeDemands, h1, h2]
  split
  · rename_i hc; rw [hc.1] at hc; exact absurd hc.2 (by simp)
  · split
    · rename_i hc; rw [hc.1] at hc; exact absurd hc.2 (by simp)
    · rfl

theorem settle_of_judged {s : State} (h : demandsJudged s) : settle s = judgeWaits s := by
  simp only [settle, judgeDemands_of_judged h]

/-- The demands that `settle` leaves are the ones judged. -/
theorem judgeDemands_flow_demands (s : State) :
    (judgeDemands s).flow.printDemand = judgedPrintDemand s ∧ (judgeDemands s).flow.ringDemand = judgedRingDemand s := by
  simp only [judgeDemands]
  split
  · rcases demandArises_cases
      (s.onFlow fun f => { f with printDemand := judgedPrintDemand s, ringDemand := judgedRingDemand s }) with
      h | h | h <;> rw [h] <;> exact ⟨rfl, rfl⟩
  · split
    · rcases demandWithdrawn_cases
        (s.onFlow fun f => { f with printDemand := judgedPrintDemand s, ringDemand := judgedRingDemand s }) with
        h | h | h <;> rw [h] <;> exact ⟨rfl, rfl⟩
    · exact ⟨rfl, rfl⟩

/-! ## Flags -/

/-- A sticky flag is set and LOSS is raised if it was clear: for tx-discarded. -/
theorem setTxDiscarded_eq (s : State) :
    setTxDiscarded s =
      (s.onStatus fun f => { f with txDiscarded := true }).onAttention fun t =>
        { t with flags := t.flags ||| flagIf (!s.status.txDiscarded) .loss } := by
  unfold setTxDiscarded
  cases h : s.status.txDiscarded <;> simp [raise, flagIf, State.onStatus, State.onAttention]
  · cases s with | mk a st => cases st; simp_all

/-- The same for ring-loss. -/
theorem setRingLoss_eq (s : State) :
    setRingLoss s =
      (s.onStatus fun f => { f with ringLoss := true }).onAttention fun t =>
        { t with flags := t.flags ||| flagIf (!s.status.ringLoss) .loss } := by
  unfold setRingLoss
  cases h : s.status.ringLoss <;> simp [raise, flagIf, State.onStatus, State.onAttention]
  · cases s with | mk a st => cases st; simp_all

/-- The same for key-lost. -/
theorem setKeyLost_eq (s : State) :
    setKeyLost s =
      (s.onStatus fun f => { f with keyLost := true }).onAttention fun t =>
        { t with flags := t.flags ||| flagIf (!s.status.keyLost) .loss } := by
  unfold setKeyLost
  cases h : s.status.keyLost <;> simp [raise, flagIf, State.onStatus, State.onAttention]
  · cases s with | mk a st => cases st; simp_all

/-- The same for print-overrun. -/
theorem setPrintOverrun_eq (s : State) :
    setPrintOverrun s =
      (s.onStatus fun f => { f with printOverrun := true }).onAttention fun t =>
        { t with flags := t.flags ||| flagIf (!s.status.printOverrun) .loss } := by
  unfold setPrintOverrun
  cases h : s.status.printOverrun <;> simp [raise, flagIf, State.onStatus, State.onAttention]
  · cases s with | mk a st => cases st; simp_all

/-! ## Requests, rings and sounds -/

/-- R172: a request arrives, or finds the one it would be already there. -/
theorem requestGrant_cases (r : Requester) (s : State) :
    (s.arbiter.wait r = .absent ∧ requestGrant r s = s.onArbiter fun a => a.setWait r .waiting) ∨
    (s.arbiter.wait r ≠ .absent ∧ requestGrant r s = s) := by
  unfold requestGrant; split <;> simp_all

/-- A wait written back as it stands leaves the arbiter as it is. -/
theorem Arbiter.setWait_self (a : Arbiter) (r : Requester) : a.setWait r (a.wait r) = a := by cases r <;> rfl

/-- R18, R172: the arbiter after a request made under a condition, unless the requester's grant is running. -/
theorem requestGrant_arbiter (requested : Bool) (r : Requester) (s : State) :
    (if requested = true ∧ grantLive r s = false then requestGrant r s else s).arbiter =
      s.arbiter.setWait r (waitAfterRequest requested r s) := by
  have same := Arbiter.setWait_self s.arbiter r
  unfold requestGrant waitAfterRequest
  by_cases asked : requested = true ∧ grantLive r s = false <;> by_cases waits : s.arbiter.wait r = .absent <;>
    simp [asked, waits] <;> simp_all

/-- R29, R35: after a pass a position counts as eligible only if it did before and the pass does not treat it as a modifier. -/
theorem EligibilityPass.mem_dropModifiers (modifier : Position → Bool) (e : EligibilityPass) (p : Position) :
    p ∈ (e.dropModifiers modifier).eligible ↔ p ∈ e.eligible ∧ modifier p = false := by
  simp [EligibilityPass.dropModifiers]

/-- R17: an offered record is staged with the loss mark, and its placement asked for, or it is lost. -/
theorem offerRecord_cases (record : ReceiveRecord) (s : State) :
    (s.rings.accepts = true ∧ offerRecord record s = requestPlacement (s.onRings fun r =>
      { r with staged := r.staged ++ [{ record with lossBefore := r.lossMark }], lossMark := false })) ∨
    (s.rings.accepts = false ∧ offerRecord record s = setRingLoss (s.onRings fun r => { r with lossMark := true })) := by
  unfold offerRecord; cases s.rings.accepts <;> simp

/-- R119: an append joins the tail of a queue with room, and is not made otherwise. -/
theorem appendPrint_cases (e : PrintEntry) (s : State) :
    (s.carriage.queue.length < 48 ∧ appendPrint e s =
      (s.onCarriage fun c => { c with queue := c.queue ++ [e] }).onSwitch fun c => { c with freedPlace := false }) ∨
    (48 ≤ s.carriage.queue.length ∧ appendPrint e s = s) := by
  unfold appendPrint printRoom Config.printQueueCapacity
  by_cases h : s.carriage.queue.length < 48
  · exact .inl ⟨h, by simp [h]⟩
  · exact .inr ⟨by omega, by simp [h]⟩

/-- R80, R81: a request that is not outranked sounds, from silence or in place of the one in progress; an outranked one changes nothing. -/
theorem requestSound_cases (r : Sound) (s : State) :
    (s.tones.request = none ∧ requestSound r s = s.onTones fun t =>
      { t with sounder := t.sounder.start r.increment, request := some r, sounderTimer := some r.duration }) ∨
    (∃ current, s.tones.request = some current ∧ r.rank < current.rank ∧ requestSound r s = s) ∨
    (∃ current, s.tones.request = some current ∧ ¬ r.rank < current.rank ∧ requestSound r s = s.onTones fun t =>
      { t with sounder := t.sounder.retune r.increment, request := some r, sounderTimer := some r.duration }) := by
  unfold requestSound
  split
  · rename_i h; exact .inl ⟨h, rfl⟩
  · rename_i c h
    by_cases hr : r.rank < c.rank
    · exact .inr (.inl ⟨c, h, hr, if_pos hr⟩)
    · exact .inr (.inr ⟨c, h, hr, if_neg hr⟩)

/-- R176: a running command ends with its result and COMMAND-END; if it does not run, nothing changes. -/
theorem endCommand_cases (c : RunningCommand) (r : CommandResult) (s : State) :
    (s.command.running = some c ∧
      endCommand c r s = raise .commandEnd (s.onCommand fun u => { u with result := r, running := none })) ∨
    (s.command.running ≠ some c ∧ endCommand c r s = s) := by
  unfold endCommand; split <;> simp_all

/-- R134: PRINT-IDLE is requested, or nothing is due. -/
theorem judgePrintIdle_cases (s : State) :
    ((s.carriage.state = .ready ∧ s.carriage.queue = [] ∧ s.carriage.consumedSinceIdle = true) ∧
      judgePrintIdle s = raise .printIdle (s.onCarriage fun c => { c with consumedSinceIdle := false })) ∨
    (¬ (s.carriage.state = .ready ∧ s.carriage.queue = [] ∧ s.carriage.consumedSinceIdle = true) ∧
      judgePrintIdle s = s) := by
  unfold judgePrintIdle; split <;> simp_all

/-- R31: a load is waiting in the key-map queue afterwards; a running one is discarded. -/
theorem requestHeaderLoad_queued (s : State) : KeymapRead.headerLoad ∈ (requestHeaderLoad s).arbiter.keymapQueue := by
  unfold requestHeaderLoad enqueueKeymap
  by_cases h : KeymapRead.headerLoad ∈ s.arbiter.keymapQueue
  · simp only [List.contains_eq_mem, h, decide_true, if_true]; split <;> exact h
  · simp only [List.contains_eq_mem, h, decide_false, Bool.false_eq_true, if_false]; split <;> simp

/-- R8: what readiness of LINE-OUT on a call asks of the Line Transmitter and of the Flow Controller. -/
theorem lineOutOpen_iff (s : State) : lineOutOpen s = true ↔ lineOutFree s := by
  unfold lineOutOpen lineOutFree
  cases s.transmitter.state <;> simp [and_assoc]

/-- R136, R140: the pattern that the unit fires at a column is the column's place in the glyph. -/
theorem columnOf_eq (glyph : Glyph) (column : Nat) : columnOf glyph column = glyph.column column := by
  cases glyph with
  | held c1 c2 c3 c4 c5 =>
    match column with
    | 0 | 1 | 2 | 3 | 4 | 5 | 6 => rfl
    | _ + 7 => simp [columnOf, Glyph.column]
  | _ => rfl

end Sys2Proof.Machine
end

