-- ==== Sys2Proof/Laws/Frames.lean ====
section
/-! SUPPORT. Which blocks each shared operation may change: one lemma per operation, closed under composition by `changesOnly.trans` and `changesOnly.mono`. -/

namespace Sys2Proof.Machine

theorem changesOnly_refl (l : List Block) (s : State) : changesOnly l s s := by intro b _; cases b <;> rfl

theorem changesOnly.trans {l : List Block} {s t u : State} (h : changesOnly l s t) (h' : changesOnly l t u) :
    changesOnly l s u := by
  intro b hb
  have h1 := h b hb
  have h2 := h' b hb
  cases b <;> exact Eq.trans h2 h1

theorem changesOnly.mono {l m : List Block} {s t : State} (h : changesOnly l s t) (hm : ∀ b ∈ l, b ∈ m) :
    changesOnly m s t := fun b hb => h b fun hl => hb (hm b hl)

theorem changesOnly.after {l m : List Block} {s t u : State} (h' : changesOnly m t u) (hm : ∀ b ∈ m, b ∈ l)
    (h : changesOnly l s t) : changesOnly l s u := h.trans (h'.mono hm)

/-! ## Block updates -/

theorem onPassage_frame (s : State) (f) : changesOnly [.passage] s (s.onPassage f) := by
  intro b hb; cases b <;> first | rfl | exact absurd (by decide) hb

theorem onStatus_frame (s : State) (f) : changesOnly [.status] s (s.onStatus f) := by
  intro b hb; cases b <;> first | rfl | exact absurd (by decide) hb

theorem onPins_frame (s : State) (f) : changesOnly [.pins] s (s.onPins f) := by
  intro b hb; cases b <;> first | rfl | exact absurd (by decide) hb

theorem onArbiter_frame (s : State) (f) : changesOnly [.arbiter] s (s.onArbiter f) := by
  intro b hb; cases b <;> first | rfl | exact absurd (by decide) hb

theorem onSwitch_frame (s : State) (f) : changesOnly [.switch] s (s.onSwitch f) := by
  intro b hb; cases b <;> first | rfl | exact absurd (by decide) hb

theorem onRings_frame (s : State) (f) : changesOnly [.rings] s (s.onRings f) := by
  intro b hb; cases b <;> first | rfl | exact absurd (by decide) hb

theorem onKeyboard_frame (s : State) (f) : changesOnly [.keyboard] s (s.onKeyboard f) := by
  intro b hb; cases b <;> first | rfl | exact absurd (by decide) hb

theorem onTranslator_frame (s : State) (f) : changesOnly [.translator] s (s.onTranslator f) := by
  intro b hb; cases b <;> first | rfl | exact absurd (by decide) hb

theorem onReceiver_frame (s : State) (f) : changesOnly [.receiver] s (s.onReceiver f) := by
  intro b hb; cases b <;> first | rfl | exact absurd (by decide) hb

theorem onTransmitter_frame (s : State) (f) : changesOnly [.transmitter] s (s.onTransmitter f) := by
  intro b hb; cases b <;> first | rfl | exact absurd (by decide) hb

theorem onTones_frame (s : State) (f) : changesOnly [.tones] s (s.onTones f) := by
  intro b hb; cases b <;> first | rfl | exact absurd (by decide) hb

theorem onFlow_frame (s : State) (f) : changesOnly [.flow] s (s.onFlow f) := by
  intro b hb; cases b <;> first | rfl | exact absurd (by decide) hb

theorem onAnswerback_frame (s : State) (f) : changesOnly [.answerback] s (s.onAnswerback f) := by
  intro b hb; cases b <;> first | rfl | exact absurd (by decide) hb

theorem onCarriage_frame (s : State) (f) : changesOnly [.carriage] s (s.onCarriage f) := by
  intro b hb; cases b <;> first | rfl | exact absurd (by decide) hb

theorem onDot_frame (s : State) (f) : changesOnly [.dot] s (s.onDot f) := by
  intro b hb; cases b <;> first | rfl | exact absurd (by decide) hb

theorem onSensor_frame (s : State) (f) : changesOnly [.sensor] s (s.onSensor f) := by
  intro b hb; cases b <;> first | rfl | exact absurd (by decide) hb

theorem onCommand_frame (s : State) (f) : changesOnly [.command] s (s.onCommand f) := by
  intro b hb; cases b <;> first | rfl | exact absurd (by decide) hb

theorem onAttention_frame (s : State) (f) : changesOnly [.attention] s (s.onAttention f) := by
  intro b hb; cases b <;> first | rfl | exact absurd (by decide) hb

/-! ## Flags -/

theorem raise_frame (a : AttentionSource) (s : State) :
    changesOnly [.attention] s (raise a s) := by
  unfold raise
  all_goals with_reducible (repeat (first
    | (apply changesOnly.after (onAttention_frame _ _) <;> [decide; skip])
    | exact changesOnly_refl _ _))

theorem raiseLine_frame (c : LineCause) (s : State) :
    changesOnly [.attention] s (raiseLine c s) := by
  unfold raiseLine
  all_goals with_reducible (repeat (first
    | (apply changesOnly.after (onAttention_frame _ _) <;> [decide; skip])
    | exact changesOnly_refl _ _))

theorem takeAttention_frame (s : State) :
    changesOnly [.attention] s (takeAttention s) := by
  unfold takeAttention
  repeat' split
  all_goals with_reducible (repeat (first
    | (apply changesOnly.after (onAttention_frame _ _) <;> [decide; skip])
    | exact changesOnly_refl _ _))

theorem setKeyLost_frame (s : State) :
    changesOnly [.status, .attention] s (setKeyLost s) := by
  unfold setKeyLost
  repeat' split
  all_goals with_reducible (repeat (first
    | (apply changesOnly.after (raise_frame _ _) <;> [decide; skip])
    | (apply changesOnly.after (onStatus_frame _ _) <;> [decide; skip])
    | exact changesOnly_refl _ _))

theorem setTxDiscarded_frame (s : State) :
    changesOnly [.status, .attention] s (setTxDiscarded s) := by
  unfold setTxDiscarded
  repeat' split
  all_goals with_reducible (repeat (first
    | (apply changesOnly.after (raise_frame _ _) <;> [decide; skip])
    | (apply changesOnly.after (onStatus_frame _ _) <;> [decide; skip])
    | exact changesOnly_refl _ _))

theorem setPrintOverrun_frame (s : State) :
    changesOnly [.status, .attention] s (setPrintOverrun s) := by
  unfold setPrintOverrun
  repeat' split
  all_goals with_reducible (repeat (first
    | (apply changesOnly.after (raise_frame _ _) <;> [decide; skip])
    | (apply changesOnly.after (onStatus_frame _ _) <;> [decide; skip])
    | exact changesOnly_refl _ _))

theorem setRingLoss_frame (s : State) :
    changesOnly [.status, .attention] s (setRingLoss s) := by
  unfold setRingLoss
  repeat' split
  all_goals with_reducible (repeat (first
    | (apply changesOnly.after (raise_frame _ _) <;> [decide; skip])
    | (apply changesOnly.after (onStatus_frame _ _) <;> [decide; skip])
    | exact changesOnly_refl _ _))

/-! ## Requests, rings and the join table -/

theorem requestGrant_frame (r : Requester) (s : State) :
    changesOnly [.arbiter] s (requestGrant r s) := by
  unfold requestGrant
  repeat' split
  all_goals with_reducible (repeat (first | (apply changesOnly.after (onArbiter_frame _ _) <;> [decide; skip]) | exact changesOnly_refl _ _))

theorem withdrawRequest_frame (r : Requester) (s : State) :
    changesOnly [.arbiter] s (withdrawRequest r s) := by
  unfold withdrawRequest
  all_goals with_reducible (repeat (first | (apply changesOnly.after (onArbiter_frame _ _) <;> [decide; skip]) | exact changesOnly_refl _ _))

theorem enqueueKeymap_frame (r : KeymapRead) (s : State) :
    changesOnly [.arbiter] s (enqueueKeymap r s) := by
  unfold enqueueKeymap
  all_goals with_reducible (repeat (first | (apply changesOnly.after (onArbiter_frame _ _) <;> [decide; skip]) | exact changesOnly_refl _ _))

theorem cancelTranslation_frame (s : State) :
    changesOnly [.arbiter] s (cancelTranslation s) := by
  unfold cancelTranslation
  dsimp only
  all_goals with_reducible (repeat (first | (apply changesOnly.after (onArbiter_frame _ _) <;> [decide; skip]) | exact changesOnly_refl _ _))

theorem discardGrant_frame (r : Requester) (s : State) :
    changesOnly [.arbiter] s (discardGrant r s) := by
  unfold discardGrant
  repeat' split
  all_goals with_reducible (repeat (first | (apply changesOnly.after (onArbiter_frame _ _) <;> [decide; skip]) | exact changesOnly_refl _ _))

theorem dropRequest_frame (r : Requester) (s : State) :
    changesOnly [.arbiter] s (dropRequest r s) := by
  unfold dropRequest
  all_goals with_reducible (repeat (first
    | (apply changesOnly.after (discardGrant_frame _ _) <;> [decide; skip])
    | (apply changesOnly.after (withdrawRequest_frame _ _) <;> [decide; skip])
    | exact changesOnly_refl _ _))

theorem requestPlacement_frame (s : State) :
    changesOnly [.arbiter] s (requestPlacement s) := by
  unfold requestPlacement
  repeat' split
  all_goals with_reducible (repeat (first
    | (apply changesOnly.after (requestGrant_frame _ _) <;> [decide; skip])
    | exact changesOnly_refl _ _))

theorem requestSendFetch_frame (s : State) :
    changesOnly [.arbiter] s (requestSendFetch s) := by
  unfold requestSendFetch
  repeat' split
  all_goals with_reducible (repeat (first
    | (apply changesOnly.after (requestGrant_frame _ _) <;> [decide; skip])
    | exact changesOnly_refl _ _))

theorem offerRecord_frame (r : ReceiveRecord) (s : State) :
    changesOnly [.rings, .arbiter, .status, .attention] s (offerRecord r s) := by
  unfold offerRecord
  repeat' split
  all_goals with_reducible (repeat (first
    | (apply changesOnly.after (requestPlacement_frame _) <;> [decide; skip])
    | (apply changesOnly.after (setRingLoss_frame _) <;> [decide; skip])
    | (apply changesOnly.after (onRings_frame _ _) <;> [decide; skip])
    | exact changesOnly_refl _ _))

theorem setRow_frame (source : Source) (row : Row) (s : State) :
    changesOnly [.switch] s (setRow source row s) := by
  unfold setRow
  repeat' split
  all_goals with_reducible (repeat (first | (apply changesOnly.after (onSwitch_frame _ _) <;> [decide; skip]) | exact changesOnly_refl _ _))

theorem applyPreset_frame (p : Preset) (s : State) :
    changesOnly [.switch] s (applyPreset p s) := by
  unfold applyPreset
  all_goals with_reducible (repeat (first | (apply changesOnly.after (setRow_frame _ _ _) <;> [decide; skip]) | exact changesOnly_refl _ _))

theorem applyDeferred_frame (s : State) :
    changesOnly [.switch] s (applyDeferred s) := by
  unfold applyDeferred
  all_goals with_reducible (repeat (first | (apply changesOnly.after (onSwitch_frame _ _) <;> [decide; skip]) | exact changesOnly_refl _ _))

/-! ## Sounder, print queue and answerback -/

theorem requestSound_frame (r : Sound) (s : State) :
    changesOnly [.tones] s (requestSound r s) := by
  unfold requestSound
  repeat' split
  all_goals with_reducible (repeat (first | (apply changesOnly.after (onTones_frame _ _) <;> [decide; skip]) | exact changesOnly_refl _ _))

theorem requestClick_frame (s : State) :
    changesOnly [.tones] s (requestClick s) := by
  unfold requestClick
  repeat' split
  all_goals with_reducible (repeat (first
    | (apply changesOnly.after (requestSound_frame _ _) <;> [decide; skip])
    | exact changesOnly_refl _ _))

theorem lineTone_frame (tone : Tone) (s : State) :
    changesOnly [.tones] s (lineTone tone s) := by
  unfold lineTone
  all_goals with_reducible (repeat (first | (apply changesOnly.after (onTones_frame _ _) <;> [decide; skip]) | exact changesOnly_refl _ _))

theorem appendPrint_frame (e : PrintEntry) (s : State) :
    changesOnly [.carriage, .switch] s (appendPrint e s) := by
  unfold appendPrint
  repeat' split
  all_goals with_reducible (repeat (first
    | (apply changesOnly.after (onSwitch_frame _ _) <;> [decide; skip])
    | (apply changesOnly.after (onCarriage_frame _ _) <;> [decide; skip])
    | exact changesOnly_refl _ _))

theorem judgePrintIdle_frame (s : State) :
    changesOnly [.carriage, .attention] s (judgePrintIdle s) := by
  unfold judgePrintIdle
  repeat' split
  all_goals with_reducible (repeat (first
    | (apply changesOnly.after (raise_frame _ _) <;> [decide; skip])
    | (apply changesOnly.after (onCarriage_frame _ _) <;> [decide; skip])
    | exact changesOnly_refl _ _))

theorem flushPrintQueue_frame (s : State) :
    changesOnly [.carriage, .switch, .attention] s (flushPrintQueue s) := by
  unfold flushPrintQueue
  all_goals with_reducible (repeat (first
    | (apply changesOnly.after (judgePrintIdle_frame _) <;> [decide; skip])
    | (apply changesOnly.after (onSwitch_frame _ _) <;> [decide; skip])
    | (apply changesOnly.after (onCarriage_frame _ _) <;> [decide; skip])
    | exact changesOnly_refl _ _))

theorem cancelFlowCode_frame (s : State) :
    changesOnly [.transmitter] s (cancelFlowCode s) := by
  unfold cancelFlowCode
  all_goals with_reducible (repeat (first
    | (apply changesOnly.after (onTransmitter_frame _ _) <;> [decide; skip])
    | exact changesOnly_refl _ _))

theorem reportFlowStarted_frame (kind : FlowCode) (s : State) :
    changesOnly [.flow] s (reportFlowStarted kind s) := by
  unfold reportFlowStarted
  repeat' split
  all_goals with_reducible (repeat (first | (apply changesOnly.after (onFlow_frame _ _) <;> [decide; skip]) | exact changesOnly_refl _ _))

theorem setRemotePause_frame (s : State) :
    changesOnly [.flow] s (setRemotePause s) := by
  unfold setRemotePause
  all_goals with_reducible (repeat (first | (apply changesOnly.after (onFlow_frame _ _) <;> [decide; skip]) | exact changesOnly_refl _ _))

theorem clearRemotePause_frame (s : State) :
    changesOnly [.flow] s (clearRemotePause s) := by
  unfold clearRemotePause
  all_goals with_reducible (repeat (first | (apply changesOnly.after (onFlow_frame _ _) <;> [decide; skip]) | exact changesOnly_refl _ _))

theorem requestAnswerbackRead_frame (s : State) :
    changesOnly [.arbiter] s (requestAnswerbackRead s) := by
  unfold requestAnswerbackRead
  repeat' split
  all_goals with_reducible (repeat (first
    | (apply changesOnly.after (requestGrant_frame _ _) <;> [decide; skip])
    | exact changesOnly_refl _ _))

theorem triggerAnswerback_frame (s : State) :
    changesOnly [.answerback, .arbiter] s (triggerAnswerback s) := by
  unfold triggerAnswerback
  repeat' split
  all_goals with_reducible (repeat (first
    | (apply changesOnly.after (requestAnswerbackRead_frame _) <;> [decide; skip])
    | (apply changesOnly.after (onAnswerback_frame _ _) <;> [decide; skip])
    | exact changesOnly_refl _ _))

theorem abortAnswerback_frame (s : State) :
    changesOnly [.answerback, .arbiter, .attention, .switch] s (abortAnswerback s) := by
  unfold abortAnswerback
  repeat' split
  all_goals with_reducible (repeat (first
    | (apply changesOnly.after (applyDeferred_frame _) <;> [decide; skip])
    | (apply changesOnly.after (raise_frame _ _) <;> [decide; skip])
    | (apply changesOnly.after (dropRequest_frame _ _) <;> [decide; skip])
    | (apply changesOnly.after (onAnswerback_frame _ _) <;> [decide; skip])
    | exact changesOnly_refl _ _))

theorem completeAnswerback_frame (s : State) :
    changesOnly [.answerback, .attention, .switch] s (completeAnswerback s) := by
  unfold completeAnswerback
  all_goals with_reducible (repeat (first
    | (apply changesOnly.after (applyDeferred_frame _) <;> [decide; skip])
    | (apply changesOnly.after (raise_frame _ _) <;> [decide; skip])
    | (apply changesOnly.after (onAnswerback_frame _ _) <;> [decide; skip])
    | exact changesOnly_refl _ _))

theorem endCommand_frame (c : RunningCommand) (r : CommandResult) (s : State) :
    changesOnly [.command, .attention] s (endCommand c r s) := by
  unfold endCommand
  repeat' split
  all_goals with_reducible (repeat (first
    | (apply changesOnly.after (raise_frame _ _) <;> [decide; skip])
    | (apply changesOnly.after (onCommand_frame _ _) <;> [decide; skip])
    | exact changesOnly_refl _ _))

/-! ## The line -/

theorem startTransmitter_frame (s : State) :
    changesOnly [.transmitter, .tones] s (startTransmitter s) := by
  unfold startTransmitter
  all_goals with_reducible (repeat (first
    | (apply changesOnly.after (onTones_frame _ _) <;> [decide; skip])
    | (apply changesOnly.after (onTransmitter_frame _ _) <;> [decide; skip])
    | exact changesOnly_refl _ _))

theorem enterListen_frame (s : State) :
    changesOnly [.receiver, .transmitter, .tones] s (enterListen s) := by
  unfold enterListen
  dsimp only
  repeat' split
  all_goals with_reducible (repeat (first
    | (apply changesOnly.after (startTransmitter_frame _) <;> [decide; skip])
    | (apply changesOnly.after (onReceiver_frame _ _) <;> [decide; skip])
    | exact changesOnly_refl _ _))

theorem enterData_frame (s : State) :
    changesOnly [.receiver, .transmitter, .tones, .flow] s (enterData s) := by
  unfold enterData
  dsimp only
  repeat' split
  all_goals with_reducible (repeat (first
    | (apply changesOnly.after (startTransmitter_frame _) <;> [decide; skip])
    | (apply changesOnly.after (onFlow_frame _ _) <;> [decide; skip])
    | (apply changesOnly.after (onReceiver_frame _ _) <;> [decide; skip])
    | exact changesOnly_refl _ _))

theorem receiverToIdle_frame (s : State) :
    changesOnly [.receiver] s (receiverToIdle s) := by
  unfold receiverToIdle
  all_goals with_reducible (repeat (first | (apply changesOnly.after (onReceiver_frame _ _) <;> [decide; skip]) | exact changesOnly_refl _ _))

theorem cutBreak_frame (s : State) :
    changesOnly [.command, .attention] s (cutBreak s) := by
  unfold cutBreak
  repeat' split
  all_goals with_reducible (repeat (first
    | (apply changesOnly.after (endCommand_frame _ _ _) <;> [decide; skip])
    | exact changesOnly_refl _ _))

theorem discardSlot_frame (s : State) :
    changesOnly [.status, .attention] s (discardSlot s) := by
  unfold discardSlot
  repeat' split
  all_goals with_reducible (repeat (first
    | (apply changesOnly.after (setTxDiscarded_frame _) <;> [decide; skip])
    | exact changesOnly_refl _ _))

theorem transmitterToOff_frame (s : State) :
    changesOnly [.transmitter, .tones, .status, .attention, .command] s (transmitterToOff s) := by
  unfold transmitterToOff
  all_goals with_reducible (repeat (first
    | (apply changesOnly.after (onTones_frame _ _) <;> [decide; skip])
    | (apply changesOnly.after (onTransmitter_frame _ _) <;> [decide; skip])
    | (apply changesOnly.after (discardSlot_frame _) <;> [decide; skip])
    | (apply changesOnly.after (cutBreak_frame _) <;> [decide; skip])
    | exact changesOnly_refl _ _))

theorem flowToIdle_frame (s : State) :
    changesOnly [.flow] s (flowToIdle s) := by
  unfold flowToIdle
  all_goals with_reducible (repeat (first | (apply changesOnly.after (onFlow_frame _ _) <;> [decide; skip]) | exact changesOnly_refl _ _))

theorem answerbackAtIdle_frame (s : State) :
    changesOnly [.answerback, .arbiter, .attention, .switch] s (answerbackAtIdle s) := by
  unfold answerbackAtIdle
  repeat' split
  all_goals with_reducible (repeat (first
    | (apply changesOnly.after (abortAnswerback_frame _) <;> [decide; skip])
    | exact changesOnly_refl _ _))

theorem enterIdle_frame (s : State) :
    changesOnly [.receiver, .transmitter, .tones, .flow, .status, .answerback, .arbiter, .switch, .command, .attention] s (enterIdle s) := by
  unfold enterIdle
  all_goals with_reducible (repeat (first
    | (apply changesOnly.after (answerbackAtIdle_frame _) <;> [decide; skip])
    | (apply changesOnly.after (flowToIdle_frame _) <;> [decide; skip])
    | (apply changesOnly.after (transmitterToOff_frame _) <;> [decide; skip])
    | (apply changesOnly.after (receiverToIdle_frame _) <;> [decide; skip])
    | exact changesOnly_refl _ _))

theorem startFrame_frame (s : State) :
    changesOnly [.transmitter, .tones, .flow] s (startFrame s) := by
  unfold startFrame
  repeat' split
  all_goals with_reducible (repeat (first
    | (apply changesOnly.after (reportFlowStarted_frame _ _) <;> [decide; skip])
    | (apply changesOnly.after (lineTone_frame _ _) <;> [decide; skip])
    | (apply changesOnly.after (onTransmitter_frame _ _) <;> [decide; skip])
    | exact changesOnly_refl _ _))

theorem startBreak_frame (s : State) :
    changesOnly [.transmitter, .tones] s (startBreak s) := by
  unfold startBreak
  all_goals with_reducible (repeat (first
    | (apply changesOnly.after (lineTone_frame _ _) <;> [decide; skip])
    | (apply changesOnly.after (onTransmitter_frame _ _) <;> [decide; skip])
    | exact changesOnly_refl _ _))

theorem enterMarkIdle_frame (s : State) :
    changesOnly [.transmitter, .tones] s (enterMarkIdle s) := by
  unfold enterMarkIdle
  all_goals with_reducible (repeat (first
    | (apply changesOnly.after (lineTone_frame _ _) <;> [decide; skip])
    | (apply changesOnly.after (onTransmitter_frame _ _) <;> [decide; skip])
    | exact changesOnly_refl _ _))

theorem frameOrIdle_frame (s : State) :
    changesOnly [.transmitter, .tones, .flow] s (frameOrIdle s) := by
  unfold frameOrIdle
  repeat' split
  all_goals with_reducible (repeat (first
    | (apply changesOnly.after (enterMarkIdle_frame _) <;> [decide; skip])
    | (apply changesOnly.after (startFrame_frame _) <;> [decide; skip])
    | exact changesOnly_refl _ _))

theorem afterFrame_frame (s : State) :
    changesOnly [.transmitter, .tones, .flow] s (afterFrame s) := by
  unfold afterFrame
  repeat' split
  all_goals with_reducible (repeat (first
    | (apply changesOnly.after (startBreak_frame _) <;> [decide; skip])
    | (apply changesOnly.after (frameOrIdle_frame _) <;> [decide; skip])
    | exact changesOnly_refl _ _))

theorem endPostBreak_frame (s : State) :
    changesOnly [.transmitter, .tones, .flow, .command, .attention] s (endPostBreak s) := by
  unfold endPostBreak
  dsimp only
  repeat' split
  all_goals with_reducible (repeat (first
    | (apply changesOnly.after (frameOrIdle_frame _) <;> [decide; skip])
    | (apply changesOnly.after (onTransmitter_frame _ _) <;> [decide; skip])
    | (apply changesOnly.after (endCommand_frame _ _ _) <;> [decide; skip])
    | exact changesOnly_refl _ _))

theorem nextBit_frame (f : Shifting) (s : State) :
    changesOnly [.transmitter, .tones] s (nextBit f s) := by
  unfold nextBit
  all_goals with_reducible (repeat (first
    | (apply changesOnly.after (lineTone_frame _ _) <;> [decide; skip])
    | (apply changesOnly.after (onTransmitter_frame _ _) <;> [decide; skip])
    | exact changesOnly_refl _ _))

theorem boundaryEffect_frame (s : State) :
    changesOnly [.transmitter, .tones, .flow, .command, .attention] s (boundaryEffect s) := by
  unfold boundaryEffect
  repeat' split
  all_goals with_reducible (repeat (first
    | (apply changesOnly.after (startBreak_frame _) <;> [decide; skip])
    | (apply changesOnly.after (startFrame_frame _) <;> [decide; skip])
    | (apply changesOnly.after (afterFrame_frame _) <;> [decide; skip])
    | (apply changesOnly.after (nextBit_frame _ _) <;> [decide; skip])
    | (apply changesOnly.after (endPostBreak_frame _) <;> [decide; skip])
    | (apply changesOnly.after (onTransmitter_frame _ _) <;> [decide; skip])
    | exact changesOnly_refl _ _))

theorem tickBitClock_frame (s : State) :
    changesOnly [.transmitter] s (tickBitClock s) := by
  unfold tickBitClock
  all_goals with_reducible (repeat (first
    | (apply changesOnly.after (onTransmitter_frame _ _) <;> [decide; skip])
    | exact changesOnly_refl _ _))

theorem takeLineIn_frame (f : ReceivedFrame) (s : State) :
    changesOnly [.carriage, .switch, .status, .attention, .rings, .arbiter] s (takeLineIn f s) := by
  unfold takeLineIn
  dsimp only
  repeat' split
  all_goals with_reducible (repeat (first
    | (apply changesOnly.after (offerRecord_frame _ _) <;> [decide; skip])
    | (apply changesOnly.after (appendPrint_frame _ _) <;> [decide; skip])
    | (apply changesOnly.after (setPrintOverrun_frame _) <;> [decide; skip])
    | exact changesOnly_refl _ _))

theorem judgeFrame_frame (f : ReceivedFrame) (s : State) :
    changesOnly [.carriage, .switch, .status, .attention, .rings, .arbiter, .flow, .answerback] s (judgeFrame f s) := by
  unfold judgeFrame
  dsimp only
  repeat' split
  all_goals with_reducible (repeat (first
    | (apply changesOnly.after (setRemotePause_frame _) <;> [decide; skip])
    | (apply changesOnly.after (clearRemotePause_frame _) <;> [decide; skip])
    | (apply changesOnly.after (triggerAnswerback_frame _) <;> [decide; skip])
    | (apply changesOnly.after (takeLineIn_frame _ _) <;> [decide; skip])
    | exact changesOnly_refl _ _))

theorem receiveBreak_frame (s : State) :
    changesOnly [.carriage, .switch, .status, .attention, .rings, .arbiter, .flow, .answerback] s (receiveBreak s) := by
  unfold receiveBreak
  dsimp only
  repeat' split
  all_goals with_reducible (repeat (first
    | (apply changesOnly.after (clearRemotePause_frame _) <;> [decide; skip])
    | (apply changesOnly.after (abortAnswerback_frame _) <;> [decide; skip])
    | (apply changesOnly.after (flushPrintQueue_frame _) <;> [decide; skip])
    | (apply changesOnly.after (offerRecord_frame _ _) <;> [decide; skip])
    | (apply changesOnly.after (raise_frame _ _) <;> [decide; skip])
    | exact changesOnly_refl _ _))

theorem setFramer_frame (f : Framer) (s : State) : changesOnly [.receiver] s (setFramer f s) :=
  onReceiver_frame s _

theorem advanceFramer_frame (tone : Tone) (s : State) :
    changesOnly [.receiver, .carriage, .switch, .status, .attention, .rings, .arbiter, .flow, .answerback] s (advanceFramer tone s) := by
  unfold advanceFramer
  repeat' split
  all_goals with_reducible (repeat (first
    | (apply changesOnly.after (setFramer_frame _ _) <;> [decide; skip])
    | (apply changesOnly.after (judgeFrame_frame _ _) <;> [decide; skip])
    | (apply changesOnly.after (receiveBreak_frame _) <;> [decide; skip])
    | exact changesOnly_refl _ _))

/-! ## The printer -/

theorem columnStep_frame (column : Nat) (s : State) :
    changesOnly [.dot] s (columnStep column s) := by
  unfold columnStep
  dsimp only
  all_goals with_reducible (repeat (first | (apply changesOnly.after (onDot_frame _ _) <;> [decide; skip]) | exact changesOnly_refl _ _))

theorem handOver_frame (glyph : BitVec 7) (back : Bool) (s : State) :
    changesOnly [.dot, .arbiter] s (handOver glyph back s) := by
  unfold handOver
  dsimp only
  repeat' split
  all_goals with_reducible (repeat (first
    | (apply changesOnly.after (onDot_frame _ _) <;> [decide; skip])
    | (apply changesOnly.after (columnStep_frame _ _) <;> [decide; skip])
    | (apply changesOnly.after (requestGrant_frame _ _) <;> [decide; skip])
    | exact changesOnly_refl _ _))

theorem dotToIdle_frame (s : State) :
    changesOnly [.dot] s (dotToIdle s) := by
  unfold dotToIdle
  all_goals with_reducible (repeat (first | (apply changesOnly.after (onDot_frame _ _) <;> [decide; skip]) | exact changesOnly_refl _ _))

theorem startMotion_frame (p target : Nat) (s : State) :
    changesOnly [.carriage] s (startMotion p target s) := by
  unfold startMotion
  all_goals with_reducible (repeat (first | (apply changesOnly.after (onCarriage_frame _ _) <;> [decide; skip]) | exact changesOnly_refl _ _))

theorem beginOperation_frame (o : Operation) (s : State) :
    changesOnly [.carriage, .dot, .arbiter] s (beginOperation o s) := by
  unfold beginOperation
  dsimp only
  repeat' split
  all_goals with_reducible (repeat (first
    | (apply changesOnly.after (startMotion_frame _ _ _) <;> [decide; skip])
    | (apply changesOnly.after (handOver_frame _ _ _) <;> [decide; skip])
    | (apply changesOnly.after (onCarriage_frame _ _) <;> [decide; skip])
    | exact changesOnly_refl _ _))

theorem ringBell_frame (e : PrintEntry) (s : State) :
    changesOnly [.tones] s (ringBell e s) := by
  unfold ringBell
  repeat' split
  all_goals with_reducible (repeat (first
    | (apply changesOnly.after (requestSound_frame _ _) <;> [decide; skip])
    | exact changesOnly_refl _ _))

theorem enterReady_frame (s : State) :
    changesOnly [.carriage, .attention] s (enterReady s) := by
  unfold enterReady
  all_goals with_reducible (repeat (first
    | (apply changesOnly.after (judgePrintIdle_frame _) <;> [decide; skip])
    | (apply changesOnly.after (onCarriage_frame _ _) <;> [decide; skip])
    | exact changesOnly_refl _ _))

theorem continueEntry_frame (s : State) :
    changesOnly [.carriage, .dot, .arbiter, .attention] s (continueEntry s) := by
  unfold continueEntry
  repeat' split
  all_goals with_reducible (repeat (first
    | (apply changesOnly.after (enterReady_frame _) <;> [decide; skip])
    | (apply changesOnly.after (beginOperation_frame _ _) <;> [decide; skip])
    | (apply changesOnly.after (onCarriage_frame _ _) <;> [decide; skip])
    | exact changesOnly_refl _ _))

theorem endOperation_frame (s : State) :
    changesOnly [.carriage, .dot, .arbiter, .attention] s (endOperation s) := by
  unfold endOperation
  repeat' split
  all_goals with_reducible (repeat (first
    | (apply changesOnly.after (continueEntry_frame _) <;> [decide; skip])
    | (apply changesOnly.after (onCarriage_frame _ _) <;> [decide; skip])
    | exact changesOnly_refl _ _))

theorem judgeHalt_frame (s : State) :
    changesOnly [.carriage, .dot, .arbiter, .attention] s (judgeHalt s) := by
  unfold judgeHalt
  repeat' split
  all_goals with_reducible (repeat (first
    | (apply changesOnly.after (continueEntry_frame _) <;> [decide; skip])
    | (apply changesOnly.after (onCarriage_frame _ _) <;> [decide; skip])
    | exact changesOnly_refl _ _))

theorem setCauses_frame (paper hot battery jam : Bool) (s : State) :
    changesOnly [.carriage, .attention] s (setCauses paper hot battery jam s) := by
  unfold setCauses
  dsimp only
  repeat' split
  all_goals with_reducible (repeat (first
    | (apply changesOnly.after (raise_frame _ _) <;> [decide; skip])
    | (apply changesOnly.after (onCarriage_frame _ _) <;> [decide; skip])
    | exact changesOnly_refl _ _))

theorem takeReadings_frame (millivolts : Nat) (millidegrees : Int) (s : State) :
    changesOnly [.sensor, .carriage, .attention] s (takeReadings millivolts millidegrees s) := by
  unfold takeReadings
  dsimp only
  all_goals with_reducible (repeat (first
    | (apply changesOnly.after (setCauses_frame _ _ _ _ _) <;> [decide; skip])
    | (apply changesOnly.after (onSensor_frame _ _) <;> [decide; skip])
    | exact changesOnly_refl _ _))

theorem beginSeek_frame (s : State) :
    changesOnly [.carriage] s (beginSeek s) := by
  unfold beginSeek
  all_goals with_reducible (repeat (first | (apply changesOnly.after (onCarriage_frame _ _) <;> [decide; skip]) | exact changesOnly_refl _ _))

theorem seekFinds_frame (s : State) :
    changesOnly [.carriage, .dot, .arbiter, .attention, .command] s (seekFinds s) := by
  unfold seekFinds
  all_goals with_reducible (repeat (first
    | (apply changesOnly.after (endCommand_frame _ _ _) <;> [decide; skip])
    | (apply changesOnly.after (endOperation_frame _) <;> [decide; skip])
    | (apply changesOnly.after (onCarriage_frame _ _) <;> [decide; skip])
    | exact changesOnly_refl _ _))

theorem seekFails_frame (s : State) :
    changesOnly [.carriage, .attention, .command] s (seekFails s) := by
  unfold seekFails
  all_goals with_reducible (repeat (first
    | (apply changesOnly.after (endCommand_frame _ _ _) <;> [decide; skip])
    | (apply changesOnly.after (setCauses_frame _ _ _ _ _) <;> [decide; skip])
    | (apply changesOnly.after (onCarriage_frame _ _) <;> [decide; skip])
    | exact changesOnly_refl _ _))

theorem endCell_frame (s : State) :
    changesOnly [.carriage, .dot, .arbiter, .attention] s (endCell s) := by
  unfold endCell
  all_goals with_reducible (repeat (first
    | (apply changesOnly.after (endOperation_frame _) <;> [decide; skip])
    | (apply changesOnly.after (dotToIdle_frame _) <;> [decide; skip])
    | (apply changesOnly.after (onCarriage_frame _ _) <;> [decide; skip])
    | exact changesOnly_refl _ _))

theorem endDwell_frame (s : State) :
    changesOnly [.carriage, .dot, .arbiter, .attention] s (endDwell s) := by
  unfold endDwell
  repeat' split
  all_goals with_reducible (repeat (first
    | (apply changesOnly.after (columnStep_frame _ _) <;> [decide; skip])
    | (apply changesOnly.after (endCell_frame _) <;> [decide; skip])
    | exact changesOnly_refl _ _))

theorem enterDwell_frame (s : State) :
    changesOnly [.carriage, .dot, .arbiter, .attention] s (enterDwell s) := by
  unfold enterDwell
  repeat' split
  all_goals with_reducible (repeat (first
    | (apply changesOnly.after (endDwell_frame _) <;> [decide; skip])
    | (apply changesOnly.after (onDot_frame _ _) <;> [decide; skip])
    | exact changesOnly_refl _ _))

theorem endFiring_frame (s : State) :
    changesOnly [.carriage, .dot, .arbiter, .attention] s (endFiring s) := by
  unfold endFiring
  repeat' split
  all_goals with_reducible (repeat (first
    | (apply changesOnly.after (dotToIdle_frame _) <;> [decide; skip])
    | (apply changesOnly.after (enterDwell_frame _) <;> [decide; skip])
    | (apply changesOnly.after (onDot_frame _ _) <;> [decide; skip])
    | exact changesOnly_refl _ _))

theorem startGroup_frame (s : State) :
    changesOnly [.dot] s (startGroup s) := by
  unfold startGroup
  repeat' split
  all_goals with_reducible (repeat (first | (apply changesOnly.after (onDot_frame _ _) <;> [decide; skip]) | exact changesOnly_refl _ _))

theorem beginFiring_frame (s : State) :
    changesOnly [.carriage, .dot, .arbiter, .attention] s (beginFiring s) := by
  unfold beginFiring
  repeat' split
  all_goals with_reducible (repeat (first
    | (apply changesOnly.after (endFiring_frame _) <;> [decide; skip])
    | (apply changesOnly.after (startGroup_frame _) <;> [decide; skip])
    | (apply changesOnly.after (onDot_frame _ _) <;> [decide; skip])
    | exact changesOnly_refl _ _))

theorem releaseStrobe_frame (row : Nat) (s : State) :
    changesOnly [.carriage, .dot, .arbiter, .attention] s (releaseStrobe row s) := by
  unfold releaseStrobe
  dsimp only
  repeat' split
  all_goals with_reducible (repeat (first
    | (apply changesOnly.after (endFiring_frame _) <;> [decide; skip])
    | (apply changesOnly.after (onDot_frame _ _) <;> [decide; skip])
    | exact changesOnly_refl _ _))

theorem restartDot_frame (s : State) :
    changesOnly [.dot] s (restartDot s) := by
  unfold restartDot
  repeat' split
  all_goals with_reducible (repeat (first
    | (apply changesOnly.after (dotToIdle_frame _) <;> [decide; skip])
    | (apply changesOnly.after (onDot_frame _ _) <;> [decide; skip])
    | exact changesOnly_refl _ _))

/-! ## The keyboard -/

theorem wakeTranslator_frame (s : State) :
    changesOnly [.translator, .arbiter] s (wakeTranslator s) := by
  unfold wakeTranslator
  repeat' split
  all_goals with_reducible (repeat (first
    | (apply changesOnly.after (enqueueKeymap_frame _ _) <;> [decide; skip])
    | (apply changesOnly.after (onTranslator_frame _ _) <;> [decide; skip])
    | exact changesOnly_refl _ _))

theorem joinQueue_frame (e : KeyEvent) (s : State) :
    changesOnly [.keyboard, .translator, .arbiter] s (joinQueue e s) := by
  unfold joinQueue
  all_goals with_reducible (repeat (first
    | (apply changesOnly.after (wakeTranslator_frame _) <;> [decide; skip])
    | (apply changesOnly.after (onKeyboard_frame _ _) <;> [decide; skip])
    | exact changesOnly_refl _ _))

theorem offerPress_frame (e : KeyEvent) (s : State) :
    changesOnly [.keyboard, .translator, .arbiter, .tones, .status, .attention] s (offerPress e s) := by
  unfold offerPress
  repeat' split
  all_goals with_reducible (repeat (first
    | (apply changesOnly.after (joinQueue_frame _ _) <;> [decide; skip])
    | (apply changesOnly.after (requestSound_frame _ _) <;> [decide; skip])
    | (apply changesOnly.after (setKeyLost_frame _) <;> [decide; skip])
    | exact changesOnly_refl _ _))

theorem offerRepeat_frame (e : KeyEvent) (s : State) :
    changesOnly [.keyboard, .translator, .arbiter] s (offerRepeat e s) := by
  unfold offerRepeat
  repeat' split
  all_goals with_reducible (repeat (first | (apply changesOnly.after (joinQueue_frame _ _) <;> [decide; skip]) | exact changesOnly_refl _ _))

theorem finishEvent_frame (s : State) :
    changesOnly [.keyboard, .translator, .arbiter] s (finishEvent s) := by
  unfold finishEvent
  all_goals with_reducible (repeat (first
    | (apply changesOnly.after (wakeTranslator_frame _) <;> [decide; skip])
    | (apply changesOnly.after (onTranslator_frame _ _) <;> [decide; skip])
    | (apply changesOnly.after (onKeyboard_frame _ _) <;> [decide; skip])
    | exact changesOnly_refl _ _))

theorem endRepeat_frame (s : State) :
    changesOnly [.keyboard] s (endRepeat s) := by
  unfold endRepeat
  all_goals with_reducible (repeat (first | (apply changesOnly.after (onKeyboard_frame _ _) <;> [decide; skip]) | exact changesOnly_refl _ _))

theorem disableRepeat_frame (s : State) :
    changesOnly [.keyboard] s (disableRepeat s) := by
  unfold disableRepeat
  all_goals with_reducible (repeat (first
    | (apply changesOnly.after (endRepeat_frame _) <;> [decide; skip])
    | (apply changesOnly.after (onKeyboard_frame _ _) <;> [decide; skip])
    | exact changesOnly_refl _ _))

theorem chooseRepeat_frame (s : State) :
    changesOnly [.keyboard] s (chooseRepeat s) := by
  unfold chooseRepeat
  repeat' split
  all_goals with_reducible (repeat (first | (apply changesOnly.after (onKeyboard_frame _ _) <;> [decide; skip]) | exact changesOnly_refl _ _))

theorem judgeRepeatKey_frame (s : State) :
    changesOnly [.keyboard] s (judgeRepeatKey s) := by
  unfold judgeRepeatKey
  repeat' split
  all_goals with_reducible (repeat (first | (apply changesOnly.after (endRepeat_frame _) <;> [decide; skip]) | exact changesOnly_refl _ _))

theorem requestHeaderLoad_frame (s : State) :
    changesOnly [.arbiter] s (requestHeaderLoad s) := by
  unfold requestHeaderLoad
  dsimp only
  repeat' split
  all_goals with_reducible (repeat (first
    | (apply changesOnly.after (enqueueKeymap_frame _ _) <;> [decide; skip])
    | (apply changesOnly.after (onArbiter_frame _ _) <;> [decide; skip])
    | exact changesOnly_refl _ _))

theorem recordFunction_frame (code : Byte) (s : State) :
    changesOnly [.rings, .arbiter, .status, .attention] s (recordFunction code s) := by
  unfold recordFunction
  repeat' split
  all_goals with_reducible (repeat (first
    | (apply changesOnly.after (offerRecord_frame _ _) <;> [decide; skip])
    | exact changesOnly_refl _ _))

theorem requestBreak_frame (byCommand : Bool) (s : State) : changesOnly [.transmitter] s (requestBreak byCommand s) :=
  onTransmitter_frame s _

theorem breakFunction_frame (s : State) :
    changesOnly [.transmitter, .tones] s (breakFunction s) := by
  unfold breakFunction
  repeat' split
  all_goals with_reducible (repeat (first
    | (apply changesOnly.after (requestBreak_frame _ _) <;> [decide; skip])
    | (apply changesOnly.after (requestSound_frame _ _) <;> [decide; skip])
    | exact changesOnly_refl _ _))

theorem lineLocalFunction_frame (s : State) :
    changesOnly [.receiver, .transmitter, .tones, .flow, .status, .answerback, .arbiter, .switch, .command, .attention] s (lineLocalFunction s) := by
  unfold lineLocalFunction
  repeat' split
  all_goals with_reducible (repeat (first
    | (apply changesOnly.after (applyPreset_frame _ _) <;> [decide; skip])
    | (apply changesOnly.after (enterListen_frame _) <;> [decide; skip])
    | (apply changesOnly.after (raiseLine_frame _ _) <;> [decide; skip])
    | (apply changesOnly.after (enterIdle_frame _) <;> [decide; skip])
    | exact changesOnly_refl _ _))

theorem hereIsFunction_frame (s : State) :
    changesOnly [.answerback, .arbiter, .tones] s (hereIsFunction s) := by
  unfold hereIsFunction
  repeat' split
  all_goals with_reducible (repeat (first
    | (apply changesOnly.after (triggerAnswerback_frame _) <;> [decide; skip])
    | (apply changesOnly.after (requestSound_frame _ _) <;> [decide; skip])
    | exact changesOnly_refl _ _))

theorem addStop_frame (cell : Nat) (s : State) : changesOnly [.carriage] s (addStop cell s) :=
  onCarriage_frame s _

theorem tabSetFunction_frame (s : State) :
    changesOnly [.carriage, .tones] s (tabSetFunction s) := by
  unfold tabSetFunction
  repeat' split
  all_goals with_reducible (repeat (first
    | (apply changesOnly.after (addStop_frame _ _) <;> [decide; skip])
    | (apply changesOnly.after (requestSound_frame _ _) <;> [decide; skip])
    | exact changesOnly_refl _ _))

theorem removeStop_frame (cell : Nat) (s : State) : changesOnly [.carriage] s (removeStop cell s) :=
  onCarriage_frame s _

theorem tabClearFunction_frame (s : State) :
    changesOnly [.carriage] s (tabClearFunction s) := by
  unfold tabClearFunction
  repeat' split
  all_goals with_reducible (repeat (first | (apply changesOnly.after (removeStop_frame _ _) <;> [decide; skip]) | exact changesOnly_refl _ _))

theorem duplexFunction_frame (s : State) :
    changesOnly [.keyboard, .switch] s (duplexFunction s) := by
  unfold duplexFunction
  dsimp only
  repeat' split
  all_goals with_reducible (repeat (first
    | (apply changesOnly.after (applyPreset_frame _ _) <;> [decide; skip])
    | (apply changesOnly.after (onKeyboard_frame _ _) <;> [decide; skip])
    | exact changesOnly_refl _ _))

theorem appendFeed_frame (s : State) :
    changesOnly [.carriage, .switch, .rings, .arbiter, .status, .attention, .tones, .keyboard, .translator] s (appendFeed s) := by
  unfold appendFeed
  all_goals with_reducible (repeat (first
    | (apply changesOnly.after (finishEvent_frame _) <;> [decide; skip])
    | (apply changesOnly.after (requestClick_frame _) <;> [decide; skip])
    | (apply changesOnly.after (appendPrint_frame _ _) <;> [decide; skip])
    | (apply changesOnly.after (recordFunction_frame _ _) <;> [decide; skip])
    | exact changesOnly_refl _ _))

theorem feedFunction_frame (s : State) :
    changesOnly [.carriage, .switch, .rings, .arbiter, .status, .attention, .tones, .keyboard, .translator] s (feedFunction s) := by
  unfold feedFunction
  repeat' split
  all_goals with_reducible (repeat (first
    | (apply changesOnly.after (appendFeed_frame _) <;> [decide; skip])
    | (apply changesOnly.after (onTranslator_frame _ _) <;> [decide; skip])
    | exact changesOnly_refl _ _))

/-! ## Host cycles -/

theorem setSendOverflow_frame (s : State) : changesOnly [.status] s (setSendOverflow s) :=
  onStatus_frame s _

theorem captureHead_frame (s : State) :
    changesOnly [.rings, .arbiter, .status] s (captureHead s) := by
  unfold captureHead
  repeat' split
  all_goals with_reducible (repeat (first
    | (apply changesOnly.after (requestSendFetch_frame _) <;> [decide; skip])
    | (apply changesOnly.after (onRings_frame _ _) <;> [decide; skip])
    | (apply changesOnly.after (setSendOverflow_frame _) <;> [decide; skip])
    | exact changesOnly_refl _ _))

theorem consumeRecord_frame (s : State) :
    changesOnly [.rings] s (consumeRecord s) := by
  unfold consumeRecord
  repeat' split
  all_goals with_reducible (repeat (first | (apply changesOnly.after (onRings_frame _ _) <;> [decide; skip]) | exact changesOnly_refl _ _))

theorem captureHeader_frame (entry : HeaderEntry) (data : Byte) (s : State) : changesOnly [.keyboard] s (captureHeader entry data s) :=
  onKeyboard_frame s _

theorem reportWrite_frame (head : Bool) (entry : Option HeaderEntry) (data : Byte) (s : State) :
    changesOnly [.rings, .arbiter, .status, .keyboard] s (reportWrite head entry data s) := by
  unfold reportWrite
  dsimp only
  repeat' split
  all_goals with_reducible (repeat (first
    | (apply changesOnly.after (captureHeader_frame _ _ _) <;> [decide; skip])
    | (apply changesOnly.after (captureHead_frame _) <;> [decide; skip])
    | exact changesOnly_refl _ _))

theorem driveMemory_frame (cycles : List MemCycle) (s : State) : changesOnly [.pins] s (driveMemory cycles s) :=
  onPins_frame s _

theorem withhold_frame (address : Addr) (cause : RefusedCause) (s : State) :
    changesOnly [.passage, .pins, .attention] s (withhold address cause s) := by
  unfold withhold
  all_goals with_reducible (repeat (first
    | (apply changesOnly.after (raise_frame _ _) <;> [decide; skip])
    | (apply changesOnly.after (driveMemory_frame _ _) <;> [decide; skip])
    | (apply changesOnly.after (onPassage_frame _ _) <;> [decide; skip])
    | exact changesOnly_refl _ _))

theorem beginKeymapGrant_frame (s : State) :
    changesOnly [.arbiter] s (beginKeymapGrant s) := by
  unfold beginKeymapGrant
  repeat' split
  all_goals with_reducible (repeat (first | (apply changesOnly.after (onArbiter_frame _ _) <;> [decide; skip]) | exact changesOnly_refl _ _))

theorem beginGrant_frame (r : Requester) (g : Grant) (s : State) : changesOnly [.arbiter] s (beginGrant r g s) :=
  onArbiter_frame s _

theorem startNextGrant_frame (s : State) :
    changesOnly [.arbiter] s (startNextGrant s) := by
  unfold startNextGrant
  repeat' split
  all_goals with_reducible (repeat (first
    | (apply changesOnly.after (beginGrant_frame _ _ _) <;> [decide; skip])
    | (apply changesOnly.after (beginKeymapGrant_frame _) <;> [decide; skip])
    | exact changesOnly_refl _ _))

theorem setResult_frame (r : CommandResult) (s : State) : changesOnly [.command] s (setResult r s) :=
  onCommand_frame s _

theorem startCommand_frame (c : RunningCommand) (s : State) : changesOnly [.command] s (startCommand c s) :=
  onCommand_frame s _

end Sys2Proof.Machine
end

