-- ==== Sys2Proof/Laws/Held.lean ====
section
/-! SUPPORT. No owner of a grant's data reads or writes the held host cycle (R171): each operation that the end of a grant or a passing host cycle can run commutes with a change of that cycle, so that the grant's own effect is the same with a cycle held and with none. -/

namespace Sys2Proof.Machine

/-- The state with another held host cycle. -/
def State.withHeld (h : Option HostCycle) (s : State) : State := { s with arbiter := { s.arbiter with held := h } }

variable (h : Option HostCycle) (s : State)

@[simp] theorem withHeld_passage : (s.withHeld h).passage = s.passage := rfl
@[simp] theorem withHeld_status : (s.withHeld h).status = s.status := rfl
@[simp] theorem withHeld_pins : (s.withHeld h).pins = s.pins := rfl
@[simp] theorem withHeld_switch : (s.withHeld h).switch = s.switch := rfl
@[simp] theorem withHeld_rings : (s.withHeld h).rings = s.rings := rfl
@[simp] theorem withHeld_keyboard : (s.withHeld h).keyboard = s.keyboard := rfl
@[simp] theorem withHeld_translator : (s.withHeld h).translator = s.translator := rfl
@[simp] theorem withHeld_receiver : (s.withHeld h).receiver = s.receiver := rfl
@[simp] theorem withHeld_transmitter : (s.withHeld h).transmitter = s.transmitter := rfl
@[simp] theorem withHeld_tones : (s.withHeld h).tones = s.tones := rfl
@[simp] theorem withHeld_flow : (s.withHeld h).flow = s.flow := rfl
@[simp] theorem withHeld_answerback : (s.withHeld h).answerback = s.answerback := rfl
@[simp] theorem withHeld_carriage : (s.withHeld h).carriage = s.carriage := rfl
@[simp] theorem withHeld_dot : (s.withHeld h).dot = s.dot := rfl
@[simp] theorem withHeld_sensor : (s.withHeld h).sensor = s.sensor := rfl
@[simp] theorem withHeld_command : (s.withHeld h).command = s.command := rfl
@[simp] theorem withHeld_attention : (s.withHeld h).attention = s.attention := rfl
@[simp] theorem withHeld_pending : (s.withHeld h).pending = s.pending := rfl
@[simp] theorem withHeld_arbiter_startUp : (s.withHeld h).arbiter.startUp = s.arbiter.startUp := rfl
@[simp] theorem withHeld_arbiter_receiveWriter : (s.withHeld h).arbiter.receiveWriter = s.arbiter.receiveWriter := rfl
@[simp] theorem withHeld_arbiter_font : (s.withHeld h).arbiter.font = s.arbiter.font := rfl
@[simp] theorem withHeld_arbiter_keymap : (s.withHeld h).arbiter.keymap = s.arbiter.keymap := rfl
@[simp] theorem withHeld_arbiter_answerback : (s.withHeld h).arbiter.answerback = s.arbiter.answerback := rfl
@[simp] theorem withHeld_arbiter_sendRing : (s.withHeld h).arbiter.sendRing = s.arbiter.sendRing := rfl
@[simp] theorem withHeld_arbiter_keymapQueue : (s.withHeld h).arbiter.keymapQueue = s.arbiter.keymapQueue := rfl
@[simp] theorem withHeld_arbiter_grant : (s.withHeld h).arbiter.grant = s.arbiter.grant := rfl
@[simp] theorem withHeld_held : (s.withHeld h).arbiter.held = h := rfl
@[simp] theorem withHeld_withHeld (g : Option HostCycle) : (s.withHeld g).withHeld h = s.withHeld h := rfl
theorem withHeld_self : s.withHeld s.arbiter.held = s := rfl
@[simp] theorem withHeld_wait (r : Requester) : (s.withHeld h).arbiter.wait r = s.arbiter.wait r := by cases r <;> rfl
@[simp] theorem withHeld_grantLive (r : Requester) : grantLive r (s.withHeld h) = grantLive r s := rfl
@[simp] theorem withHeld_ite (c : Prop) [Decidable c] (a b : State) :
    (if c then a else b).withHeld h = if c then a.withHeld h else b.withHeld h := by split <;> rfl

@[simp] theorem onPassage_withHeld (f) : (s.withHeld h).onPassage f = (s.onPassage f).withHeld h := rfl
@[simp] theorem onStatus_withHeld (f) : (s.withHeld h).onStatus f = (s.onStatus f).withHeld h := rfl
@[simp] theorem onPins_withHeld (f) : (s.withHeld h).onPins f = (s.onPins f).withHeld h := rfl
@[simp] theorem onSwitch_withHeld (f) : (s.withHeld h).onSwitch f = (s.onSwitch f).withHeld h := rfl
@[simp] theorem onRings_withHeld (f) : (s.withHeld h).onRings f = (s.onRings f).withHeld h := rfl
@[simp] theorem onKeyboard_withHeld (f) : (s.withHeld h).onKeyboard f = (s.onKeyboard f).withHeld h := rfl
@[simp] theorem onTranslator_withHeld (f) : (s.withHeld h).onTranslator f = (s.onTranslator f).withHeld h := rfl
@[simp] theorem onReceiver_withHeld (f) : (s.withHeld h).onReceiver f = (s.onReceiver f).withHeld h := rfl
@[simp] theorem onTransmitter_withHeld (f) : (s.withHeld h).onTransmitter f = (s.onTransmitter f).withHeld h := rfl
@[simp] theorem onTones_withHeld (f) : (s.withHeld h).onTones f = (s.onTones f).withHeld h := rfl
@[simp] theorem onFlow_withHeld (f) : (s.withHeld h).onFlow f = (s.onFlow f).withHeld h := rfl
@[simp] theorem onAnswerback_withHeld (f) : (s.withHeld h).onAnswerback f = (s.onAnswerback f).withHeld h := rfl
@[simp] theorem onCarriage_withHeld (f) : (s.withHeld h).onCarriage f = (s.onCarriage f).withHeld h := rfl
@[simp] theorem onDot_withHeld (f) : (s.withHeld h).onDot f = (s.onDot f).withHeld h := rfl
@[simp] theorem onSensor_withHeld (f) : (s.withHeld h).onSensor f = (s.onSensor f).withHeld h := rfl
@[simp] theorem onCommand_withHeld (f) : (s.withHeld h).onCommand f = (s.onCommand f).withHeld h := rfl
@[simp] theorem onAttention_withHeld (f) : (s.withHeld h).onAttention f = (s.onAttention f).withHeld h := rfl
@[simp] theorem printRoom_withHeld : printRoom (s.withHeld h) = printRoom s := rfl
@[simp] theorem joinedRing_withHeld (r : Row) : joinedRing r (s.withHeld h) = joinedRing r s := rfl
@[simp] theorem flowActive_withHeld : flowActive (s.withHeld h) = flowActive s := rfl
@[simp] theorem judgedPrintDemand_withHeld : judgedPrintDemand (s.withHeld h) = judgedPrintDemand s := rfl
@[simp] theorem judgedRingDemand_withHeld : judgedRingDemand (s.withHeld h) = judgedRingDemand s := rfl
@[simp] theorem judgeTrigger_withHeld : judgeTrigger (s.withHeld h) = judgeTrigger s := rfl
@[simp] theorem judgeBreak_withHeld : judgeBreak (s.withHeld h) = judgeBreak s := rfl
@[simp] theorem keyRoom_withHeld : keyRoom (s.withHeld h) = keyRoom s := rfl
@[simp] theorem stopFits_withHeld (c : Nat) : stopFits c (s.withHeld h) = stopFits c s := rfl

@[simp] theorem raise_withHeld (a : AttentionSource) : raise a (s.withHeld h) = (raise a s).withHeld h := rfl

@[simp] theorem raiseLine_withHeld (c : LineCause) :
    raiseLine c (s.withHeld h) = (raiseLine c s).withHeld h := rfl

@[simp] theorem setTxDiscarded_withHeld :
    setTxDiscarded (s.withHeld h) = (setTxDiscarded s).withHeld h := by
  simp [setTxDiscarded]
  rfl

@[simp] theorem setPrintOverrun_withHeld :
    setPrintOverrun (s.withHeld h) = (setPrintOverrun s).withHeld h := by
  simp [setPrintOverrun]
  rfl

@[simp] theorem setRingLoss_withHeld :
    setRingLoss (s.withHeld h) = (setRingLoss s).withHeld h := by
  simp [setRingLoss]
  rfl

@[simp] theorem requestGrant_withHeld (r : Requester) :
    requestGrant r (s.withHeld h) = (requestGrant r s).withHeld h := by
  unfold requestGrant
  simp only [withHeld_wait]
  split
  · cases r <;> rfl
  · rfl

@[simp] theorem withdrawRequest_withHeld (r : Requester) :
    withdrawRequest r (s.withHeld h) = (withdrawRequest r s).withHeld h := by
  cases r <;> rfl

@[simp] theorem enqueueKeymap_withHeld (r : KeymapRead) :
    enqueueKeymap r (s.withHeld h) = (enqueueKeymap r s).withHeld h := rfl

@[simp] theorem discardGrant_withHeld (r : Requester) :
    discardGrant r (s.withHeld h) = (discardGrant r s).withHeld h := by
  simp [discardGrant]
  rfl

@[simp] theorem dropRequest_withHeld (r : Requester) :
    dropRequest r (s.withHeld h) = (dropRequest r s).withHeld h := by
  simp [dropRequest]

@[simp] theorem requestPlacement_withHeld :
    requestPlacement (s.withHeld h) = (requestPlacement s).withHeld h := by
  simp [requestPlacement]

@[simp] theorem requestSendFetch_withHeld :
    requestSendFetch (s.withHeld h) = (requestSendFetch s).withHeld h := by
  simp [requestSendFetch]

@[simp] theorem offerRecord_withHeld (r : ReceiveRecord) :
    offerRecord r (s.withHeld h) = (offerRecord r s).withHeld h := by
  simp [offerRecord]

@[simp] theorem setRow_withHeld (source : Source) (row : Row) :
    setRow source row (s.withHeld h) = (setRow source row s).withHeld h := by
  unfold setRow
  (repeat' split) <;> simp_all

@[simp] theorem applyPreset_withHeld (p : Preset) :
    applyPreset p (s.withHeld h) = (applyPreset p s).withHeld h := by
  simp [applyPreset]

@[simp] theorem applyDeferred_withHeld : applyDeferred (s.withHeld h) = (applyDeferred s).withHeld h := rfl

@[simp] theorem requestSound_withHeld (r : Sound) :
    requestSound r (s.withHeld h) = (requestSound r s).withHeld h := by
  simp [requestSound]
  split <;> simp

@[simp] theorem requestClick_withHeld :
    requestClick (s.withHeld h) = (requestClick s).withHeld h := by
  simp [requestClick]

@[simp] theorem appendPrint_withHeld (e : PrintEntry) :
    appendPrint e (s.withHeld h) = (appendPrint e s).withHeld h := by
  simp [appendPrint]
  rfl

@[simp] theorem judgePrintIdle_withHeld :
    judgePrintIdle (s.withHeld h) = (judgePrintIdle s).withHeld h := by
  simp [judgePrintIdle]
  rfl

@[simp] theorem cancelFlowCode_withHeld : cancelFlowCode (s.withHeld h) = (cancelFlowCode s).withHeld h := rfl

@[simp] theorem requestFlowCode_withHeld (k : FlowCode) :
    requestFlowCode k (s.withHeld h) = (requestFlowCode k s).withHeld h := rfl

@[simp] theorem demandArises_withHeld :
    demandArises (s.withHeld h) = (demandArises s).withHeld h := by
  simp [demandArises]
  split <;> rfl

@[simp] theorem demandWithdrawn_withHeld :
    demandWithdrawn (s.withHeld h) = (demandWithdrawn s).withHeld h := by
  simp [demandWithdrawn]
  split <;> rfl

@[simp] theorem judgeDemands_withHeld :
    judgeDemands (s.withHeld h) = (judgeDemands s).withHeld h := by
  simp [judgeDemands]

@[simp] theorem judgeWaits_withHeld : judgeWaits (s.withHeld h) = (judgeWaits s).withHeld h := rfl

@[simp] theorem settle_withHeld : settle (s.withHeld h) = (settle s).withHeld h := by simp [settle]

@[simp] theorem requestAnswerbackRead_withHeld :
    requestAnswerbackRead (s.withHeld h) = (requestAnswerbackRead s).withHeld h := by
  simp [requestAnswerbackRead]

@[simp] theorem triggerAnswerback_withHeld :
    triggerAnswerback (s.withHeld h) = (triggerAnswerback s).withHeld h := by
  simp [triggerAnswerback]

@[simp] theorem abortAnswerback_withHeld :
    abortAnswerback (s.withHeld h) = (abortAnswerback s).withHeld h := by
  simp [abortAnswerback]

@[simp] theorem endCommand_withHeld (c : RunningCommand) (r : CommandResult) :
    endCommand c r (s.withHeld h) = (endCommand c r s).withHeld h := by
  simp [endCommand]
  rfl

@[simp] theorem startTransmitter_withHeld :
    startTransmitter (s.withHeld h) = (startTransmitter s).withHeld h := rfl

@[simp] theorem enterListen_withHeld :
    enterListen (s.withHeld h) = (enterListen s).withHeld h := by
  simp [enterListen]
  rfl

@[simp] theorem receiverToIdle_withHeld : receiverToIdle (s.withHeld h) = (receiverToIdle s).withHeld h := rfl

@[simp] theorem cutBreak_withHeld : cutBreak (s.withHeld h) = (cutBreak s).withHeld h := by simp [cutBreak]

@[simp] theorem discardSlot_withHeld :
    discardSlot (s.withHeld h) = (discardSlot s).withHeld h := by
  simp [discardSlot]
  split <;> rfl

@[simp] theorem transmitterToOff_withHeld :
    transmitterToOff (s.withHeld h) = (transmitterToOff s).withHeld h := by
  simp [transmitterToOff]

@[simp] theorem flowToIdle_withHeld : flowToIdle (s.withHeld h) = (flowToIdle s).withHeld h := rfl

@[simp] theorem answerbackAtIdle_withHeld :
    answerbackAtIdle (s.withHeld h) = (answerbackAtIdle s).withHeld h := by
  simp [answerbackAtIdle]

@[simp] theorem enterIdle_withHeld :
    enterIdle (s.withHeld h) = (enterIdle s).withHeld h := by
  simp [enterIdle]

@[simp] theorem requestBreak_withHeld (b : Bool) :
    requestBreak b (s.withHeld h) = (requestBreak b s).withHeld h := rfl

@[simp] theorem wakeTranslator_withHeld :
    wakeTranslator (s.withHeld h) = (wakeTranslator s).withHeld h := by
  simp [wakeTranslator]
  rfl

@[simp] theorem finishEvent_withHeld :
    finishEvent (s.withHeld h) = (finishEvent s).withHeld h := by
  simp [finishEvent]

@[simp] theorem chooseRepeat_withHeld :
    chooseRepeat (s.withHeld h) = (chooseRepeat s).withHeld h := by
  unfold chooseRepeat
  (repeat' split) <;> simp_all

@[simp] theorem loadHeader_withHeld (b0 b1 b2 b3 : Byte) :
    loadHeader b0 b1 b2 b3 (s.withHeld h) = (loadHeader b0 b1 b2 b3 s).withHeld h := rfl

@[simp] theorem recordFunction_withHeld (c : Byte) :
    recordFunction c (s.withHeld h) = (recordFunction c s).withHeld h := by
  simp [recordFunction]

@[simp] theorem breakFunction_withHeld :
    breakFunction (s.withHeld h) = (breakFunction s).withHeld h := by
  simp [breakFunction]

@[simp] theorem lineLocalFunction_withHeld :
    lineLocalFunction (s.withHeld h) = (lineLocalFunction s).withHeld h := by
  simp [lineLocalFunction]

@[simp] theorem hereIsFunction_withHeld :
    hereIsFunction (s.withHeld h) = (hereIsFunction s).withHeld h := by
  simp [hereIsFunction]

@[simp] theorem tabSetFunction_withHeld : tabSetFunction (s.withHeld h) = (tabSetFunction s).withHeld h := by
  unfold tabSetFunction
  simp only [withHeld_carriage, stopFits_withHeld, requestSound_withHeld]
  cases s.carriage.position <;> simp [addStop]

@[simp] theorem tabClearFunction_withHeld :
    tabClearFunction (s.withHeld h) = (tabClearFunction s).withHeld h := by
  simp [tabClearFunction]
  split <;> rfl

@[simp] theorem clearStops_withHeld : clearStops (s.withHeld h) = (clearStops s).withHeld h := rfl

@[simp] theorem duplexFunction_withHeld :
    duplexFunction (s.withHeld h) = (duplexFunction s).withHeld h := by
  simp [duplexFunction]

@[simp] theorem clickFunction_withHeld : clickFunction (s.withHeld h) = (clickFunction s).withHeld h := rfl

@[simp] theorem appendFeed_withHeld :
    appendFeed (s.withHeld h) = (appendFeed s).withHeld h := by
  simp [appendFeed]

@[simp] theorem feedFunction_withHeld :
    feedFunction (s.withHeld h) = (feedFunction s).withHeld h := by
  simp [feedFunction]

@[simp] theorem actOnCode_withHeld (c : Byte) :
    actOnCode c (s.withHeld h) = (actOnCode c s).withHeld h := by
  simp [actOnCode]
  split <;> rfl

@[simp] theorem translate_withHeld (data : Byte) :
    translate data (s.withHeld h) = (translate data s).withHeld h := by
  simp [translate]
  split <;> rfl

@[simp] theorem columnStep_withHeld (n : Nat) :
    columnStep n (s.withHeld h) = (columnStep n s).withHeld h := rfl

@[simp] theorem handOver_withHeld (g : BitVec 7) (b : Bool) :
    handOver g b (s.withHeld h) = (handOver g b s).withHeld h := by
  simp [handOver]

@[simp] theorem dotToIdle_withHeld : dotToIdle (s.withHeld h) = (dotToIdle s).withHeld h := rfl

@[simp] theorem startMotion_withHeld (p q : Nat) :
    startMotion p q (s.withHeld h) = (startMotion p q s).withHeld h := rfl

@[simp] theorem beginOperation_withHeld (o : Operation) :
    beginOperation o (s.withHeld h) = (beginOperation o s).withHeld h := by
  simp [beginOperation]
  split <;> rfl

@[simp] theorem enterReady_withHeld :
    enterReady (s.withHeld h) = (enterReady s).withHeld h := by
  simp [enterReady]

@[simp] theorem continueEntry_withHeld :
    continueEntry (s.withHeld h) = (continueEntry s).withHeld h := by
  simp [continueEntry]
  split <;> rfl

@[simp] theorem endOperation_withHeld :
    endOperation (s.withHeld h) = (endOperation s).withHeld h := by
  simp [endOperation]

@[simp] theorem endCell_withHeld : endCell (s.withHeld h) = (endCell s).withHeld h := by simp [endCell]

@[simp] theorem endDwell_withHeld : endDwell (s.withHeld h) = (endDwell s).withHeld h := by simp [endDwell]

@[simp] theorem enterDwell_withHeld :
    enterDwell (s.withHeld h) = (enterDwell s).withHeld h := by
  simp [enterDwell]

@[simp] theorem endFiring_withHeld :
    endFiring (s.withHeld h) = (endFiring s).withHeld h := by
  simp [endFiring]

@[simp] theorem startGroup_withHeld :
    startGroup (s.withHeld h) = (startGroup s).withHeld h := by
  simp [startGroup]
  split <;> rfl

@[simp] theorem beginFiring_withHeld :
    beginFiring (s.withHeld h) = (beginFiring s).withHeld h := by
  simp [beginFiring]
  split <;> rfl

@[simp] theorem holdGlyph_withHeld (c1 c2 c3 c4 c5 : Byte) :
    holdGlyph c1 c2 c3 c4 c5 (s.withHeld h) = (holdGlyph c1 c2 c3 c4 c5 s).withHeld h := by
  simp [holdGlyph]

@[simp] theorem advanceReceiveHead_withHeld :
    advanceReceiveHead (s.withHeld h) = (advanceReceiveHead s).withHeld h := by
  simp only [advanceReceiveHead, onRings_withHeld, withHeld_rings]
  rw [← requestPlacement_withHeld, withHeld_ite, raise_withHeld]
  rfl

@[simp] theorem holdSendByte_withHeld (data : Byte) :
    holdSendByte data (s.withHeld h) = (holdSendByte data s).withHeld h := rfl

@[simp] theorem holdAnswerbackByte_withHeld (data : Byte) :
    holdAnswerbackByte data (s.withHeld h) = (holdAnswerbackByte data s).withHeld h := rfl

@[simp] theorem driveMemory_withHeld (l : List MemCycle) :
    driveMemory l (s.withHeld h) = (driveMemory l s).withHeld h := rfl

@[simp] theorem takeAttention_withHeld :
    takeAttention (s.withHeld h) = (takeAttention s).withHeld h := by
  simp [takeAttention]
  split <;> rfl

@[simp] theorem setKeyLost_withHeld :
    setKeyLost (s.withHeld h) = (setKeyLost s).withHeld h := by
  simp [setKeyLost]
  rfl

@[simp] theorem setSetupRefused_withHeld :
    setSetupRefused (s.withHeld h) = (setSetupRefused s).withHeld h := rfl

@[simp] theorem setSendOverflow_withHeld :
    setSendOverflow (s.withHeld h) = (setSendOverflow s).withHeld h := rfl

@[simp] theorem endService_withHeld : endService (s.withHeld h) = (endService s).withHeld h := rfl

@[simp] theorem clearStatus_withHeld (d : Byte) :
    clearStatus d (s.withHeld h) = (clearStatus d s).withHeld h := rfl

@[simp] theorem writeMask_withHeld (f : Half) (d : Byte) :
    writeMask f d (s.withHeld h) = (writeMask f d s).withHeld h := rfl

@[simp] theorem writeUrgent_withHeld (f : Half) (d : Byte) :
    writeUrgent f d (s.withHeld h) = (writeUrgent f d s).withHeld h := rfl

@[simp] theorem placeReceive_withHeld (f : Rings → Rings) :
    placeReceive f (s.withHeld h) = (placeReceive f s).withHeld h := by
  simp [placeReceive]
  rfl

@[simp] theorem placeSend_withHeld (f : Rings → Rings) :
    placeSend f (s.withHeld h) = (placeSend f s).withHeld h := by
  simp [placeSend]
  rfl

@[simp] theorem writeRingPlacement_withHeld (b : RingByte) (d : Byte) :
    writeRingPlacement b d (s.withHeld h) = (writeRingPlacement b d s).withHeld h := by
  simp [writeRingPlacement]
  split <;> rfl

@[simp] theorem requestHeaderLoad_withHeld :
    requestHeaderLoad (s.withHeld h) = (requestHeaderLoad s).withHeld h := by
  unfold requestHeaderLoad
  simp only [withHeld_arbiter_grant, withHeld_arbiter_keymapQueue]
  by_cases hq : s.arbiter.keymapQueue.contains .headerLoad = true <;> simp only [hq, if_true, Bool.false_eq_true, if_false] <;>
    (cases s.arbiter.grant with
     | none => rfl
     | some g => cases g <;> rfl)

@[simp] theorem writeKeymapBase_withHeld (f : Half) (d : Byte) :
    writeKeymapBase f d (s.withHeld h) = (writeKeymapBase f d s).withHeld h := by
  simp [writeKeymapBase]

@[simp] theorem disableRepeat_withHeld : disableRepeat (s.withHeld h) = (disableRepeat s).withHeld h := rfl

@[simp] theorem writeKeyboardOptions_withHeld (d : Byte) :
    writeKeyboardOptions d (s.withHeld h) = (writeKeyboardOptions d s).withHeld h := by
  simp [writeKeyboardOptions]

@[simp] theorem writeLineSetup_withHeld (d : Byte) :
    writeLineSetup d (s.withHeld h) = (writeLineSetup d s).withHeld h := by
  simp [writeLineSetup]

@[simp] theorem clearRemotePause_withHeld :
    clearRemotePause (s.withHeld h) = (clearRemotePause s).withHeld h := rfl

@[simp] theorem writeLineOptions_withHeld (d : Byte) :
    writeLineOptions d (s.withHeld h) = (writeLineOptions d s).withHeld h := by
  simp [writeLineOptions]

@[simp] theorem writeNotifyLevel_withHeld (d : Byte) :
    writeNotifyLevel d (s.withHeld h) = (writeNotifyLevel d s).withHeld h := rfl

@[simp] theorem writeRoomLevel_withHeld (d : Byte) :
    writeRoomLevel d (s.withHeld h) = (writeRoomLevel d s).withHeld h := rfl

@[simp] theorem writeRingPauseLevel_withHeld (d : Byte) :
    writeRingPauseLevel d (s.withHeld h) = (writeRingPauseLevel d s).withHeld h := rfl

@[simp] theorem writeRepeatCodes_withHeld (d : Byte) :
    writeRepeatCodes d (s.withHeld h) = (writeRepeatCodes d s).withHeld h := rfl

@[simp] theorem writeOnThreshold_withHeld (d : Byte) :
    writeOnThreshold d (s.withHeld h) = (writeOnThreshold d s).withHeld h := rfl

@[simp] theorem writeOffThreshold_withHeld (d : Byte) :
    writeOffThreshold d (s.withHeld h) = (writeOffThreshold d s).withHeld h := rfl

@[simp] theorem writeQualifyCode_withHeld (d : Byte) :
    writeQualifyCode d (s.withHeld h) = (writeQualifyCode d s).withHeld h := rfl

@[simp] theorem writeFadeCode_withHeld (d : Byte) :
    writeFadeCode d (s.withHeld h) = (writeFadeCode d s).withHeld h := rfl

@[simp] theorem writeListenCode_withHeld (d : Byte) :
    writeListenCode d (s.withHeld h) = (writeListenCode d s).withHeld h := rfl

@[simp] theorem writeBreakLength_withHeld (d : Byte) :
    writeBreakLength d (s.withHeld h) = (writeBreakLength d s).withHeld h := rfl

@[simp] theorem writeTimeoutCode_withHeld (d : Byte) :
    writeTimeoutCode d (s.withHeld h) = (writeTimeoutCode d s).withHeld h := rfl

@[simp] theorem writeLevels_withHeld (d : Byte) :
    writeLevels d (s.withHeld h) = (writeLevels d s).withHeld h := rfl

@[simp] theorem writePauseCode_withHeld (d : Byte) :
    writePauseCode d (s.withHeld h) = (writePauseCode d s).withHeld h := rfl

@[simp] theorem writeResumeCode_withHeld (d : Byte) :
    writeResumeCode d (s.withHeld h) = (writeResumeCode d s).withHeld h := rfl

@[simp] theorem writeDensity_withHeld (d : Byte) :
    writeDensity d (s.withHeld h) = (writeDensity d s).withHeld h := rfl

@[simp] theorem writeBudget_withHeld (d : Byte) :
    writeBudget d (s.withHeld h) = (writeBudget d s).withHeld h := rfl

@[simp] theorem writeOperand_withHeld (d : Byte) :
    writeOperand d (s.withHeld h) = (writeOperand d s).withHeld h := rfl

@[simp] theorem writeRefusedCause_withHeld (d : Byte) :
    writeRefusedCause d (s.withHeld h) = (writeRefusedCause d s).withHeld h := rfl

@[simp] theorem writeFontBase_withHeld (f : Half) (d : Byte) :
    writeFontBase f d (s.withHeld h) = (writeFontBase f d s).withHeld h := rfl

@[simp] theorem writeAnswerbackSetup_withHeld (b : AnswerbackByte) (d : Byte) :
    writeAnswerbackSetup b d (s.withHeld h) = (writeAnswerbackSetup b d s).withHeld h := by
  unfold writeAnswerbackSetup
  rw [show answerbackFixed (s.withHeld h) = answerbackFixed s from rfl]
  split
  · rfl
  · cases b <;> rfl

@[simp] theorem setResult_withHeld (r : CommandResult) :
    setResult r (s.withHeld h) = (setResult r s).withHeld h := rfl

@[simp] theorem startCommand_withHeld (c : RunningCommand) :
    startCommand c (s.withHeld h) = (startCommand c s).withHeld h := rfl

@[simp] theorem flushPrintQueue_withHeld :
    flushPrintQueue (s.withHeld h) = (flushPrintQueue s).withHeld h := by
  simp [flushPrintQueue]

@[simp] theorem lineOnEffect_withHeld (c : Channel) :
    lineOnEffect c (s.withHeld h) = (lineOnEffect c s).withHeld h := by
  simp [lineOnEffect]

@[simp] theorem lineOffEffect_withHeld :
    lineOffEffect (s.withHeld h) = (lineOffEffect s).withHeld h := by
  simp [lineOffEffect]
  split <;> rfl

@[simp] theorem sendBreakEffect_withHeld :
    sendBreakEffect (s.withHeld h) = (sendBreakEffect s).withHeld h := by
  simp [sendBreakEffect]
  split <;> rfl

@[simp] theorem sendAnswerbackEffect_withHeld :
    sendAnswerbackEffect (s.withHeld h) = (sendAnswerbackEffect s).withHeld h := by
  simp [sendAnswerbackEffect]
  split <;> rfl

@[simp] theorem setModeEffect_withHeld :
    setModeEffect (s.withHeld h) = (setModeEffect s).withHeld h := by
  simp [setModeEffect]
  split <;> rfl

@[simp] theorem flushPrintEffect_withHeld :
    flushPrintEffect (s.withHeld h) = (flushPrintEffect s).withHeld h := by
  simp [flushPrintEffect]

@[simp] theorem feedLineEffect_withHeld :
    feedLineEffect (s.withHeld h) = (feedLineEffect s).withHeld h := by
  simp [feedLineEffect]

@[simp] theorem setTabEffect_withHeld :
    setTabEffect (s.withHeld h) = (setTabEffect s).withHeld h := by
  simp [setTabEffect]
  rfl

@[simp] theorem clearTabEffect_withHeld :
    clearTabEffect (s.withHeld h) = (clearTabEffect s).withHeld h := by
  simp [clearTabEffect]
  rfl

@[simp] theorem clearAllTabsEffect_withHeld :
    clearAllTabsEffect (s.withHeld h) = (clearAllTabsEffect s).withHeld h := by
  simp [clearAllTabsEffect]

@[simp] theorem restartRings_withHeld :
    restartRings (s.withHeld h) = (restartRings s).withHeld h := by
  simp [restartRings]

@[simp] theorem cancelTranslation_withHeld :
    cancelTranslation (s.withHeld h) = (cancelTranslation s).withHeld h := by
  simp [cancelTranslation]
  rfl

@[simp] theorem discardTranslation_withHeld :
    discardTranslation (s.withHeld h) = (discardTranslation s).withHeld h := by
  simp [discardTranslation]
  split <;> rfl

@[simp] theorem restartKeyboard_withHeld :
    restartKeyboard (s.withHeld h) = (restartKeyboard s).withHeld h := by
  simp [restartKeyboard]

@[simp] theorem restartTones_withHeld :
    restartTones (s.withHeld h) = (restartTones s).withHeld h := by
  simp [restartTones]

@[simp] theorem restartCarriage_withHeld :
    restartCarriage (s.withHeld h) = (restartCarriage s).withHeld h := by
  simp [restartCarriage]

@[simp] theorem restartDot_withHeld :
    restartDot (s.withHeld h) = (restartDot s).withHeld h := by
  simp [restartDot]
  split <;> rfl

@[simp] theorem restartFiring_withHeld :
    restartFiring (s.withHeld h) = (restartFiring s).withHeld h := by
  simp [restartFiring]

@[simp] theorem restartClears_withHeld :
    restartClears (s.withHeld h) = (restartClears s).withHeld h := by
  simp [restartClears]

@[simp] theorem restartEffect_withHeld :
    restartEffect (s.withHeld h) = (restartEffect s).withHeld h := by
  simp [restartEffect]

@[simp] theorem takeCommand_withHeld (d : Byte) :
    takeCommand d (s.withHeld h) = (takeCommand d s).withHeld h := by
  simp [takeCommand]
  split <;> rfl

@[simp] theorem writeControl_withHeld (o : Offset) (d : Byte) :
    writeControl o d (s.withHeld h) = (writeControl o d s).withHeld h := by
  simp [writeControl]
  split <;> rfl

@[simp] theorem withhold_withHeld (a : Addr) (c : RefusedCause) :
    withhold a c (s.withHeld h) = (withhold a c s).withHeld h := by
  simp [withhold]

@[simp] theorem captureHead_withHeld :
    captureHead (s.withHeld h) = (captureHead s).withHeld h := by
  simp [captureHead]

@[simp] theorem captureHeader_withHeld (e : HeaderEntry) (d : Byte) :
    captureHeader e d (s.withHeld h) = (captureHeader e d s).withHeld h := rfl

@[simp] theorem reportWrite_withHeld (b : Bool) (e : Option HeaderEntry) (d : Byte) :
    reportWrite b e d (s.withHeld h) = (reportWrite b e d s).withHeld h := by
  unfold reportWrite
  (repeat' split) <;> simp_all

@[simp] theorem completeWrite_withHeld (a : Addr) (d : Byte) (w : WriteOutcome) :
    completeWrite a d w (s.withHeld h) = (completeWrite a d w s).withHeld h := by
  simp [completeWrite]
  split <;> rfl

@[simp] theorem consumeRecord_withHeld :
    consumeRecord (s.withHeld h) = (consumeRecord s).withHeld h := by
  simp [consumeRecord]
  rfl

@[simp] theorem answerRead_withHeld (o : Offset) :
    answerRead o (s.withHeld h) = (answerRead o s).withHeld h := by
  simp [answerRead]
  rfl

@[simp] theorem completeRead_withHeld (a : Addr) (d : Byte) (w : ReadOutcome) :
    completeRead a d w (s.withHeld h) = (completeRead a d w s).withHeld h := by
  simp [completeRead]
  split <;> simp

@[simp] theorem passCycle_withHeld (c : HostCycle) :
    passCycle c (s.withHeld h) = (passCycle c s).withHeld h := by
  simp [passCycle]
  split <;> rfl

/-- R171: the end of a grant whose owner commutes with the held cycle: the grant's own effect is that with no cycle held, and the held cycle passes on the state it leaves. -/
theorem finishGrant_of_held (cycles : List MemCycle) (act : State → State)
    (hact : ∀ (g : Option HostCycle) (t : State), act (t.withHeld g) = (act t).withHeld g) (c : HostCycle) :
    finishGrant cycles act (s.withHeld (some c)) = passHeld ((finishGrant cycles act (s.withHeld none)).withHeld (some c)) ∧
    (finishGrant cycles act (s.withHeld none)).arbiter.held = none := by
  have hgrant : ∀ (g : Option HostCycle) (t : State),
      (t.withHeld g).onArbiter (fun a => { a with grant := none }) =
        (t.onArbiter fun a => { a with grant := none }).withHeld g := fun _ _ => rfl
  constructor <;> simp [finishGrant, hgrant, hact, passHeld]

/-- R171: a host cycle that passes holds none. -/
theorem passCycle_held {s : State} (hs : s.arbiter.held = none) (c : HostCycle) : (passCycle c s).arbiter.held = none := by
  have key := passCycle_withHeld none s c
  rw [show s.withHeld none = s by rw [← hs]; rfl] at key
  rw [key]; rfl

end Sys2Proof.Machine
end

