-- ==== Sys2Proof/Tests/Slice0.lean ====
section
/-! SUPPORT. The author's tests: the checks of `Instr.wellFormed`, the manual's worked examples and tables on one operation or one step, and for every obligation with hypotheses a state and operands that meet them. -/

namespace Sys2Proof.Tests

open Sys2Proof Sys2Proof.Machine

/-! ## Well-formed commands: each check refuses an ill-formed term -/

theorem test_setup_write_refuses_own_row : (Instr.setupWrite 0x1A#6 0).wellFormed = false := by decide
theorem test_setup_write_accepts_read_only : (Instr.setupWrite 0x3F#6 0).wellFormed = true := by decide
theorem test_unknown_refuses_command_code : (Instr.unknown 0x0C#8).wellFormed = false := by decide
theorem test_unknown_accepts_zero : (Instr.unknown 0x00#8).wellFormed = true := by decide
theorem test_strobe_release_refuses_row_eight : (Instr.strobeRelease 8).wellFormed = false := by decide
theorem test_strobe_release_refuses_row_zero : (Instr.strobeRelease 0).wellFormed = false := by decide
theorem test_no_word_spells_a_command : decodeTableWord 16 0x1234 = none := by decide

/-! ## The state the tests run on -/

/-- The state after a command, or the state before it where it does not complete. -/
def after (c : Instr) (s : State) : State :=
  match exec c s with
  | .next t => t
  | _ => s

/-- The part released, with the carriage READY at cell 0, a mild head and a full battery. -/
def ready : State :=
  { State.reset with
    passage := { State.reset.passage with startUp := .released }
    sensor := ⟨120, 25, some 100⟩
    keyboard := { State.reset.keyboard with scanTimer := some 8 }
    carriage := { State.reset.carriage with state := .ready, position := some 0 } }

/-- A call in DATA in the originate channel, the framer hunting on mark and a short history. -/
def onCall : State :=
  { ready with
    receiver := { ready.receiver with
      line := .data, carrier := true, window := .tracking, framer := .hunt .mark, history := [], onThreshold := 1
      offThreshold := 0 }
    transmitter := { ready.transmitter with state := .markIdle, bitClock := some 0 }
    tones := { ready.tones with line := ⟨true, 0, 1445, 128⟩ } }

/-- A receive ring of 16 slots and a send ring of 16 slots. -/
def withRings (s : State) : State :=
  s.onRings fun r => { r with receiveSize := 1, receiveBase := 0x4000#16, sendSize := 1, sendBase := 0x5000#16 }

/-- A memory grant is running. -/
def granted (g : Grant) (s : State) : State := s.onArbiter fun a => { a with grant := some g }

/-- A bit boundary is due in a transmitter state. -/
def due (state : TxState) (s : State) : State := s.onTransmitter fun t => { t with state := state, boundaryDue := true }

/-- One position is DOWN, and key 0 is the event at the head of the key queue. -/
def keyed (s : State) : State :=
  { s.onKeyboard fun k => { k with queue := [⟨0, false, false, false⟩] } with translator := .fetching }

/-! ## The manual's examples -/

/-- 03, one frame at sample level: "O" with a click in its fifth data bit has tag A1h. -/
theorem test_tag_of_noisy_o :
    (readFrame 0 ⟨9, 16, [], [.space, .mark, .mark, .mark, .mark, .space, .space, .mark, .mark, .mark], true⟩) =
      ⟨0x4F#8, false, false, true⟩ ∧
    (⟨.lineCharacter, false, false, true, false, 0x4F#8⟩ : ReceiveRecord).tag = 0xA1#8 := by decide

/-- 03: the pause code 13h with a wrong parity bit is a parity error, tag 89h. -/
theorem test_tag_of_bad_pause :
    (readFrame 0 ⟨9, 16, [], [.space, .mark, .mark, .space, .space, .mark, .space, .space, .space, .mark], false⟩) =
      ⟨0x13#8, true, false, false⟩ ∧
    (⟨.lineCharacter, true, false, false, false, 0x13#8⟩ : ReceiveRecord).tag = 0x89#8 := by decide

/-- 01, R15: a character record with loss before it has tag C1h. -/
theorem test_tag_with_loss : (⟨.lineCharacter, false, false, false, true, 0x41#8⟩ : ReceiveRecord).tag = 0xC1#8 := by
  decide

/-- 04, the first bits of a call: the outputs at the four boundaries are 39, 216, 137 and 188. -/
theorem test_dac_outputs_of_first_bits :
    dacOutput 12 53888 = 39 ∧ dacOutput 12 13056 = 216 ∧ dacOutput 12 1408 = 137 ∧ dacOutput 12 26112 = 188 := by
  decide

/-- R75: at level 12 an entry of −12 gives 118, and the extremes at level 15 are 8 and 248. -/
theorem test_dac_rounds_down :
    dacOutput 12 (BitVec.ofNat 16 (33 * 1024)) = 118 ∧ dacOutput 15 (BitVec.ofNat 16 (16 * 1024)) = 248 ∧
      dacOutput 15 (BitVec.ofNat 16 (48 * 1024)) = 8 := by decide

/-- 04: "U" (55h) in format 0 is sent as mark, space alternating, even parity 0. -/
theorem test_frame_of_u :
    frameBits 0 0x55#8 =
      [.space, .mark, .space, .mark, .space, .mark, .space, .mark, .space, .mark] := by decide

/-- R64: format 7 sends 8 data bits and two stop bits. -/
theorem test_frame_of_eight_bits :
    frameBits 7 0x80#8 =
      [.space, .space, .space, .space, .space, .space, .space, .space, .mark, .mark, .mark] := by decide

/-- 03, energy and the two windows: 21 samples of 60 give 39, 22 give 41; in tracking 68 zeros give 28 and 69 give 27. -/
theorem test_energy_averages :
    energyAverage .acquisition (List.replicate 21 60) = 39 ∧ energyAverage .acquisition (List.replicate 22 60) = 41 ∧
      energyAverage .tracking (List.replicate 60 60) = 28 ∧ energyAverage .tracking (List.replicate 59 60) = 27 := by
  decide

/-- R145: t_v at density 3 for u = 80, 88, 94, 100, 110, 120, 130, 140. -/
theorem test_voltage_times :
    [80, 88, 94, 100, 110, 120, 130, 140].map (voltageTime 3) = [1170, 966, 847, 748, 618, 520, 443, 382] := by decide

/-- 07, worked case 1: 679 and 509 µs, S = 1378 µs, 5000 µs. -/
theorem test_column_at_mild_conditions :
    freshWidthOf ⟨3, 4, 110, 15⟩ = 679 ∧ warmWidthOf ⟨3, 4, 110, 15⟩ = 509 ∧
      strobeTime 679 509 0b0000110#7 (dotGroups 0b1010111#7 4) = 1378 ∧
      columnPeriodOf ⟨3, 4, 110, 15⟩ 0b0000110#7 0b1010111#7 = 5000 := by decide

/-- 07, worked case 2: a weak battery has a budget of 2, and the all-warm column of four groups lasts 4740 µs and stretches to 5040. -/
theorem test_cold_column_on_weak_battery :
    effectiveBudget 4 92 = 2 ∧ freshWidthOf ⟨7, 2, 92, -20⟩ = 1500 ∧ warmWidthOf ⟨7, 2, 92, -20⟩ = 1170 ∧
      strobeTime 1500 1170 0x7F#7 (dotGroups 0x7F#7 2) = 4740 ∧ columnPeriodOf ⟨7, 2, 92, -20⟩ 0x7F#7 0x7F#7 = 5040 := by
  decide

/-- R150: {1, 2, 3, 5, 7} under a budget of 2 is cut into {1, 2}, {3, 5} and {7}. -/
theorem test_dot_groups : (dotGroups 0b1010111#7 2).map rowsOf = [[1, 2], [3, 5], [7]] := by decide

/-- R153: the longest strobe time is 10,620 µs and its column 10,920 µs. -/
theorem test_longest_column : columnPeriodOf ⟨7, 1, 80, -10⟩ 0 0x7F#7 = 10920 := by decide

/-- R157: −20 °C is shown at 3Bh as ECh. -/
theorem test_temperature_byte :
    readControl 0x3B#6 (ready.onSensor fun m => { m with temperature := temperatureReading (-19500) }) = 0xEC#8 := by
  decide

/-- R191: the masks and the urgent group after pin reset. -/
theorem test_reset_masks :
    [readControl 0x08#6 State.reset, readControl 0x09#6 State.reset, readControl 0x0A#6 State.reset,
      readControl 0x0B#6 State.reset] = [0xFE#8, 0x03#8, 0x13#8, 0x00#8] := by decide

/-- R166: the control block of page FEh lies from FE00h; 40h of the page is outside it. -/
theorem test_control_addresses :
    controlAddress 0xFE#8 0x3E#6 = 0xFE3E#16 ∧ controlOffset 0xFE#8 0xFE3E#16 = some 0x3E#6 ∧
      controlOffset 0xFE#8 0xFE40#16 = none := by decide

/-! ## Single steps -/

/-- The command at the front runs. -/
theorem test_step_takes_front :
    (match step { ready with pending := [.lineOff, .restart] } with
      | .next t => decide (t.pending = [.restart] ∧ t.command.last = 0x03#8)
      | _ => false) = true := by decide

theorem test_step_idles : (match step State.reset with
      | .next t => decide (t = State.reset)
      | _ => false) = true := by decide

/-- R165: a page of FFh is taken as FEh, and the locks come from the second byte. -/
theorem test_start_up_page :
    (let t := after (.startUpFetch 0xFF#8 0x03#8 6000 25000)
        (granted .startUp { State.reset with passage := { State.reset.passage with startUp := .fetching } })
     t.passage.page = 0xFE#8 ∧ t.passage.keymapLock = true ∧ hostResetAsserted t = false) := by decide

/-- R188: urgent before normal: PRINT-FAULT (5) is taken before RX-LEVEL (3). -/
theorem test_attention_takes_urgent_first :
    (let s := ready.onAttention fun a => { a with flags := 0x014#10, masks := 0 }
     (after .attentionCodeRead s).pins.hostData = 5 ∧ (after .attentionCodeRead s).attention.stack = [.urgent]) := by
  decide

/-- R2: the line-out cell of LINE-IN is illegal and stays unjoined. -/
theorem test_join_row_clamps : (after (.joinRowWrite .lineIn 0xFF#8) ready).switch.lineIn = ⟨false, true, true⟩ := by
  decide

/-- R161: a write into a locked answerback region is withheld with its address and cause. -/
theorem test_withheld_write :
    (let s := { ready with
      passage := { ready.passage with answerbackLock := true }
      answerback := { ready.answerback with base := 0x2000#16, length := 4 } }
     (after (.withheldWrite 0x2003#16 0x41#8) s).passage.lastRefused = 0x2003#16 ∧
      (after (.withheldWrite 0x2004#16 0x41#8) s).passage.refusedCause = .noCause) := by decide

/-- R171: a host write during a grant is held and passes when the grant ends. -/
theorem test_held_write_passes :
    (let s := granted (.send 0x5000#16 false) (withRings ready)
     let held := after (.statusWrite 0xFF#8) s
     hostWait held = true ∧ hostWait (after (.sendFetch 0x41#8) held) = false ∧
      (after (.sendFetch 0x41#8) held).pins.memory = [.read 0x5000#16 0x41#8, .write 0xFE03#16 0xFF#8]) := by decide

/-- R21: a write to the head slot of a ring with one free place advances the head; the full ring overflows. -/
theorem test_head_capture_overflow :
    (let s := (withRings ready).onRings fun r => { r with sendHead := 14, sendTail := 0 }
     let full := after (.headCapture 0x42#8) s
     full.rings.sendHead = 15 ∧ full.status.sendOverflow = false ∧
      (after (.headCapture 0x43#8) full).rings.sendHead = 15 ∧
      (after (.headCapture 0x43#8) full).status.sendOverflow = true) := by decide

/-- R127: SET-TAB at 0 is BAD-OPERAND, at 79 DONE. -/
theorem test_set_tab_bounds :
    (after .setTab ready).command.result = .badOperand ∧
      (after .setTab (ready.onPassage fun p => { p with operand := 79 })).carriage.tabStops =
        [8, 16, 24, 32, 40, 48, 56, 64, 72, 79] := by decide

/-- R123: HT from 79 is consumed with no operation, and from 72 goes to 79. -/
theorem test_tab_at_margin :
    (let at79 := ready.onCarriage fun c => { c with position := some 79, queue := [.character 0x09#7] }
     let at72 := ready.onCarriage fun c => { c with position := some 72, queue := [.character 0x09#7] }
     (after .entryHandling at79).carriage.state = .ready ∧ (after .entryHandling at72).carriage.target = 79) := by
  decide

/-- R122: at the margin WRAP returns first, and HOLD steps back. -/
theorem test_print_at_margin :
    (let s := ready.onCarriage fun c => { c with position := some 80, queue := [.character 0x44#7] }
     (after .entryHandling (s.onCarriage fun c => { c with wrap := true })).carriage.pending = [.feed, .print 0x44#7] ∧
      (after .entryHandling s).dot.state = .backStep 0) := by decide

/-- R128: T = 60 keeps HOT as it stands, and 65 sets it. -/
theorem test_hot_band :
    (after (.sensorReading 6000 60000) ready).carriage.hot = false ∧
      (after (.sensorReading 6000 65000) ready).carriage.hot = true ∧
      (after (.sensorReading 6000 65000) ready).carriage.state = .halted := by decide

/-- R81: a CLICK is dropped under a CHIRP. -/
theorem test_click_under_chirp :
    (requestSound .click (requestSound .chirp ready)).tones.request = some .chirp := by decide

/-- R39: the lock uppercases "a" and leaves the left brace 7Bh. -/
theorem test_lock_adjusts :
    lockAdjusted ⟨0, false, false, true⟩ 0x61#8 = 0x41#8 ∧ lockAdjusted ⟨0, false, false, true⟩ 0x7B#8 = 0x7B#8 := by
  decide

/-- R28: the fourth corner of a rectangle of DOWN positions is held back. -/
theorem test_ghost_corner :
    (let states := (((Vector.replicate 64 KeyState.up).set 0 .down).set 1 .down).set 8 .down
     isGhostCorner states 9 = true ∧ isGhostCorner states 10 = false) := by decide

/-- R91: a boundary due at the moment of the break timer's expiry is not counted. -/
theorem test_boundary_at_break_expiry :
    (let s := (due .breaking onCall).onTransmitter fun t => { t with breakTimer := some 250 }
     (after .bitBoundary (after .breakTimerExpiry s)).transmitter.state = .postBreak 0) := by decide

/-- R60: the originate channel listens for the high pair, the answer channel for the low pair. -/
theorem test_channel_listens :
    (let line : LineInput := ⟨⟨0x00#8, .mark⟩, ⟨0xFF#8, .space⟩⟩
     let s := ready.onReceiver fun r => { r with line := .listen, history := [], onThreshold := 7 }
     (after (.lineSample line.low line.high) s).receiver.carrier = true ∧
      (after (.lineSample line.low line.high) (s.onReceiver fun r => { r with channel := .answer })).receiver.carrier = false) := by decide

/-- Two sources wait for PRINT, the send ring for longer, with `n` entries in the queue of a READY carriage. -/
def twoWaiters (n : Nat) : State :=
  { keyed ready with
    translator := .offering 0x41#8
    rings := { (withRings ready).rings with sendHead := 1, prefetched := some 0x42#8 }
    switch := { ready.switch with printWaits := ⟨some 2, some 1, none, none⟩ }
    carriage := { ready.carriage with queue := List.replicate n .feed } }

/-- R6: the place freed in a full queue goes to the longest wait; with a second entry gone PRINT is ready to both. -/
theorem test_freed_place :
    (let freed := after .entryHandling (twoWaiters 48)
     let ready2 := freed.onCarriage fun c => { c with state := .ready }
     canTake .keyboard freed = false ∧ canTake .sendRing freed = true ∧
      canTake .keyboard (after .entryHandling ready2) = true) := by decide

/-- R141: the last release after the column timer's expiry makes the next column step, and at column 6 ends the cell. -/
theorem test_firing_outlasts_column :
    (let firing (column : Nat) := { ready with
        carriage := { ready.carriage with state := .printing, position := some 5 }
        dot := { ready.dot with state := .firing, column := column, glyph := .held 0 0 0 0 1, strobes := 1 } }
     (after (.strobeRelease 1) (firing 5)).dot.column = 6 ∧ (after (.strobeRelease 1) (firing 5)).dot.history = 1 ∧
      (after (.strobeRelease 1) (firing 6)).carriage.position = some 6) := by decide

/-- R29: a position that a pass has treated as a modifier is not chosen when the reads of its own pass complete. -/
theorem test_modifier_never_repeats :
    (let waits (header : Header) := ready.onKeyboard fun k =>
        { k with header := header, eligibility := [⟨[⟨63, false⟩], [2]⟩] }
     let chosen (header : Header) :=
        (after (.eligibilityRead 0x00#8)
          (granted (.eligibility 63 0x3043#16) (after (.scanPass 0) (waits header)))).keyboard.repeatKey
     chosen ⟨none, none, some 2, none⟩ = none ∧ chosen ⟨none, none, none, none⟩ = some 2) := by decide

/-- R142: the carriage phases are driven in a feed, and released in READY. -/
theorem test_feed_drives_carriage :
    carriagePhasesDriven (ready.onCarriage fun c => { c with state := .feeding }) = true ∧
      carriagePhasesDriven ready = false := by decide

/-! ## Witnesses: a state and operands that meet the hypotheses of each obligation, clause by clause -/

theorem witness_StepRunsFrontCommand : ({ ready with pending := [.lineOff, .restart] } : State).pending = .lineOff :: [.restart] :=
  rfl

/-- The state of the start-up fetch: FETCHING, with its grant running. -/
def fetching : State :=
  granted .startUp { State.reset with passage := { State.reset.passage with startUp := .fetching } }

theorem witness_StartUpSequence :
    (State.reset.passage.startUp = .holding ∧ State.reset.arbiter.startUp = .absent) ∧
    (startUpSound fetching ∧ fetching.passage.startUp = .fetching ∧ fetching.arbiter.grant = some .startUp) := by
  unfold startUpSound resetHeld; decide

/-- The port is free and no command runs: for AttentionReadTakes, ServiceEndPops, FlagAndMaskWrites, JoinRowWriteClamps, RingPlacementWrite, LineSetupWrites, OwnedSetupWrites, LineOnCommands, LineOffCommand, SendBreakAndUnknown, AnswerbackAndModeCommands and PrintCommands, each clause of which has no other hypothesis. -/
theorem witness_HostWrites : portFree ready ∧ commandFree ready := by unfold portFree commandFree; decide

/-- RX-LEVEL and PRINT-FAULT are requested, and PRINT-FAULT is the highest. -/
theorem witness_AttentionReadTakes :
    (let s := ready.onAttention fun a => { a with flags := 0x014#10, masks := 0 }
     portFree s ∧ s.attention.eligible .printFault = true ∧
      ∀ b ∈ attentionOrder, s.attention.eligible b = true →
        (s.attention.urgent.getLsbD b.bit = true → s.attention.urgent.getLsbD AttentionSource.printFault.bit = true) ∧
        (s.attention.urgent.getLsbD b.bit = s.attention.urgent.getLsbD AttentionSource.printFault.bit →
          AttentionSource.printFault.code ≤ b.code)) ∧
    (∀ a ∈ attentionOrder, ready.attention.eligible a = false) := by unfold portFree; decide

theorem witness_ServiceEndPops :
    (let s := ready.onAttention fun a => { a with stack := [.urgent, .normal] }
     portFree s ∧ s.attention.stack = [.urgent, .normal]) := by unfold portFree; decide

theorem witness_SetupWriteReadsBack :
    portFree ready ∧ (Instr.setupWrite 0x3F#6 0xFF#8).wellFormed = true ∧
      (Instr.setupWrite 0x01#6 0x00#8).wellFormed = true := by unfold portFree; decide

/-- The last byte of a locked answerback region, the last of a locked key map, and a command write while RESTART runs. -/
theorem witness_WithheldWrites :
    (let s := { ready with
      passage := { ready.passage with answerbackLock := true, keymapLock := true }
      answerback := { ready.answerback with base := 0x2000#16, length := 32 }
      keyboard := { ready.keyboard with keymapBase := 0x3000#16 } }
     portFree s ∧ 0x201F < 256 * s.passage.page.toNat ∧ 0x30C3 < 256 * s.passage.page.toNat ∧
      (0x201F#16 - s.answerback.base).toNat < s.answerback.length ∧
      (0x30C3#16 - s.keyboard.keymapBase).toNat < 196) ∧
    (let s := { ready with command := ⟨0x0C#8, .running, some .restart⟩ }
     portFree s ∧ s.command.result = .running) := by unfold portFree; decide

theorem witness_WatchedCycles :
    (let s := (withRings ready).onRings fun r => { r with sendHead := 15, sendTail := 1, receiveHead := 1 }
     portFree s ∧ s.rings.sendSize ≠ 0 ∧
      judgeWrite (s.rings.sendBase + BitVec.ofNat 16 s.rings.sendHead) s = .passed true none ∧
      judgeWrite (s.keyboard.keymapBase + 3) s = .passed false (some .lock) ∧ s.rings.receiveSize ≠ 0 ∧
      0 < s.rings.receiveOccupancy ∧
      controlOffset s.passage.page (s.rings.receiveBase + BitVec.ofNat 16 (2 * s.rings.receiveTail + 1)) = none) := by
  unfold portFree; decide

theorem witness_TabCommands : portFree ready ∧ commandFree ready ∧ tabsOrdered ready := by
  unfold portFree commandFree tabsOrdered; decide

/-- On a call, and in a home seek under way, which RESTART begins afresh. -/
theorem witness_RestartCommand :
    (portFree onCall ∧ commandFree onCall ∧ attentionSound onCall) ∧
    (let s := ready.onCarriage fun c => { c with state := .homeSeek, position := none, seekTimer := some 240 }
     portFree s ∧ commandFree s ∧ attentionSound s ∧ s.carriage.stopping = none) := by
  unfold portFree commandFree attentionSound; decide

theorem witness_ScanPassDecides :
    ready.keyboard.scanTimer.isSome = true ∧ keyboardSound ready ∧ ready.keyboard.queue.length ≤ 8 := by
  unfold keyboardSound; decide

/-- A header load, and the last eligibility read of a pass. -/
theorem witness_KeymapReadsComplete :
    (let s := granted (.headerLoad 0x3000#16 false) ready
     s.arbiter.grant = some (.headerLoad 0x3000#16 false) ∧ s.arbiter.held = none) ∧
    (let s := granted (.eligibility 63 0x3043#16)
        (ready.onKeyboard fun k => { k with eligibility := [⟨[⟨63, false⟩], [2]⟩] })
     s.arbiter.grant = some (.eligibility 63 0x3043#16) ∧ s.arbiter.held = none ∧
      s.keyboard.eligibility = [⟨[⟨63, false⟩], [2]⟩]) := by decide

theorem witness_RepeatAndFeedWait :
    (let s := ready.onKeyboard fun k => { k with repeatKey := some 5, repeatTimer := some 500 }
     s.keyboard.repeatTimer.isSome = true ∧ keyboardSound s ∧ s.keyboard.repeatKey = some 5) ∧
    (let s := { (keyed ready).onCarriage fun c => { c with queue := List.replicate 47 .feed } with translator := .feedWait }
     s.translator = .feedWait ∧ s.carriage.queue.length < 48 ∧ placeFallsTo .feed s = true) ∧
    (let s := { (keyed ready).onCarriage fun c => { c with queue := List.replicate 48 .feed } with translator := .feedWait }
     48 ≤ s.carriage.queue.length ∧ after .feedAppend s = s) := by
  unfold keyboardSound; decide

/-- A character, a blank and a local function at the ends of their ranges, and a discarded read. -/
theorem witness_TranslationClassifies :
    (let s := granted (.translation 0x3004#16 false) (keyed ready)
     s.arbiter.grant = some (.translation 0x3004#16 false) ∧ s.arbiter.held = none ∧
      s.keyboard.queue = ⟨0, false, false, false⟩ :: []) ∧
    (0x7F#8).toNat < 0x80 ∧ 0x89 ≤ (0x89#8).toNat ∧
    (let s := granted (.translation 0x3004#16 true) ready
     s.arbiter.grant = some (.translation 0x3004#16 true) ∧ s.arbiter.held = none) := by decide

/-- The functions at the ends of their range, and FEED with the last place free and with none. -/
theorem witness_LocalFunctionsAct :
    (let s := granted (.translation 0x3004#16 false) (keyed ready)
     s.arbiter.grant = some (.translation 0x3004#16 false) ∧ s.arbiter.held = none ∧ s.keyboard.queue ≠ []) ∧
    (0x80 ≤ (0x80#8).toNat ∧ (0x88#8).toNat ≤ 0x88 ∧ 0x88#8 ≠ 0x86#8) ∧
    (let s (n : Nat) := (granted (.translation 0x3004#16 false) (keyed ready)).onCarriage fun c =>
      { c with queue := List.replicate n .feed }
     (s 47).carriage.queue.length = 47 ∧ (s 48).carriage.queue.length = 48 ∧
      (after (.translationRead 0x86#8) (s 47)).carriage.queue.length = 48 ∧
      (after (.translationRead 0x86#8) (s 48)).translator = .feedWait) := by decide

/-- A call with LINE-OUT and PRINT joined in every row, a key's character and a send byte on offer. -/
def offeringCall : State :=
  { keyed (withRings onCall) with
    translator := .offering 0x41#8
    rings := { (withRings onCall).rings with sendHead := 1, prefetched := some 0x42#8 }
    switch := { onCall.switch with
      keyboard := ⟨true, true, true⟩, sendRing := ⟨true, true, false⟩, answerback := ⟨true, true, false⟩ } }

/-- The last byte of an answerback is on offer too. -/
def answeringCall : State :=
  offeringCall.onAnswerback fun a => { a with running := true, remaining := 1, prefetched := some 0x43#8 }

theorem lineOutFree_offeringCall : lineOutFree offeringCall := (lineOutOpen_iff _).mp (by decide)

theorem lineOutFree_answeringCall : lineOutFree answeringCall := (lineOutOpen_iff _).mp (by decide)

/-- Each source with every blocking sink of its row ready: the send byte with the pointer naming it, the keyboard with the pointer naming it, and the answerback alone. -/
theorem witness_Takes :
    (let s := offeringCall
     s.translator = .offering 0x41#8 ∧ s.keyboard.queue ≠ [] ∧ s.switch.keyboard.print = true ∧
      s.carriage.queue.length < 48 ∧ placeFallsTo .keyboard s = true ∧ lineOutAdmitsKeyboard s) ∧
    (let s := offeringCall.onSwitch fun c => { c with roundRobin := .sendRing }
     s.rings.prefetched = some 0x42#8 ∧ sendRingSound s ∧ s.switch.sendRing.print = true ∧
      s.carriage.queue.length < 48 ∧ placeFallsTo .sendRing s = true ∧ lineOutAdmitsSendRing s) ∧
    (let s := answeringCall
     s.answerback.prefetched = some 0x43#8 ∧ answerbackSound s ∧ s.switch.answerback.print = true ∧
      s.carriage.queue.length < 48 ∧ placeFallsTo .answerback s = true ∧
      lineOutAdmits s.switch.answerback (answerbackHoldsLine s) s) := by
  refine ⟨⟨rfl, by decide, rfl, by decide, by decide,
      fun _ _ => ⟨lineOutFree_offeringCall, fun h => absurd h.1 (by decide), fun _ => rfl⟩⟩,
    ⟨rfl, ?_, rfl, by decide, by decide, fun _ _ => ⟨lineOutFree_offeringCall, ?_, fun _ => rfl⟩⟩,
    ⟨rfl, ?_, rfl, by decide, by decide, fun _ _ => ⟨lineOutFree_answeringCall, rfl, rfl⟩⟩⟩
  · exact ⟨by decide, by decide, by decide, by decide, by decide, by decide, trivial⟩
  · exact fun h => absurd h.1 (by decide)
  · unfold answerbackSound; decide

/-- Sources that wait: the pointer naming the other one, a full slot, the queue full, and a running answerback that holds LINE-OUT. -/
theorem witness_Takes_waiting :
    ¬ lineOutAdmitsSendRing offeringCall ∧
    (let s := answeringCall.onTransmitter fun t => { t with slot := .character 0x44#8 }
     ¬ lineOutAdmits s.switch.answerback (answerbackHoldsLine s) s ∧ after (.take .answerback) s = s) ∧
    (let s := offeringCall.onCarriage fun c => { c with queue := List.replicate 48 .feed }
     ¬ s.carriage.queue.length < 48 ∧ after (.take .keyboard) s = s) ∧
    ¬ lineOutAdmitsKeyboard answeringCall := by
  refine ⟨fun h => ?_, ⟨fun h => ?_, by decide⟩, by decide, fun h => ?_⟩
  · exact absurd ((h rfl (.inl rfl)).2.2 ⟨⟨_, rfl⟩, rfl, fun _ => by decide⟩) (by decide)
  · exact absurd (h rfl (.inl rfl)).1.1 (by decide)
  · exact (h rfl (.inl rfl)).2.1 ⟨rfl, rfl⟩

/-- R6: a key's character that finds the queue full begins to wait, later than the send byte that waits already; a place that comes free falls to the send byte, and two could fill it. -/
theorem witness_DemandJudgement :
    (let s := (twoWaiters 48).onSwitch fun c => { c with printWaits := ⟨none, some 1, none, none⟩ }
     waits .keyboard s ∧ goesToPrint .keyboard s ∧ waits .sendRing s ∧ ¬ waits .feed s ∧
      (settle s).switch.printWaits = ⟨some 2, some 1, none, none⟩) ∧
    (let s := (twoWaiters 47).onSwitch fun c => { c with freedPlace := true }
     s.carriage.queue.length < 48 ∧ couldFill .keyboard s ∧ couldFill .sendRing s ∧
      placeFallsTo .keyboard s = false ∧ placeFallsTo .sendRing s = true) := by
  refine ⟨⟨⟨_, rfl⟩, rfl, nofun, nofun, by decide⟩, by decide, ⟨⟨_, rfl⟩, rfl, ?_⟩, ⟨nofun, rfl, ?_⟩, by decide, by decide⟩
  · intro _ h; exact absurd h (by decide)
  · intro _ h; exact absurd h (by decide)

/-- LISTEN with E at the on-threshold, and QUALIFY and DATA with E below the off-threshold. -/
theorem witness_CarrierChanges :
    (let s := ready.onReceiver fun r => { r with line := .listen, listenTimer := some 30000, history := [], onThreshold := 7 }
     receiverSound s ∧ s.receiver.line ≠ .idle ∧ s.receiver.carrier = false ∧
      s.receiver.onThreshold.toNat = sampleE 0xFF#8 s ∧ heardBy s ⟨⟨0x00#8, .mark⟩, ⟨0xFF#8, .mark⟩⟩ = ⟨0xFF#8, .mark⟩) ∧
    (let s := onCall.onReceiver fun r => { r with offThreshold := 1 }
     receiverSound s ∧ s.receiver.line ≠ .idle ∧ s.receiver.carrier = true ∧ sampleE 0x00#8 s < offThreshold s ∧
      heardBy s ⟨⟨0xFF#8, .mark⟩, ⟨0x00#8, .space⟩⟩ = ⟨0x00#8, .space⟩) := by
  unfold receiverSound; decide

theorem witness_SamplesAndVotes :
    ready.receiver.line = .idle ∧
    (let s := ready.onReceiver fun r => { r with line := .listen, history := [] }
     s.receiver.line ≠ .idle ∧ s.receiver.carrier = false ∧ sampleE 0x00#8 s < s.receiver.onThreshold.toNat ∧
      s.receiver.line ≠ .data ∧ heardBy s ⟨⟨0xFF#8, .mark⟩, ⟨0x00#8, .mark⟩⟩ = ⟨0x00#8, .mark⟩) ∧
    (let p : FrameProgress := ⟨0, 8, [.space, .mark], [], false⟩
     let s := onCall.onReceiver fun r => { r with framer := .frame p }
     s.receiver.line = .data ∧ s.receiver.carrier = true ∧ offThreshold s ≤ sampleE 0x00#8 s ∧
      s.receiver.formatCode ≤ 7 ∧ s.receiver.framer = .frame p ∧ ¬ (p.bit = 9 ∧ p.sample = 15) ∧
      p.votes.length = p.bit ∧ p.early.length = 2) := by decide

/-- The frame of "U" at sample 15 of its stop bit. -/
def frameOfU : FrameProgress :=
  ⟨9, 15, [.mark, .mark], [.space, .mark, .space, .mark, .space, .mark, .space, .mark, .space, .mark], false⟩

/-- A frame whose every bit voted space, at the same sample. -/
def frameOfBreak : FrameProgress := ⟨9, 15, [.space, .space], List.replicate 10 .space, false⟩

theorem witness_FrameReceived :
    (let s := onCall.onReceiver fun r => { r with framer := .frame frameOfU }
     s.receiver.line = .data ∧ s.receiver.carrier = true ∧ offThreshold s ≤ sampleE 0x00#8 s ∧
      s.receiver.formatCode ≤ 7 ∧ s.receiver.framer = .frame frameOfU ∧ atFrameEnd frameOfU ∧ ¬ allSpace frameOfU ∧
      carries 0x55#8 s.receiver.formatCode frameOfU ∧
      heardBy s ⟨⟨0xFF#8, .space⟩, ⟨0x00#8, .mark⟩⟩ = ⟨0x00#8, .mark⟩) := by unfold atFrameEnd allSpace carries; decide

theorem witness_ReceivedBreak :
    (let s := onCall.onReceiver fun r => { r with framer := .frame frameOfBreak }
     s.receiver.line = .data ∧ s.receiver.carrier = true ∧ offThreshold s ≤ sampleE 0x00#8 s ∧
      s.receiver.formatCode ≤ 7 ∧ s.receiver.framer = .frame frameOfBreak ∧ atFrameEnd frameOfBreak ∧
      allSpace frameOfBreak ∧ heardBy s ⟨⟨0xFF#8, .mark⟩, ⟨0x00#8, .space⟩⟩ = ⟨0x00#8, .space⟩) := by unfold atFrameEnd allSpace; decide

/-- SamplesAndVotes, the samples that a row names: the carrier becoming present and absent, the end of a frame and the end of a break. -/
theorem witness_SamplesAndVotes_named :
    (let s := ready.onReceiver fun r => { r with line := .listen, history := [], onThreshold := 7 }
     heardBy s ⟨⟨0x00#8, .mark⟩, ⟨0xFF#8, .mark⟩⟩ = ⟨0xFF#8, .mark⟩ ∧ s.receiver.line ≠ .idle ∧
      s.receiver.carrier = false ∧ s.receiver.onThreshold.toNat ≤ sampleE 0xFF#8 s) ∧
    (let s := onCall.onReceiver fun r => { r with offThreshold := 1 }
     heardBy s ⟨⟨0xFF#8, .mark⟩, ⟨0x00#8, .space⟩⟩ = ⟨0x00#8, .space⟩ ∧ s.receiver.line ≠ .idle ∧
      s.receiver.carrier = true ∧ sampleE 0x00#8 s < offThreshold s) ∧
    (let s := onCall.onReceiver fun r => { r with framer := .frame frameOfU }
     heardBy s ⟨⟨0xFF#8, .space⟩, ⟨0x00#8, .mark⟩⟩ = ⟨0x00#8, .mark⟩ ∧ s.receiver.line = .data ∧
      s.receiver.carrier = true ∧ offThreshold s ≤ sampleE 0x00#8 s ∧ s.receiver.formatCode ≤ 7 ∧
      s.receiver.framer = .frame frameOfU ∧ atFrameEnd frameOfU ∧ ¬ allSpace frameOfU) ∧
    (let s := onCall.onReceiver fun r => { r with framer := .frame frameOfBreak }
     heardBy s ⟨⟨0xFF#8, .mark⟩, ⟨0x00#8, .space⟩⟩ = ⟨0x00#8, .space⟩ ∧ s.receiver.line = .data ∧
      s.receiver.carrier = true ∧ offThreshold s ≤ sampleE 0x00#8 s ∧ s.receiver.formatCode ≤ 7 ∧
      s.receiver.framer = .frame frameOfBreak ∧ atFrameEnd frameOfBreak ∧ allSpace frameOfBreak) := by
  unfold atFrameEnd allSpace; decide

theorem witness_LineTimers :
    (let s := ready.onReceiver fun r =>
      { r with line := .qualify, carrier := true, listenTimer := some 30000, qualifyTimer := some 600 }
     s.receiver.line = .qualify ∧ receiverSound s ∧ offCallQuiet s) ∧
    (let s := onCall.onReceiver fun r => { r with line := .fade, carrier := false, fadeTimer := some 400 }
     s.receiver.line = .fade ∧ receiverSound s) := by unfold receiverSound offCallQuiet; decide

theorem witness_BitBoundaries :
    ready.transmitter.boundaryDue = false ∧
    (let s := (due .markIdle onCall).onTransmitter fun t => { t with slot := .character 0x41#8 }
     s.transmitter.boundaryDue = true ∧ demandsJudged s ∧ s.transmitter.state = .markIdle ∧
      s.transmitter.slot ≠ .empty ∧ s.transmitter.breakPending = false) ∧
    (let s := (due .sending onCall).onTransmitter fun t => { t with shifter := some ⟨frameBits 0 0x41#8, 9⟩ }
     s.transmitter.boundaryDue = true ∧ demandsJudged s ∧ s.transmitter.state = .sending ∧
      s.transmitter.shifter = some ⟨frameBits 0 0x41#8, 9⟩ ∧ (frameBits 0 0x41#8).length ≤ 9 + 1) ∧
    (8 + 1 < (frameBits 0 0x41#8).length ∧ (due (.postBreak 0) onCall).transmitter.state = .postBreak 0 ∧
      (due (.postBreak 1) onCall).transmitter.state = .postBreak 1 ∧
      (due .breaking onCall).transmitter.state = .breaking) ∧
    (let s := (due .sending onCall).onTransmitter fun t =>
        { t with shifter := some ⟨frameBits 0 0x41#8, 9⟩, breakPending := true }
     s.transmitter.boundaryDue = true ∧ frameCloses s = true ∧ s.transmitter.breakPending = true) ∧
    (let s := (due (.postBreak 2) onCall).onTransmitter fun t => { t with slot := .character 0x41#8 }
     s.transmitter.boundaryDue = true ∧ s.transmitter.state = .postBreak 2 ∧ s.transmitter.breakPending = false ∧
      s.transmitter.slot ≠ .empty) := by unfold demandsJudged; decide

theorem witness_Breaks :
    (let s := (due .markIdle onCall).onTransmitter fun t => { t with breakPending := true }
     s.transmitter.boundaryDue = true ∧ demandsJudged s ∧ s.transmitter.state = .markIdle ∧
      s.transmitter.breakPending = true) ∧
    (let s := (due .breaking onCall).onTransmitter fun t => { t with breakTimer := some 250 }
     s.transmitter.state = .breaking ∧ s.transmitter.breakTimer.isSome = true) ∧
    (let s := due (.postBreak 2) onCall
     s.transmitter.boundaryDue = true ∧ demandsJudged s ∧ s.transmitter.state = .postBreak 2 ∧
      s.transmitter.breakPending = false) := by unfold demandsJudged; decide

theorem witness_FlowCodeAndTimers :
    (let s := onCall.onTransmitter fun t => { t with flowRequest := some .pause }
     s.transmitter.flowRequest = some .pause ∧ s.transmitter.slot = .empty ∧ demandsJudged s) ∧
    (onCall.onFlow fun f => { f with remotePause := true, remotePauseTimer := some 30000 }).flow.remotePauseTimer.isSome = true ∧
    (requestSound .bell ready).tones.sounderTimer.isSome = true := by unfold demandsJudged; decide

theorem witness_SynthesisSample : ready.passage.startUp ≠ .holding ∧ State.reset.passage.startUp = .holding := by decide

theorem witness_EntryHandling :
    (let s := ready.onCarriage fun c => { c with position := some 80, queue := [.errorGlyph, .feed] }
     s.carriage.queue = .errorGlyph :: [.feed] ∧ s.carriage.state = .ready ∧ s.carriage.position = some 80) := by decide

/-- A carriage in an operation at cell 5. -/
def operating (state : CarriageState) : State :=
  ready.onCarriage fun c => { c with state := state, position := some 5, target := 6, pending := [.feed] }

theorem witness_OperationEnds :
    ((operating .moving).carriage.state = .moving ∧ carriageSound (operating .moving)) ∧
    ((operating .returning).carriage.state = .returning ∧ carriageSound (operating .returning)) ∧
    ((operating .feeding).carriage.state = .feeding ∧ carriageSound (operating .feeding)) := by
  refine ⟨⟨rfl, ?_⟩, ⟨rfl, ?_⟩, rfl, ?_⟩ <;> (unfold carriageSound; decide)

theorem witness_PaperSensor :
    (ready.pins.paper = true ∧ ready.passage.startUp = .released) ∧
    (ready.onPins fun p => { p with paper := false }).pins.paper = false ∧
    (let s := ready.onCarriage fun c => { c with state := .halted, paper := true, paperTimer := some 2000 }
     s.carriage.paperTimer.isSome = true ∧ carriageSound s ∧ s.carriage.state = .halted) := by
  unfold carriageSound; decide

theorem witness_HomeSeek :
    (let s := ready.onCarriage fun c => { c with state := .homeSeek, position := none, stopping := some .moving }
     s.carriage.state = .homeSeek ∧ s.carriage.stopping.isSome = true ∧ s.dot.state = .idle) ∧
    (let s := ready.onCarriage fun c => { c with state := .homeSeek, position := none, seekTimer := some 240 }
     s.carriage.state = .homeSeek ∧ s.carriage.seekTimer.isSome = true ∧ s.carriage.pending = []) := by decide

theorem witness_GlyphFetchAndBackStep :
    (let s := granted (.glyph 0x1000#16 false)
        (ready.onDot fun d => { d with state := .settle, glyph := .requested, column := 1, columnTimer := some 5000 })
     s.arbiter.grant = some (.glyph 0x1000#16 false) ∧ s.arbiter.held = none ∧ s.dot.settleTimer = none ∧
      1 ≤ s.dot.inputs.budget ∧ ∀ op ∈ s.carriage.pending, op.mayFollow = true) ∧
    (ready.onDot fun d => { d with state := .backStep 5 }).dot.state = .backStep 5 := by decide

/-- A full column and an empty one whose column timer has expired, and the last release of a column 6 after its expiry. -/
theorem witness_ColumnFiring :
    (let s (pattern : Rows) (timer : Timer) := (operating .printing).onDot fun d =>
      { d with state := .settle, glyph := .held pattern 0 0 0 0, column := 1, columnTimer := timer, settleTimer := some 300 }
     ∀ x ∈ [s 0x7F#7 (some 5000), s 0 none], x.dot.state = .settle ∧ x.dot.settleTimer.isSome = true ∧
      1 ≤ x.dot.inputs.budget ∧ ∀ op ∈ x.carriage.pending, op.mayFollow = true) ∧
    (let s (column : Nat) (timer : Timer) := (operating .printing).onDot fun d =>
      { d with
        state := .firing, column := column, strobes := 0b1000000#7, history := 0b1000000#7, freshWidth := 679
        warmWidth := 509, columnTimer := timer }
     ∀ x ∈ [s 1 (some 5000), s 5 none, s 6 none], x.dot.state = .firing ∧ x.dot.strobes.getLsbD (6 : Fin 7) = true ∧
      (∀ other : Fin 7, x.dot.strobes.getLsbD other = true →
        rowWidth x.dot.freshWidth x.dot.warmWidth x.dot.history ((6 : Fin 7) + 1) ≤
          rowWidth x.dot.freshWidth x.dot.warmWidth x.dot.history (other + 1)) ∧
      ∀ op ∈ x.carriage.pending, op.mayFollow = true) ∧
    (let s := ready.onDot fun d => { d with state := .firing, groups := [0x70#7] }
     s.dot.state = .firing ∧ s.dot.strobes = 0 ∧ s.dot.groups = 0x70#7 :: []) := by decide

theorem witness_ColumnTimerExpiry :
    (let s := (operating .printing).onDot fun d =>
      { d with state := .dwell, column := 6, columnTimer := some 5000, glyph := .held 0 0 0 0 0 }
     s.dot.columnTimer.isSome = true ∧ (s.dot.state = .dwell → s.carriage.state = .printing) ∧ carriageSound s) := by
  unfold carriageSound; decide

/-- A firing that RESTART lets finish while the carriage is in HOME-SEEK. -/
theorem witness_ColumnTimerExpiry_stopping :
    (let s := after .restart ((operating .printing).onDot fun d =>
      { d with state := .firing, column := 3, strobes := 1, columnTimer := some 5000, glyph := .held 0 0 1 0 0 })
     s.dot.columnTimer.isSome = true ∧ s.dot.state = .firing ∧ s.dot.stopping = true ∧
      s.carriage.state = .homeSeek ∧ carriageSound s) := by
  unfold carriageSound; decide

theorem witness_SensorReading : ready.sensor.sampleTimer.isSome = true ∧ carriageSound ready := by
  unfold carriageSound; decide

theorem witness_GrantStart :
    (let s := ready.onArbiter fun a => { a with keymap := .waiting, keymapQueue := [.headerLoad], sendRing := .overdue }
     s.arbiter.grant = none ∧ s.arbiter.held = none ∧ grantLive .receiveWriter s = false ∧
      s.arbiter.receiveWriter = .absent ∧ s.arbiter.keymapQueue ≠ [] ∧ s.arbiter.wait .keymap = .waiting) := by decide

/-- The grants of the Ring Unit and the Answerback Unit, one of them discarded. -/
theorem witness_RingGrants :
    (let record := plainRecord .breakMarker 0x00#8
     let s := granted (.placement 0x4000#16 0x84#8 0x00#8 false) ((withRings ready).onRings fun r => { r with staged := [record] })
     s.arbiter.grant = some (.placement 0x4000#16 0x84#8 0x00#8 false) ∧ s.arbiter.held = none ∧
      s.rings.staged = record :: []) ∧
    (let s := granted (.placement 0x4000#16 0x84#8 0x00#8 true) ready
     s.arbiter.grant = some (.placement 0x4000#16 0x84#8 0x00#8 true) ∧ s.arbiter.held = none) ∧
    (let s := granted (.send 0x5000#16 true) ready
     s.arbiter.grant = some (.send 0x5000#16 true) ∧ s.arbiter.held = none ∧ s.passage.startUp = .released) ∧
    (granted (.answerback 0x2000#16 false) ready).arbiter.grant = some (.answerback 0x2000#16 false) := by decide

/-- A write that passes through the free port, one held by a grant, one held for the send ring's overdue request, and the end of the grant that holds it. -/
theorem witness_RingGrants_held :
    (let cycle := HostCycle.write 0xFE03#16 0xFF#8 (.control 0x03#6)
     let overdue := ready.onArbiter fun a => { a with sendRing := .overdue }
     let holding := (granted (.send 0x5000#16 false) ready).onArbiter fun a => { a with held := some cycle }
     (hostCycleOf (.statusWrite 0xFF#8) ready = some cycle ∧ portFree ready) ∧
     (hostCycleOf (.statusWrite 0xFF#8) (granted (.send 0x5000#16 false) ready) = some cycle) ∧
     (hostCycleOf (.statusWrite 0xFF#8) overdue = some cycle ∧ overdue.passage.startUp = .released ∧
      overdue.arbiter.held = none ∧ overdue.arbiter.grant = none ∧ overdue.arbiter.wait .sendRing = .overdue ∧
      overdue.arbiter.receiveWriter = .absent ∧ overdue.arbiter.keymap = .absent) ∧
     (completesGrant (.sendFetch 0x41#8) (.send 0x5000#16 false) = true ∧
      holding.arbiter.grant = some (.send 0x5000#16 false) ∧ holding.arbiter.held = some cycle)) := by
  unfold portFree; decide

/-- The group of GroupDuration and the budgets of DotGroups. -/
theorem witness_Columns : (0b0000001#7 : Rows) ≠ 0 ∧ 1 ≤ 7 ∧ 7 ≤ 7 := by decide

/-- Every step's invariant holds of a call with a command at the front of the queue, which takes a next state. -/
def calling : State := { onCall with pending := [.lineOff] }

theorem witness_Invariants :
    (attentionSound calling ∧ setupInRange calling ∧ queuesBounded calling ∧ receiveRingSound calling ∧
      sendRingSound calling ∧ answerbackSound calling) ∧
    (startUpSound calling ∧ receiverSound calling ∧ offCallQuiet calling ∧ transmitterSound calling) ∧
    (tabsOrdered calling ∧ carriageSound calling ∧ keyboardSound calling ∧ demandsJudged calling ∧
      sounderSound (requestSound .bell calling) ∧ freedPlaceSound calling ∧ flowFollowsDemand calling) ∧
    (match step calling with
      | .next t => decide (t.receiver.line = .idle)
      | _ => false) = true := by
  refine ⟨⟨?_, ?_, ?_, ?_, ?_, ?_⟩, ⟨⟨?_, ?_, ?_⟩, ?_, ?_, ?_⟩, ⟨?_, ?_, ?_, ?_, ?_, ?_, ?_⟩, ?_⟩
  · unfold attentionSound; decide
  · unfold setupInRange; decide
  · unfold queuesBounded; decide
  · unfold receiveRingSound; decide
  · exact ⟨by decide, by decide, by decide, by decide, by decide, by decide, trivial⟩
  · unfold answerbackSound; decide
  · decide
  · decide
  · exact fun h => absurd rfl h
  · unfold receiverSound; decide
  · unfold offCallQuiet; decide
  · unfold transmitterSound; decide
  · unfold tabsOrdered; decide
  · unfold carriageSound; decide
  · unfold keyboardSound; decide
  · unfold demandsJudged; decide
  · unfold sounderSound; decide
  · unfold freedPlaceSound; decide
  · unfold flowFollowsDemand; decide
  · decide

/-- R99, R100: off a call, with more entries queued than the print demand takes, nothing is held; the entry to DATA raises the demand and asks for the pause code. -/
theorem witness_DemandsInvariant :
    (let s := { ready with
        receiver := { ready.receiver with
          line := .qualify, carrier := true, qualifyTimer := some 600
          options := { ready.receiver.options with outboundFlow := true } }
        carriage := { ready.carriage with state := .halted, queue := List.replicate 40 .feed }
        switch := { ready.switch with lineIn := ⟨false, true, false⟩ }
        pending := [.qualifyExpiry] }
     offCallQuiet s ∧ flowFollowsDemand s ∧ demandsJudged s ∧
      (match step s with
        | .next t => decide (t.flow.printDemand = true ∧ t.flow.state = .pausePending)
        | _ => false) = true) := by
  unfold offCallQuiet flowFollowsDemand demandsJudged; decide

/-- The parts of those invariants that quantify over what the state holds. -/
theorem witness_Invariants_rest :
    framerSound calling ∧ flowSound calling ∧ firingSound calling ∧ strobesSound calling := by
  refine ⟨⟨by decide, fun p h => (nomatch h)⟩, ⟨by decide, by decide, fun c h => (nomatch h), fun c h => (nomatch h)⟩,
    ⟨by decide, by decide, fun h => (nomatch h)⟩, ?_⟩
  unfold strobesSound; decide

end Sys2Proof.Tests
end

namespace Sys2Proof.Machine

/-! ## What the queues, the rings and the Answerback Unit hold

The invariants of the queues, the rings and the Answerback Unit speak of a small part of the state. `stores` names that part, `StoreMove` lists every change that an event can make to it, each with the guard under which the event makes it, and `step_evolves` says that a step is a sequence of such changes. Each invariant is then one case split over `StoreMove`. -/

/-- The part of the state that the invariants of the queues, the rings and the Answerback Unit speak of: of the arbiter only which of the three grants that carry their data is live, and the waits of the two fetches. -/
structure Stores where
  rings : Rings
  keyEvents : Nat
  entries : Nat
  freedPlace : Bool
  answerback : AnswerbackUnit
  deferred : Option Row
  placing : Bool
  fetching : Bool
  reading : Bool
  sendWait : Wait
  answerbackWait : Wait
  held : Option HostCycle

def stores (s : State) : Stores where
  rings := s.rings
  keyEvents := s.keyboard.queue.length
  entries := s.carriage.queue.length
  freedPlace := s.switch.freedPlace
  answerback := s.answerback
  deferred := s.switch.deferred
  placing := grantLive .receiveWriter s
  fetching := grantLive .sendRing s
  reading := grantLive .answerback s
  sendWait := s.arbiter.sendRing
  answerbackWait := s.arbiter.answerback
  held := s.arbiter.held

/-- R160: the cycle is a host write that was judged a head write. -/
def HostCycle.isHeadWrite : HostCycle → Bool
  | .write _ _ (.passed true _) => true
  | _ => false

/-- The changes that an event can make to the stores, each with the guard under which it is made. -/
inductive StoreMove : Stores → Stores → Prop
  -- the print queue (R119, R121, R133) and the key queue (R34)
  | append (v) : v.entries < 48 → StoreMove v { v with entries := v.entries + 1, freedPlace := false }
  | consume (v) (n : Nat) (contested : Bool) : v.entries = n + 1 →
      StoreMove v { v with entries := n, freedPlace := decide (v.entries = 48) && contested }
  | flush (v) : StoreMove v { v with entries := 0, freedPlace := false }
  | joinKey (v) : v.keyEvents < 8 → StoreMove v { v with keyEvents := v.keyEvents + 1 }
  | leaveKey (v) (n : Nat) : n ≤ v.keyEvents → StoreMove v { v with keyEvents := n }
  -- the rings (R14 to R25)
  | setLevels (v) (mark : Bool) (notify room : Nat) :
      StoreMove v { v with rings := { v.rings with lossMark := mark, notifyLevel := notify, roomLevel := room } }
  | stage (v) (record : ReceiveRecord) : v.rings.accepts = true →
      StoreMove v { v with rings := { v.rings with staged := v.rings.staged ++ [record], lossMark := false } }
  | placed (v) : v.placing = true →
      StoreMove v { v with
        rings := { v.rings with
          receiveHead := ringNext v.rings.receiveHead (ringSlots v.rings.receiveSize), staged := v.rings.staged.tail }
        placing := false, fetching := false, reading := false }
  | consumeRecord (v) : 0 < v.rings.receiveOccupancy →
      StoreMove v { v with rings := { v.rings with
        receiveTail := ringNext v.rings.receiveTail (ringSlots v.rings.receiveSize) } }
  | placeReceive (v) (base : Addr) (size : Nat) : receiveIdle v.rings = true → (v.rings.receiveSize ≤ 4 → size ≤ 4) →
      StoreMove v { v with rings := { v.rings with
        receiveBase := base, receiveSize := size, receiveHead := 0, receiveTail := 0, lossMark := false } }
  | placeSend (v) (base : Addr) (size : Nat) : sendIdle v.rings = true → v.held = none →
      (v.rings.sendSize ≤ 5 → size ≤ 5) →
      StoreMove v { v with rings := { v.rings with
        sendBase := base, sendSize := size, sendHead := 0, sendTail := 0 } }
  | capture (v) : v.rings.sendSize ≠ 0 ∨ (v.held.any HostCycle.isHeadWrite) = true →
      ringNext v.rings.sendHead (ringSlots v.rings.sendSize) ≠ v.rings.sendTail →
      StoreMove v { v with
        rings := { v.rings with sendHead := ringNext v.rings.sendHead (ringSlots v.rings.sendSize) }, held := none }
  | fetched (v) (data : Byte) : v.fetching = true →
      StoreMove v { v with
        rings := { v.rings with prefetched := some data }, placing := false, fetching := false, reading := false }
  | takeSend (v) : v.rings.prefetched ≠ none →
      StoreMove v { v with rings := { v.rings with
        sendTail := ringNext v.rings.sendTail (ringSlots v.rings.sendSize), prefetched := none } }
  | clearRings (v) :
      StoreMove v { v with
        rings := { v.rings with
          receiveHead := 0, receiveTail := 0, sendHead := 0, sendTail := 0, staged := [], lossMark := false
          prefetched := none }
        placing := false, fetching := false, sendWait := .absent }
  -- the Answerback Unit (R108 to R117)
  | setAnswerback (v) (base : Addr) (length : Nat) : (v.answerback.length ≤ 32 → length ≤ 32) →
      StoreMove v { v with answerback := { v.answerback with base := base, length := length } }
  | trigger (v) : v.answerback.running = false → v.answerback.length ≠ 0 →
      StoreMove v { v with answerback := { v.answerback with
        running := true, pointer := v.answerback.base, remaining := v.answerback.length, prefetched := none
        lastResult := .noResult } }
  | abort (v) : StoreMove v { v with
      answerback := { v.answerback with running := false, prefetched := none, lastResult := .aborted }
      deferred := none, reading := false, answerbackWait := .absent }
  | readDone (v) (data : Byte) : v.reading = true →
      StoreMove v { v with
        answerback := { v.answerback with prefetched := some data }
        placing := false, fetching := false, reading := false }
  | takeByte (v) : v.answerback.prefetched ≠ none → v.answerback.remaining - 1 ≠ 0 →
      StoreMove v { v with answerback := { v.answerback with
        prefetched := none, pointer := v.answerback.pointer + 1, remaining := v.answerback.remaining - 1 } }
  | takeLastByte (v) : v.answerback.prefetched ≠ none → v.answerback.remaining - 1 = 0 →
      StoreMove v { v with
        answerback := { v.answerback with
          prefetched := none, pointer := v.answerback.pointer + 1, remaining := v.answerback.remaining - 1
          running := false, lastResult := .complete }
        deferred := none }
  | deferRow (v) (row : Row) : v.answerback.running = true → StoreMove v { v with deferred := some row }
  -- the arbiter (R171 to R173)
  | askFetch (v) (w : Wait) :
      v.sendWait ≠ .absent ∨ (0 < v.rings.sendOccupancy ∧ v.rings.prefetched = none ∧ v.fetching = false) →
      StoreMove v { v with sendWait := w }
  | askRead (v) (w : Wait) :
      v.answerbackWait ≠ .absent ∨
        (v.answerback.running = true ∧ v.answerback.prefetched = none ∧ v.reading = false) →
      StoreMove v { v with answerbackWait := w }
  | otherGrant (v) : StoreMove v { v with placing := false, fetching := false, reading := false }
  | startPlacement (v) : v.rings.staged ≠ [] →
      StoreMove v { v with placing := true, fetching := false, reading := false }
  | startFetch (v) : v.sendWait ≠ .absent →
      StoreMove v { v with placing := false, fetching := true, reading := false, sendWait := .absent }
  | startRead (v) : v.answerbackWait ≠ .absent →
      StoreMove v { v with placing := false, fetching := false, reading := true, answerbackWait := .absent }
  | hold (v) (c : HostCycle) : (c.isHeadWrite = true → v.rings.sendSize ≠ 0) → StoreMove v { v with held := some c }
  | release (v) : StoreMove v { v with held := none }
  | reset (v) : StoreMove v (stores State.reset)

/-- The stores of `t` follow from those of `s` by the changes that events make. -/
def Evolves (s t : State) : Prop := Relation.ReflTransGen StoreMove (stores s) (stores t)

theorem Evolves.of_eq {s t : State} (h : stores t = stores s) : Evolves s t := by
  unfold Evolves; rw [h]

theorem Evolves.of_move {s t : State} {v : Stores} (h : StoreMove (stores s) v) (ht : stores t = v) : Evolves s t := by
  unfold Evolves; rw [ht]; exact .single h

theorem Evolves.refl (s : State) : Evolves s s := .of_eq rfl

theorem Evolves.trans {s t u : State} (h : Evolves s t) (h' : Evolves t u) : Evolves s u :=
  Relation.ReflTransGen.trans h h'

/-- A property that every change keeps is kept by any sequence of changes. -/
theorem Evolves.keeps {P : Stores → Prop} (hP : ∀ v w, StoreMove v w → P v → P w) {s t : State} (h : Evolves s t)
    (hs : P (stores s)) : P (stores t) := by
  have along : ∀ w, Relation.ReflTransGen StoreMove (stores s) w → P w := by
    intro w moves
    induction moves with
    | refl => exact hs
    | tail _ move ih => exact hP _ _ move ih
  exact along _ h

/-! ### Updates that leave the stores alone -/

/-- An operation that touches none of the six blocks that the stores are part of. -/
theorem stores_of_changesOnly {blocks : List Block} {s t : State} (h : changesOnly blocks s t)
    (hb : ∀ b ∈ blocks, b ∉ [Block.rings, .keyboard, .carriage, .switch, .answerback, .arbiter]) :
    stores t = stores s := by
  have same : ∀ b, b ∈ [Block.rings, .keyboard, .carriage, .switch, .answerback, .arbiter] → agreeOn b s t :=
    fun b hm => h b fun hl => hb b hl hm
  have rings : t.rings = s.rings := same .rings (by decide)
  have keyboard : t.keyboard = s.keyboard := same .keyboard (by decide)
  have carriage : t.carriage = s.carriage := same .carriage (by decide)
  have switch : t.switch = s.switch := same .switch (by decide)
  have answerback : t.answerback = s.answerback := same .answerback (by decide)
  have arbiter : t.arbiter = s.arbiter := same .arbiter (by decide)
  simp only [stores, grantLive, rings, keyboard, carriage, switch, answerback, arbiter]

section
variable (s : State)

@[simp] theorem stores_onPassage (f) : stores (s.onPassage f) = stores s := rfl
@[simp] theorem stores_onStatus (f) : stores (s.onStatus f) = stores s := rfl
@[simp] theorem stores_onPins (f) : stores (s.onPins f) = stores s := rfl
@[simp] theorem stores_onTranslator (f) : stores (s.onTranslator f) = stores s := rfl
@[simp] theorem stores_onReceiver (f) : stores (s.onReceiver f) = stores s := rfl
@[simp] theorem stores_onTransmitter (f) : stores (s.onTransmitter f) = stores s := rfl
@[simp] theorem stores_onTones (f) : stores (s.onTones f) = stores s := rfl
@[simp] theorem stores_onFlow (f) : stores (s.onFlow f) = stores s := rfl
@[simp] theorem stores_onDot (f) : stores (s.onDot f) = stores s := rfl
@[simp] theorem stores_onSensor (f) : stores (s.onSensor f) = stores s := rfl
@[simp] theorem stores_onCommand (f) : stores (s.onCommand f) = stores s := rfl
@[simp] theorem stores_onAttention (f) : stores (s.onAttention f) = stores s := rfl

@[simp] theorem stores_onKeyboard {f : Keyboard → Keyboard} (h : (f s.keyboard).queue = s.keyboard.queue) :
    stores (s.onKeyboard f) = stores s := by simp [stores, grantLive, h]

@[simp] theorem stores_onCarriage {f : Carriage → Carriage} (h : (f s.carriage).queue = s.carriage.queue) :
    stores (s.onCarriage f) = stores s := by simp [stores, grantLive, h]

@[simp] theorem stores_onSwitch {f : CharSwitch → CharSwitch}
    (h : (f s.switch).freedPlace = s.switch.freedPlace ∧ (f s.switch).deferred = s.switch.deferred) :
    stores (s.onSwitch f) = stores s := by simp [stores, grantLive, h.1, h.2]

@[simp] theorem stores_onArbiter {f : Arbiter → Arbiter}
    (h : (f s.arbiter).grant = s.arbiter.grant ∧ (f s.arbiter).sendRing = s.arbiter.sendRing ∧
      (f s.arbiter).answerback = s.arbiter.answerback ∧ (f s.arbiter).held = s.arbiter.held) :
    stores (s.onArbiter f) = stores s := by
  obtain ⟨grant, send, answerback, held⟩ := h
  simp [stores, grantLive, grant, send, answerback, held]

@[simp] theorem stores_raise (a : AttentionSource) : stores (raise a s) = stores s := rfl
@[simp] theorem stores_setTxDiscarded : stores (setTxDiscarded s) = stores s :=
  stores_of_changesOnly (setTxDiscarded_frame s) (by decide)
@[simp] theorem stores_setPrintOverrun : stores (setPrintOverrun s) = stores s :=
  stores_of_changesOnly (setPrintOverrun_frame s) (by decide)
@[simp] theorem stores_setRingLoss : stores (setRingLoss s) = stores s :=
  stores_of_changesOnly (setRingLoss_frame s) (by decide)
@[simp] theorem stores_setKeyLost : stores (setKeyLost s) = stores s :=
  stores_of_changesOnly (setKeyLost_frame s) (by decide)
@[simp] theorem stores_requestSound (r : Sound) : stores (requestSound r s) = stores s :=
  stores_of_changesOnly (requestSound_frame r s) (by decide)
@[simp] theorem stores_requestClick : stores (requestClick s) = stores s :=
  stores_of_changesOnly (requestClick_frame s) (by decide)
@[simp] theorem stores_endCommand (c : RunningCommand) (r : CommandResult) : stores (endCommand c r s) = stores s :=
  stores_of_changesOnly (endCommand_frame c r s) (by decide)
@[simp] theorem stores_clearRemotePause : stores (clearRemotePause s) = stores s := rfl
@[simp] theorem stores_setResult (r : CommandResult) : stores (setResult r s) = stores s := rfl

@[simp] theorem stores_settle : stores (settle s) = stores s := by
  have h := stores_of_changesOnly (judgeDemands_changesOnly s) (by decide)
  rw [← h]; rfl

@[simp] theorem stores_enqueueKeymap (r : KeymapRead) : stores (enqueueKeymap r s) = stores s :=
  stores_onArbiter s (by simp)

end

end Sys2Proof.Machine

namespace Sys2Proof.Machine

/-! ### What each shared operation can do to the stores -/

/-- Two states with the same stores evolve alike. -/
theorem Evolves.congr {s s' t t' : State} (h : Evolves s t) (hs : stores s' = stores s) (ht : stores t' = stores t) :
    Evolves s' t' := by unfold Evolves at h ⊢; rwa [hs, ht]

theorem Evolves.then_eq {s t u : State} (h : Evolves s t) (hu : stores u = stores t) : Evolves s u := h.congr rfl hu

theorem Evolves.from_eq {s t u : State} (h : Evolves t u) (ht : stores t = stores s) : Evolves s u := h.congr ht.symm rfl

theorem Evolves.ite {s a b : State} {c : Prop} [Decidable c] (ha : c → Evolves s a) (hb : ¬ c → Evolves s b) :
    Evolves s (if c then a else b) := by
  split
  · next h => exact ha h
  · next h => exact hb h

section
variable (s : State)

/-! #### Requests to the arbiter -/

/-- A request for any grant but the two fetches leaves the stores alone; one for a fetch starts its wait. -/
theorem requestGrant_evolves (r : Requester)
    (hsend : r = .sendRing → 0 < s.rings.sendOccupancy ∧ s.rings.prefetched = none ∧ grantLive .sendRing s = false)
    (hread : r = .answerback →
      s.answerback.running = true ∧ s.answerback.prefetched = none ∧ grantLive .answerback s = false) :
    Evolves s (requestGrant r s) := by
  rcases requestGrant_cases r s with ⟨_, h⟩ | ⟨_, h⟩ <;> rw [h]
  · cases r with
    | sendRing => exact .of_move (.askFetch _ .waiting (.inr (hsend rfl))) rfl
    | answerback => exact .of_move (.askRead _ .waiting (.inr (hread rfl))) rfl
    | _ => exact .of_eq rfl
  · exact .refl s

@[simp] theorem stores_requestGrant_font : stores (requestGrant .font s) = stores s := by
  unfold requestGrant; split <;> rfl

theorem requestPlacement_evolves : Evolves s (requestPlacement s) :=
  .ite (fun _ => requestGrant_evolves s _ nofun nofun) fun _ => .refl s

theorem requestSendFetch_evolves : Evolves s (requestSendFetch s) :=
  .ite (fun h => requestGrant_evolves s _ (fun _ => h) nofun) fun _ => .refl s

theorem requestAnswerbackRead_evolves : Evolves s (requestAnswerbackRead s) := by
  refine .ite (fun h => requestGrant_evolves s _ nofun fun _ => ?_) fun _ => .refl s
  obtain ⟨running, empty, _, live⟩ := h
  exact ⟨running, empty, live⟩

/-- Only one requester's grant runs, and no requester wants the data of a discarded grant. -/
theorem Grant.liveFor_discard (g : Grant) (r : Requester) : g.discard.liveFor r = false := by
  cases g <;> cases r <;> rfl

theorem Grant.liveFor_inj {g : Grant} {r r' : Requester} (h : g.liveFor r = true) (h' : g.liveFor r' = true) : r' = r := by
  cases g <;> cases r <;> cases r' <;> first | rfl | cases h | cases h'

/-- What the discarding of a requester's grant does to the grants that are live. -/
theorem grantLive_discardGrant (r r' : Requester) :
    grantLive r' (discardGrant r s) = if r' = r then false else grantLive r' s := by
  unfold discardGrant
  cases live : grantLive r s with
  | false =>
    rw [if_neg Bool.false_ne_true]
    split
    · next h => rw [h, live]
    · rfl
  | true =>
    unfold grantLive at live ⊢
    cases hg : s.arbiter.grant with
    | none => simp [hg] at live
    | some g =>
      have mine : g.liveFor r = true := by simpa [hg] using live
      have other : r' ≠ r → g.liveFor r' = false := fun ne => by
        by_contra h
        exact ne (Grant.liveFor_inj mine (by simpa using h))
      simp only [if_true, State.onArbiter_arbiter, hg, Option.map_some, Option.getD_some, Grant.liveFor_discard]
      split
      · rfl
      · next ne => exact (other ne).symm

theorem discardGrant_arbiter (r : Requester) :
    (discardGrant r s).arbiter = { s.arbiter with grant := (discardGrant r s).arbiter.grant } := by
  unfold discardGrant; split <;> rfl

/-- R172: an owner that drops what it asked of the arbiter has no request there and no live grant. -/
theorem stores_dropRequest (r : Requester) :
    stores (dropRequest r s) = { stores s with
      placing := if .receiveWriter = r then false else (stores s).placing
      fetching := if .sendRing = r then false else (stores s).fetching
      reading := if .answerback = r then false else (stores s).reading
      sendWait := if .sendRing = r then .absent else (stores s).sendWait
      answerbackWait := if .answerback = r then .absent else (stores s).answerbackWait } := by
  have frame := discardGrant_frame r (withdrawRequest r s)
  have rings : (dropRequest r s).rings = s.rings := frame .rings (by decide)
  have keyboard : (dropRequest r s).keyboard = s.keyboard := frame .keyboard (by decide)
  have carriage : (dropRequest r s).carriage = s.carriage := frame .carriage (by decide)
  have switch : (dropRequest r s).switch = s.switch := frame .switch (by decide)
  have answerback : (dropRequest r s).answerback = s.answerback := frame .answerback (by decide)
  have live : ∀ r', grantLive r' (withdrawRequest r s) = grantLive r' s := fun r' => by cases r <;> rfl
  have arbiter := discardGrant_arbiter (withdrawRequest r s) r
  simp only [stores, rings, keyboard, carriage, switch, answerback]
  simp only [dropRequest, grantLive_discardGrant, live]
  rw [arbiter]
  cases r <;> rfl

@[simp] theorem stores_dropRequest_font : stores (dropRequest .font s) = stores s := by
  rw [stores_dropRequest]; rfl

/-! #### Rings and the join table -/

theorem offerRecord_evolves (record : ReceiveRecord) : Evolves s (offerRecord record s) := by
  rcases offerRecord_cases record s with ⟨fits, h⟩ | ⟨_, h⟩ <;> rw [h]
  · exact (Evolves.of_move (.stage _ _ fits) rfl).trans (requestPlacement_evolves _)
  · exact .of_move (.setLevels _ true s.rings.notifyLevel s.rings.roomLevel) (stores_setRingLoss _)

theorem setRow_evolves (source : Source) (row : Row) : Evolves s (setRow source row s) := by
  unfold setRow
  cases source with
  | answerback => exact .ite (fun running => .of_move (.deferRow _ row running) rfl) fun _ => .of_eq rfl
  | _ => exact .of_eq rfl

theorem applyPreset_evolves (p : Preset) : Evolves s (applyPreset p s) :=
  (((setRow_evolves s _ _).trans (setRow_evolves _ _ _)).trans (setRow_evolves _ _ _)).trans (setRow_evolves _ _ _)

theorem placeReceive_evolves (base : Addr) (size : Nat) (h : s.rings.receiveSize ≤ 4 → size ≤ 4) :
    Evolves s (placeReceive (fun r => { r with receiveBase := base, receiveSize := size }) s) :=
  .ite (fun idle => .of_move (.placeReceive _ base size idle h) rfl) fun _ => .of_eq rfl

theorem placeSend_evolves (base : Addr) (size : Nat) (held : s.arbiter.held = none)
    (h : s.rings.sendSize ≤ 5 → size ≤ 5) :
    Evolves s (placeSend (fun r => { r with sendBase := base, sendSize := size }) s) :=
  .ite (fun idle => .of_move (.placeSend _ base size idle held h) rfl) fun _ => .of_eq rfl

theorem writeRingPlacement_evolves (byte : RingByte) (data : Byte) (held : s.arbiter.held = none) :
    Evolves s (writeRingPlacement byte data s) := by
  have clamped : ∀ top, clamp 0 top data.toNat ≤ top := fun top => by simp [clamp]
  cases byte with
  | receiveBaseLow => exact placeReceive_evolves s (setHalf .low data s.rings.receiveBase) s.rings.receiveSize id
  | receiveBaseHigh => exact placeReceive_evolves s (setHalf .high data s.rings.receiveBase) s.rings.receiveSize id
  | receiveSize => exact placeReceive_evolves s s.rings.receiveBase _ fun _ => clamped 4
  | sendBaseLow => exact placeSend_evolves s (setHalf .low data s.rings.sendBase) s.rings.sendSize held id
  | sendBaseHigh => exact placeSend_evolves s (setHalf .high data s.rings.sendBase) s.rings.sendSize held id
  | sendSize => exact placeSend_evolves s s.rings.sendBase _ held fun _ => clamped 5

/-! #### Print queue and Answerback Unit -/

theorem appendPrint_evolves (e : PrintEntry) : Evolves s (appendPrint e s) := by
  rcases appendPrint_cases e s with ⟨room, h⟩ | ⟨_, h⟩ <;> rw [h]
  · refine .of_move (.append _ room) ?_
    simp [stores, grantLive]
  · exact .refl s

@[simp] theorem stores_judgePrintIdle : stores (judgePrintIdle s) = stores s := by
  unfold judgePrintIdle; split <;> simp

theorem flushPrintQueue_evolves : Evolves s (flushPrintQueue s) :=
  (Evolves.of_move (.flush _) rfl).then_eq (stores_judgePrintIdle _)

theorem triggerAnswerback_evolves : Evolves s (triggerAnswerback s) := by
  refine .ite (fun taken => ?_) fun _ => .refl s
  have idle : s.answerback.running = false ∧ s.answerback.length ≠ 0 := by
    unfold judgeTrigger at taken
    split at taken
    · cases taken
    · split at taken <;> simp_all
  exact (Evolves.of_move (.trigger _ idle.1 idle.2) rfl).trans (requestAnswerbackRead_evolves _)

theorem abortAnswerback_evolves : Evolves s (abortAnswerback s) := by
  refine .ite (fun _ => .of_move (.abort _) ?_) fun _ => .refl s
  have drop := stores_dropRequest
    (s.onAnswerback fun a => { a with running := false, prefetched := none, lastResult := .aborted }) .answerback
  have deferred : ∀ t : State, stores (applyDeferred t) = { stores t with deferred := none } := fun _ => rfl
  rw [deferred, stores_raise, drop]
  rfl

/-- R111, R112: the take of the byte on offer, with its last byte ending the run. -/
theorem advanceAnswerback_evolves (held : s.answerback.prefetched ≠ none) : Evolves s (advanceAnswerback s) := by
  refine .ite (fun last => .of_move (.takeLastByte _ held last) rfl) fun more => ?_
  exact (Evolves.of_move (.takeByte _ held more) rfl).trans (requestAnswerbackRead_evolves _)

theorem advanceSendTail_evolves (held : s.rings.prefetched ≠ none) : Evolves s (advanceSendTail s) := by
  refine Evolves.trans ?_ (requestSendFetch_evolves _)
  exact .of_move (.takeSend _ held) (by split <;> rfl)

/-! #### The line -/

theorem enterIdle_evolves : Evolves s (enterIdle s) := by
  have off : stores (flowToIdle (transmitterToOff (receiverToIdle s))) = stores s :=
    (stores_of_changesOnly (transmitterToOff_frame (receiverToIdle s)) (by decide)).trans rfl
  exact (Evolves.of_eq off).trans (.ite (fun _ => abortAnswerback_evolves _) fun _ => .refl _)

theorem takeLineIn_evolves (f : ReceivedFrame) : Evolves s (takeLineIn f s) := by
  have printed : Evolves s (if s.switch.lineIn.print then
      if printRoom s then
        appendPrint (if f.parityError || f.framingError then .errorGlyph else .character (printCode f.character)) s
      else setPrintOverrun s
    else s) :=
    .ite (fun _ => .ite (fun _ => appendPrint_evolves s _) fun _ => .of_eq (by simp)) fun _ => .refl s
  exact .ite (fun _ => printed.trans (offerRecord_evolves _ _)) fun _ => printed

theorem judgeFrame_evolves (f : ReceivedFrame) : Evolves s (judgeFrame f s) :=
  .ite (fun _ => .of_eq rfl) fun _ => .ite (fun _ => .of_eq rfl) fun _ =>
    .ite (fun _ => triggerAnswerback_evolves s) fun _ => takeLineIn_evolves s f

theorem receiveBreak_evolves : Evolves s (receiveBreak s) := by
  have marked : Evolves s (if joinedRing s.switch.lineIn s then
      offerRecord (plainRecord .breakMarker 0) (raise .breakIn s) else raise .breakIn s) :=
    .ite (fun _ => (offerRecord_evolves _ _).from_eq rfl) fun _ => .of_eq rfl
  unfold receiveBreak
  refine (Evolves.trans ?_ (abortAnswerback_evolves _)).then_eq (stores_clearRemotePause _)
  exact .ite (fun _ => marked.trans (flushPrintQueue_evolves _)) fun _ => marked

theorem advanceFramer_evolves (tone : Tone) : Evolves s (advanceFramer tone s) := by
  unfold advanceFramer
  split
  · exact .of_eq rfl
  · exact (judgeFrame_evolves _ _).from_eq rfl
  · exact (receiveBreak_evolves _).from_eq rfl

theorem carrierArrives_evolves (tone : Tone) : Evolves s (carrierArrives tone s) := by
  unfold carrierArrives
  dsimp only
  split
  · exact .of_eq rfl
  · exact (advanceFramer_evolves _ _).from_eq rfl
  · exact .of_eq rfl

@[simp] theorem stores_carrierLeaves : stores (carrierLeaves s) = stores s := by
  unfold carrierLeaves; dsimp only; split <;> rfl

theorem sampleLine_evolves (line : LineInput) : Evolves s (sampleLine line s) := by
  refine .ite (fun _ => .refl s) fun _ => ?_
  refine Evolves.then_eq ?_ (stores_settle _)
  have recorded : ∀ energy, Evolves s (recordSample energy s) := fun _ => .of_eq rfl
  exact .ite (fun _ => (recorded _).trans (carrierArrives_evolves _ _)) fun _ =>
    .ite (fun _ => (recorded _).then_eq (stores_carrierLeaves _)) fun _ =>
      .ite (fun _ => (recorded _).trans (advanceFramer_evolves _ _)) fun _ => recorded _

@[simp] theorem stores_bitBoundary : stores (bitBoundary s) = stores s := by
  unfold bitBoundary
  split
  · rw [stores_settle, stores_of_changesOnly (boundaryEffect_frame _) (by decide), stores_onTransmitter]
  · rfl

end

end Sys2Proof.Machine

namespace Sys2Proof.Machine

section
variable (s : State)

/-! #### The printer: of the stores only the handling of an entry changes one -/

@[simp] theorem stores_columnStep (column : Nat) : stores (columnStep column s) = stores s := rfl
@[simp] theorem stores_dotToIdle : stores (dotToIdle s) = stores s := rfl
@[simp] theorem stores_startMotion (p target : Nat) : stores (startMotion p target s) = stores s := rfl

@[simp] theorem stores_handOver (glyph : BitVec 7) (backStep : Bool) :
    stores (handOver glyph backStep s) = stores s := by
  cases backStep <;> simp [handOver]

@[simp] theorem stores_beginOperation (op : Operation) : stores (beginOperation op s) = stores s := by
  cases op <;> simp [beginOperation]

@[simp] theorem stores_enterReady : stores (enterReady s) = stores s := by simp [enterReady]

@[simp] theorem stores_continueEntry : stores (continueEntry s) = stores s := by
  unfold continueEntry; split <;> simp

@[simp] theorem stores_endOperation : stores (endOperation s) = stores s := by
  unfold endOperation; split <;> simp

@[simp] theorem stores_judgeHalt : stores (judgeHalt s) = stores s := by
  unfold judgeHalt
  split
  · split <;> simp
  · split <;> simp
  · rfl

@[simp] theorem stores_setCauses (paper hot battery jam : Bool) :
    stores (setCauses paper hot battery jam s) = stores s := by
  unfold setCauses; dsimp only; split <;> simp

@[simp] theorem stores_takeReadings (millivolts : Nat) (millidegrees : Int) :
    stores (takeReadings millivolts millidegrees s) = stores s := by simp [takeReadings]

@[simp] theorem stores_beginSeek : stores (beginSeek s) = stores s := rfl
@[simp] theorem stores_seekFinds : stores (seekFinds s) = stores s := by simp [seekFinds]
@[simp] theorem stores_seekFails : stores (seekFails s) = stores s := by simp [seekFails]
@[simp] theorem stores_endCell : stores (endCell s) = stores s := by simp [endCell]

@[simp] theorem stores_endDwell : stores (endDwell s) = stores s := by
  unfold endDwell; split <;> simp

@[simp] theorem stores_enterDwell : stores (enterDwell s) = stores s := by
  unfold enterDwell; split <;> simp

@[simp] theorem stores_endFiring : stores (endFiring s) = stores s := by
  unfold endFiring; split <;> simp

@[simp] theorem stores_startGroup : stores (startGroup s) = stores s := by
  unfold startGroup; split <;> simp

@[simp] theorem stores_beginFiring : stores (beginFiring s) = stores s := by
  unfold beginFiring; split <;> simp

@[simp] theorem stores_releaseStrobe (row : Nat) : stores (releaseStrobe row s) = stores s := by
  unfold releaseStrobe; dsimp only; split <;> simp

@[simp] theorem stores_holdGlyph (c1 c2 c3 c4 c5 : Byte) : stores (holdGlyph c1 c2 c3 c4 c5 s) = stores s := by
  unfold holdGlyph; dsimp only; split <;> simp

@[simp] theorem stores_endSettle : stores (endSettle s) = stores s := by
  unfold endSettle; dsimp only; split <;> simp

@[simp] theorem stores_expireColumn : stores (expireColumn s) = stores s := by
  unfold expireColumn; dsimp only; split <;> simp

@[simp] theorem stores_completeBackStep (made : Nat) : stores (completeBackStep made s) = stores s := by
  unfold completeBackStep
  split
  · rfl
  · split <;> rfl

@[simp] theorem stores_ringBell (e : PrintEntry) : stores (ringBell e s) = stores s := by
  unfold ringBell; split <;> simp

@[simp] theorem stores_handleEntry (e : PrintEntry) : stores (handleEntry e s) = stores s := by
  unfold handleEntry beginOperations; split <;> simp

theorem consumeEntry_evolves {e : PrintEntry} {rest : List PrintEntry} (h : s.carriage.queue = e :: rest) :
    Evolves s (consumeEntry rest s) := by
  refine .of_move (.consume _ rest.length
    (placeContested (s.onCarriage fun c => { c with queue := rest, consumedSinceIdle := true })) ?_) rfl
  simp [stores, h]

@[simp] theorem stores_endReturn (home : Bool) : stores (endReturn home s) = stores s := by
  unfold endReturn; cases home <;> simp

@[simp] theorem stores_losePaper : stores (losePaper s) = stores s := by simp [losePaper]
@[simp] theorem stores_findPaper : stores (findPaper s) = stores s := by simp [findPaper]

@[simp] theorem stores_restartDot : stores (restartDot s) = stores s := by
  unfold restartDot; split <;> simp

/-! #### The keyboard -/

@[simp] theorem stores_wakeTranslator : stores (wakeTranslator s) = stores s := by
  unfold wakeTranslator; split <;> simp

theorem joinQueue_evolves (e : KeyEvent) (room : keyRoom s = true) : Evolves s (joinQueue e s) := by
  refine Evolves.then_eq (.of_move (.joinKey _ (of_decide_eq_true room)) ?_) (stores_wakeTranslator _)
  simp [stores, grantLive]

theorem offerPress_evolves (e : KeyEvent) : Evolves s (offerPress e s) :=
  .ite (joinQueue_evolves s e) fun _ => .of_eq (by simp)

theorem offerRepeat_evolves (e : KeyEvent) : Evolves s (offerRepeat e s) :=
  .ite (joinQueue_evolves s e) fun _ => .refl s

theorem finishEvent_evolves : Evolves s (finishEvent s) := by
  refine Evolves.then_eq (.of_move (.leaveKey _ s.keyboard.queue.tail.length ?_) rfl) (stores_wakeTranslator _)
  simp [stores]

@[simp] theorem stores_endRepeat : stores (endRepeat s) = stores s := rfl
@[simp] theorem stores_disableRepeat : stores (disableRepeat s) = stores s := rfl

@[simp] theorem stores_judgeRepeatKey : stores (judgeRepeatKey s) = stores s := by
  unfold judgeRepeatKey
  split
  · rfl
  · split <;> rfl

@[simp] theorem stores_chooseRepeat : stores (chooseRepeat s) = stores s := by
  unfold chooseRepeat
  split
  · rfl
  · split
    · split <;> rfl
    · rfl

@[simp] theorem stores_requestEligibility (positions : List Position) :
    stores (requestEligibility positions s) = stores s := by
  have asked : ∀ (ps : List Position) (t : State),
      stores (ps.foldl (fun acc p => enqueueKeymap (.eligibility p) acc) t) = stores t := by
    intro ps
    induction ps with
    | nil => exact fun _ => rfl
    | cons p ps ih => exact fun t => (ih _).trans (stores_enqueueKeymap _ _)
  unfold requestEligibility
  split
  · rfl
  · rw [asked]; rfl

theorem offerPresses_evolves (event : Position → KeyEvent) (pressed : List Position) :
    ∀ t : State, Evolves t (pressed.foldl (fun acc p => offerPress (event p) acc) t) := by
  induction pressed with
  | nil => exact .refl
  | cons p ps ih => exact fun t => (offerPress_evolves t _).trans (ih _)

theorem scanPass_evolves (readings : BitVec 64) : Evolves s (scanPass readings s) := by
  unfold scanPass
  dsimp only
  have offered := offerPresses_evolves
  refine .ite (fun _ => ?_) fun _ => ?_
  · refine Evolves.then_eq ?_ ((stores_requestEligibility _ _).trans (stores_judgeRepeatKey _))
    exact (offered _ _ _).from_eq (stores_onKeyboard s rfl)
  · refine Evolves.then_eq ?_ (stores_judgeRepeatKey _)
    exact (offered _ _ _).from_eq (stores_onKeyboard s rfl)

theorem repeatExpiry_evolves : Evolves s (repeatExpiry s) := by
  unfold repeatExpiry
  refine Evolves.then_eq ?_ rfl
  split
  · exact .ite (fun _ => offerRepeat_evolves s _) fun _ => .refl s
  · exact .refl s

/-- A running grant that is replaced by one that is live for the same owners. -/
theorem stores_regrant {s : State} {g g' : Grant} (hg : s.arbiter.grant = some g)
    (h : ∀ r, g'.liveFor r = g.liveFor r) :
    stores (s.onArbiter fun a => { a with grant := some g' }) = stores s := by
  simp [stores, grantLive, hg, h]

/-- No grant of the key map carries ring or answerback data, so a load that is discarded changes nothing. -/
@[simp] theorem stores_requestHeaderLoad : stores (requestHeaderLoad s) = stores s := by
  have discarded : stores (match s.arbiter.grant with
      | some (.headerLoad a _) => s.onArbiter fun r => { r with grant := some (.headerLoad a true) }
      | _ => s) = stores s := by
    split
    · next grant => exact stores_regrant grant fun r => by cases r <;> rfl
    · rfl
  unfold requestHeaderLoad
  dsimp only
  split
  · exact discarded
  · exact (stores_enqueueKeymap _ _).trans discarded

@[simp] theorem stores_loadHeader (b0 b1 b2 b3 : Byte) : stores (loadHeader b0 b1 b2 b3 s) = stores s := rfl
@[simp] theorem stores_captureHeader (entry : HeaderEntry) (data : Byte) :
    stores (captureHeader entry data s) = stores s := rfl

theorem recordFunction_evolves (code : Byte) : Evolves s (recordFunction code s) :=
  .ite (fun _ => offerRecord_evolves s _) fun _ => .refl s

@[simp] theorem stores_breakFunction : stores (breakFunction s) = stores s :=
  stores_of_changesOnly (breakFunction_frame s) (by decide)

@[simp] theorem stores_enterListen : stores (enterListen s) = stores s :=
  stores_of_changesOnly (enterListen_frame s) (by decide)

@[simp] theorem stores_enterData : stores (enterData s) = stores s :=
  stores_of_changesOnly (enterData_frame s) (by decide)

@[simp] theorem stores_raiseLine (cause : LineCause) : stores (raiseLine cause s) = stores s := rfl

theorem lineLocalFunction_evolves : Evolves s (lineLocalFunction s) :=
  .ite (fun _ => (applyPreset_evolves _ _).from_eq (stores_enterListen s)) fun _ =>
    ((enterIdle_evolves s).then_eq (stores_raiseLine _ _)).trans (applyPreset_evolves _ _)

theorem hereIsFunction_evolves : Evolves s (hereIsFunction s) :=
  .ite (fun _ => triggerAnswerback_evolves s) fun _ => .of_eq (by simp)

@[simp] theorem stores_tabSetFunction : stores (tabSetFunction s) = stores s := by
  unfold tabSetFunction
  split
  · split
    · rfl
    · simp
  · simp

@[simp] theorem stores_tabClearFunction : stores (tabClearFunction s) = stores s := by
  unfold tabClearFunction; split <;> rfl

@[simp] theorem stores_clearStops : stores (clearStops s) = stores s := rfl
@[simp] theorem stores_clickFunction : stores (clickFunction s) = stores s := rfl

theorem duplexFunction_evolves : Evolves s (duplexFunction s) :=
  .ite (fun _ => (applyPreset_evolves _ _).from_eq rfl) fun _ => .of_eq rfl

theorem appendFeed_evolves : Evolves s (appendFeed s) :=
  (((recordFunction_evolves s _).trans (appendPrint_evolves _ _)).then_eq (stores_requestClick _)).trans
    (finishEvent_evolves _)

theorem actOnCode_evolves (code : Byte) : Evolves s (actOnCode code s) := by
  have recorded := recordFunction_evolves s code
  unfold actOnCode
  split
  · exact finishEvent_evolves s
  · exact .of_eq rfl
  · exact (recorded.then_eq (stores_breakFunction _)).trans (finishEvent_evolves _)
  · exact (recorded.trans (lineLocalFunction_evolves _)).trans (finishEvent_evolves _)
  · exact (recorded.trans (hereIsFunction_evolves _)).trans (finishEvent_evolves _)
  · exact (recorded.then_eq (stores_tabSetFunction _)).trans (finishEvent_evolves _)
  · exact (recorded.then_eq (stores_tabClearFunction _)).trans (finishEvent_evolves _)
  · exact (recorded.then_eq (stores_clearStops _)).trans (finishEvent_evolves _)
  · exact .ite (fun _ => appendFeed_evolves s) fun _ => .of_eq rfl
  · exact (recorded.trans (duplexFunction_evolves _)).trans (finishEvent_evolves _)
  · exact (recorded.then_eq (stores_clickFunction _)).trans (finishEvent_evolves _)

theorem translate_evolves (data : Byte) : Evolves s (translate data s) := by
  unfold translate
  split
  · exact .refl s
  · exact actOnCode_evolves s _

/-! #### Setup and commands -/

theorem writeAnswerbackSetup_evolves (byte : AnswerbackByte) (data : Byte) :
    Evolves s (writeAnswerbackSetup byte data s) := by
  refine .ite (fun _ => .of_eq rfl) fun _ => ?_
  cases byte with
  | baseLow => exact .of_move (.setAnswerback _ (setHalf .low data s.answerback.base) s.answerback.length id) rfl
  | baseHigh => exact .of_move (.setAnswerback _ (setHalf .high data s.answerback.base) s.answerback.length id) rfl
  | length =>
    refine .of_move (.setAnswerback _ s.answerback.base (clamp 0 32 data.toNat) fun _ => ?_) rfl
    simp [clamp]

theorem setModeEffect_evolves : Evolves s (setModeEffect s) := by
  unfold setModeEffect
  split
  · exact (applyPreset_evolves s _).then_eq rfl
  · exact .of_eq rfl

theorem sendAnswerbackEffect_evolves : Evolves s (sendAnswerbackEffect s) := by
  unfold sendAnswerbackEffect
  split
  · exact (triggerAnswerback_evolves s).then_eq rfl
  · exact .of_eq rfl
  · exact .of_eq rfl

@[simp] theorem stores_lineOnEffect (channel : Channel) : stores (lineOnEffect channel s) = stores s := by
  unfold lineOnEffect; split <;> simp

theorem lineOffEffect_evolves : Evolves s (lineOffEffect s) :=
  Evolves.then_eq (.ite (fun _ => .refl s) fun _ => enterIdle_evolves s) (stores_setResult _ _)

@[simp] theorem stores_sendBreakEffect : stores (sendBreakEffect s) = stores s := by
  unfold sendBreakEffect; split <;> rfl

@[simp] theorem stores_setTabEffect : stores (setTabEffect s) = stores s := by
  unfold setTabEffect
  dsimp only
  split
  · split <;> rfl
  · rfl

@[simp] theorem stores_clearTabEffect : stores (clearTabEffect s) = stores s := by
  unfold clearTabEffect; dsimp only; split <;> rfl

theorem feedLineEffect_evolves : Evolves s (feedLineEffect s) :=
  .ite (fun _ => (appendPrint_evolves s _).then_eq rfl) fun _ => .of_eq rfl

theorem restartRings_evolves : Evolves s (restartRings s) := by
  refine .of_move (.clearRings _) ?_
  simp only [restartRings, stores_dropRequest]
  rfl

@[simp] theorem stores_cancelTranslation : stores (cancelTranslation s) = stores s := rfl

@[simp] theorem stores_discardTranslation : stores (discardTranslation s) = stores s := by
  unfold discardTranslation
  split
  · next grant => exact stores_regrant grant fun r => by cases r <;> rfl
  · rfl

theorem restartKeyboard_evolves : Evolves s (restartKeyboard s) :=
  .of_move (.leaveKey _ 0 (Nat.zero_le _)) (stores_discardTranslation _)

theorem restartCarriage_evolves : Evolves s (restartCarriage s) := .of_move (.flush _) rfl

@[simp] theorem stores_restartTones : stores (restartTones s) = stores s := rfl
@[simp] theorem stores_restartFiring : stores (restartFiring s) = stores s := by simp [restartFiring]
@[simp] theorem stores_restartClears : stores (restartClears s) = stores s := rfl

theorem restartEffect_evolves : Evolves s (restartEffect s) := by
  have idle : Evolves s (enterIdle (startCommand .restart s)) := (enterIdle_evolves _).from_eq rfl
  have emptied := ((idle.trans (abortAnswerback_evolves _)).trans (restartRings_evolves _)).trans
    (restartKeyboard_evolves _)
  have halted := (emptied.then_eq (stores_restartTones _)).trans (restartCarriage_evolves _)
  exact halted.then_eq ((stores_restartClears _).trans (stores_restartFiring _))

theorem takeCommand_evolves (code : Byte) : Evolves s (takeCommand code s) := by
  unfold takeCommand
  dsimp only
  split
  · exact .of_eq ((stores_lineOnEffect _ _).trans rfl)
  · exact .of_eq ((stores_lineOnEffect _ _).trans rfl)
  · exact (lineOffEffect_evolves _).from_eq rfl
  · exact .of_eq ((stores_sendBreakEffect _).trans rfl)
  · exact (sendAnswerbackEffect_evolves _).from_eq rfl
  · exact (setModeEffect_evolves _).from_eq rfl
  · exact ((flushPrintQueue_evolves _).then_eq rfl).from_eq rfl
  · exact (feedLineEffect_evolves _).from_eq rfl
  · exact .of_eq ((stores_setTabEffect _).trans rfl)
  · exact .of_eq ((stores_clearTabEffect _).trans rfl)
  · exact .of_eq rfl
  · exact (restartEffect_evolves _).from_eq rfl
  · exact .of_eq rfl

end

end Sys2Proof.Machine

namespace Sys2Proof.Machine

section
variable (s : State)

/-! #### Host cycles and grants -/

/-- A byte written to the control block; a send placement byte is taken only as no host cycle is held. -/
theorem writeControl_evolves (offset : Offset) (data : Byte) (held : s.arbiter.held = none) :
    Evolves s (writeControl offset data s) := by
  unfold writeControl
  split
  case h_1 => exact takeCommand_evolves s data
  case h_9 | h_10 | h_37 => exact .ite (fun _ => .of_eq rfl) fun _ => .of_eq rfl
  case h_21 | h_22 | h_23 | h_24 => exact setRow_evolves s _ _
  case h_25 | h_26 | h_27 | h_30 | h_31 | h_32 => exact writeRingPlacement_evolves s _ data held
  case h_28 => exact .of_move (.setLevels _ s.rings.lossMark (clamp 1 127 data.toNat) s.rings.roomLevel) rfl
  case h_33 => exact .of_move (.setLevels _ s.rings.lossMark s.rings.notifyLevel data.toNat) rfl
  case h_34 | h_35 => exact .of_eq ((stores_requestHeaderLoad _).trans rfl)
  case h_42 | h_43 | h_44 => exact writeAnswerbackSetup_evolves s _ data
  all_goals exact .of_eq rfl

/-- R21: the head slot is written: the head advances and no cycle is held, or the ring is full. -/
theorem captureHead_evolves (h : s.rings.sendSize ≠ 0 ∨ s.arbiter.held.any HostCycle.isHeadWrite = true) :
    Evolves s (captureHead (s.withHeld none)) := by
  refine .ite (fun _ => .of_move (.release _) rfl) fun free => ?_
  exact (Evolves.of_move (.capture _ h free) rfl).trans (requestSendFetch_evolves _)

theorem consumeRecord_evolves : Evolves s (consumeRecord s) :=
  .ite (fun occupied => .of_move (.consumeRecord _ occupied) rfl) fun _ => .refl s

@[simp] theorem stores_takeAttention : stores (takeAttention s) = stores s :=
  stores_of_changesOnly (takeAttention_frame s) (by decide)

@[simp] theorem stores_answerRead (offset : Offset) : stores (answerRead offset s) = stores s := by
  unfold answerRead; dsimp only; split <;> simp [driveMemory]

/-- Of the two watchers of a write only the send ring's changes the stores. -/
theorem stores_reportWrite (head : Bool) (entry : Option HeaderEntry) (data : Byte) :
    stores (reportWrite head entry data s) = stores (if head then captureHead s else s) := by
  cases entry <;> rfl

/-- A host cycle passes, and none is held then. -/
theorem passCycle_evolves (c : HostCycle)
    (h : c.isHeadWrite = true → s.rings.sendSize ≠ 0 ∨ s.arbiter.held.any HostCycle.isHeadWrite = true) :
    Evolves s (passCycle c (s.withHeld none)) := by
  have released : Evolves s (s.withHeld none) := .of_move (.release _) rfl
  cases c with
  | read address data outcome =>
    cases outcome with
    | control offset => exact released.then_eq (stores_answerRead _ _)
    | passed consume =>
      refine released.trans (.ite (fun _ => Evolves.then_eq ?_ (stores_settle _)) fun _ => .of_eq rfl)
      exact (consumeRecord_evolves _).from_eq rfl
  | write address data outcome =>
    cases outcome with
    | commandBusy => exact released
    | withheld cause => exact released
    | control offset =>
      refine released.trans (Evolves.then_eq ?_ (stores_settle _))
      exact (writeControl_evolves _ _ _ rfl).from_eq rfl
    | passed head entry =>
      have captured : Evolves s (if head then captureHead (driveMemory [.write address data] (s.withHeld none))
          else driveMemory [.write address data] (s.withHeld none)) := by
        refine .ite (fun isHead => ?_) fun _ => released.then_eq rfl
        exact (captureHead_evolves (driveMemory [.write address data] s) (h (by rw [isHead]; rfl))).from_eq rfl
      exact captured.then_eq (stores_reportWrite _ _ _ _)

/-- R171: the end of a grant lets the held cycle pass. -/
theorem passHeld_evolves : Evolves s (passHeld s) := by
  unfold passHeld
  split
  · exact .refl s
  · next c held =>
    exact (passCycle_evolves s c fun head => .inr (by simp [held, head])).then_eq rfl

/-- R171: a grant ends when its owner has acted on the data. -/
theorem finishGrant_evolves {s : State} {cycles : List MemCycle} {act : State → State}
    (h : Evolves s (act (driveMemory cycles (s.onArbiter fun a => { a with grant := none })))) :
    Evolves s (finishGrant cycles act s) :=
  (h.then_eq (stores_settle _)).trans (passHeld_evolves _)

/-- The end of a grant whose owner changes no ring and no answerback data with it. -/
theorem finishOther_evolves {s : State} {cycles : List MemCycle} {act : State → State}
    (h : ∀ t, Evolves t (act t)) : Evolves s (finishGrant cycles act s) :=
  finishGrant_evolves ((Evolves.of_move (.otherGrant _) rfl).trans (h _))

theorem unlessDiscarded_evolves {act : State → State} (h : ∀ t, Evolves t (act t)) (discarded : Bool) (t : State) :
    Evolves t (unlessDiscarded discarded act t) :=
  .ite (fun _ => .refl t) fun _ => h t

/-- R172: each grant starts for a request that waits. -/
theorem startNextGrant_evolves : Evolves s (startNextGrant s) := by
  unfold startNextGrant
  cases found : firstWaiting s.arbiter with
  | none => exact .refl s
  | some r =>
    have waiting : s.arbiter.wait r ≠ .absent := by simpa using List.find?_some found
    cases r with
    | startUp => exact .of_move (.otherGrant _) rfl
    | receiveWriter =>
      dsimp only
      split
      · exact .refl s
      · next staged => exact .of_move (.startPlacement _ (by simp [stores, staged])) rfl
    | font => exact .of_move (.otherGrant _) rfl
    | keymap =>
      show Evolves s (beginKeymapGrant s)
      unfold beginKeymapGrant
      split
      · exact .refl s
      · next read rest _ => cases read <;> exact .of_move (.otherGrant _) rfl
    | answerback => exact .of_move (.startRead _ waiting) rfl
    | sendRing => exact .of_move (.startFetch _ waiting) rfl

/-- A host cycle is held during a grant and under the stretch of R173, and passes at once otherwise. -/
theorem runCycle_evolves (c : HostCycle) (held : s.arbiter.held = none)
    (h : c.isHeadWrite = true → s.rings.sendSize ≠ 0) : Evolves s (runCycle c s) := by
  have holds : Evolves s (s.onArbiter fun a => { a with held := some c }) := .of_move (.hold _ c h) rfl
  refine .ite (fun _ => holds) fun _ => .ite (fun _ => holds.trans (startNextGrant_evolves _)) fun _ => ?_
  have passes := passCycle_evolves s c fun head => .inl (h head)
  rwa [← held, withHeld_self] at passes

/-- R160: a write judged a head write found the send ring on. -/
theorem judgeWrite_isHeadWrite {address : Addr} {data : Byte}
    (h : (HostCycle.write address data (judgeWrite address s)).isHeadWrite = true) : s.rings.sendSize ≠ 0 := by
  unfold HostCycle.isHeadWrite at h
  split at h
  · next heq =>
    simp only [HostCycle.write.injEq] at heq
    obtain ⟨_, _, judged⟩ := heq
    unfold judgeWrite at judged
    split at judged
    · split at judged <;> cases judged
    · split at judged
      · cases judged
      · split at judged
        · cases judged
        · simp only [WriteOutcome.passed.injEq, Bool.and_eq_true, decide_eq_true_eq] at judged
          exact judged.1.1
  · cases h

/-! ### What each command can do to the stores -/

/-- R12: the delivery of a taken character leaves what its source has on offer. -/
theorem deliver_evolves (source : WaitingSource) (character : Byte) : Evolves s (deliver source character s) := by
  have sent : Evolves s (if (s.switch.row source).lineOut then deliverLineOut source character s else s) := by
    refine .ite (fun _ => .ite (fun _ => ?_) fun _ => .of_eq (by simp)) fun _ => .refl s
    cases source <;> exact .of_eq rfl
  have printed := Evolves.ite (c := (s.switch.row source).print = true)
    (fun _ => sent.trans (appendPrint_evolves _ (.character (printCode character)))) fun _ => sent
  exact .ite (fun _ => printed.trans (offerRecord_evolves _ _)) fun _ => printed

theorem deliverLineOut_frame (source : WaitingSource) (character : Byte) :
    changesOnly [.transmitter, .switch, .status, .attention] s (deliverLineOut source character s) := by
  have slot := onTransmitter_frame s fun t => { t with slot := .character character }
  unfold deliverLineOut
  split
  · have placed : changesOnly [.transmitter, .switch, .status, .attention] s
        (s.onTransmitter fun t => { t with slot := .character character }) := slot.mono (by decide)
    cases source with
    | answerback => exact placed
    | _ => exact (onSwitch_frame _ _).after (by decide) placed
  · exact (setTxDiscarded_frame s).mono (by decide)

/-- R12: what the delivery to LINE-OUT and PRINT may change; a record goes to the ring from KEYBOARD alone. -/
theorem deliver_frame (source : WaitingSource) (character : Byte) (h : source ≠ .keyboard) :
    changesOnly [.transmitter, .switch, .status, .attention, .carriage] s (deliver source character s) := by
  have sent : changesOnly [.transmitter, .switch, .status, .attention, .carriage] s
      (if (s.switch.row source).lineOut then deliverLineOut source character s else s) := by
    split
    · exact (deliverLineOut_frame s source character).mono (by decide)
    · exact changesOnly_refl _ s
  unfold deliver
  dsimp only
  rw [if_neg fun both => h both.1]
  split
  · exact (appendPrint_frame _ _).after (by decide) sent
  · exact sent

theorem execTake_evolves {t : State} (source : WaitingSource) (h : execTake source s = .next t) : Evolves s t := by
  obtain rfl := Host.Outcome.next.inj h
  split
  · next character offer =>
    refine .ite (fun _ => Evolves.then_eq ?_ (stores_settle _)) fun _ => .refl s
    have delivered := deliver_evolves s source character
    cases source with
    | keyboard => exact (delivered.then_eq (stores_requestClick _)).trans (finishEvent_evolves _)
    | sendRing =>
      have rings : (deliver .sendRing character s).rings = s.rings := deliver_frame s .sendRing _ (by decide) .rings (by decide)
      have held : s.rings.prefetched = some character := offer
      exact delivered.trans (advanceSendTail_evolves _ (by simp [rings, held]))
    | answerback =>
      have unit : (deliver .answerback character s).answerback = s.answerback :=
        deliver_frame s .answerback _ (by decide) .answerback (by decide)
      have held : s.answerback.prefetched = some character := offer
      exact delivered.trans (advanceAnswerback_evolves _ (by simp [unit, held]))
  · exact .refl s

theorem execReceivePlacement_evolves {t : State} (h : execReceivePlacement s = .next t) : Evolves s t := by
  obtain rfl := Host.Outcome.next.inj h
  split
  · next a tag code discarded grant =>
    cases discarded with
    | true => exact finishOther_evolves .refl
    | false =>
      refine finishGrant_evolves (Evolves.trans ?_ (requestPlacement_evolves _))
      exact .of_move (.placed _ (by simp [stores, grantLive, grant, Grant.liveFor])) (by split <;> rfl)
  · exact .refl s

theorem execSendFetch_evolves {t : State} (data : Byte) (h : execSendFetch data s = .next t) : Evolves s t := by
  obtain rfl := Host.Outcome.next.inj h
  split
  · next a discarded grant =>
    cases discarded with
    | true => exact finishOther_evolves .refl
    | false =>
      exact finishGrant_evolves
        (.of_move (.fetched _ data (by simp [stores, grantLive, grant, Grant.liveFor])) rfl)
  · exact .refl s

theorem execAnswerbackRead_evolves {t : State} (data : Byte) (h : execAnswerbackRead data s = .next t) :
    Evolves s t := by
  obtain rfl := Host.Outcome.next.inj h
  split
  · next a discarded grant =>
    cases discarded with
    | true => exact finishOther_evolves .refl
    | false =>
      exact finishGrant_evolves
        (.of_move (.readDone _ data (by simp [stores, grantLive, grant, Grant.liveFor])) rfl)
  · exact .refl s

theorem setWait_evolves {r : Requester} (w : Wait) (h : s.arbiter.wait r ≠ .absent) :
    Evolves s (s.onArbiter fun a => a.setWait r w) := by
  cases r with
  | answerback => exact .of_move (.askRead _ w (.inl h)) rfl
  | sendRing => exact .of_move (.askFetch _ w (.inl h)) rfl
  | _ => exact .of_eq rfl

theorem beginBlocks_evolves (millivolts : Nat) (millidegrees : Int) :
    Evolves s (beginBlocks millivolts millidegrees s) :=
  .of_eq (by
    simp only [beginBlocks, stores_beginSeek, stores_setCauses, stores_takeReadings, stores_requestHeaderLoad]
    exact stores_onKeyboard s rfl)

theorem Evolves.ite_next {s t a b : State} {c : Prop} [Decidable c]
    (h : Host.Outcome.next (φ := Fault) (ρ := Refusal) (if c then a else b) = .next t)
    (ha : c → Evolves s a) (hb : ¬ c → Evolves s b) : Evolves s t := by
  obtain rfl := Host.Outcome.next.inj h
  exact .ite ha hb

/-- The row of a host cycle makes it: the host must be free to make one, and the cycle then runs. -/
theorem exec_of_hostCycleOf {command : Instr} {cycle : HostCycle} (h : hostCycleOf command s = some cycle) :
    exec command s = .next (if hostMayCycle s then runCycle cycle s else s) := by
  cases command with
  | maskWrite byte data => cases byte <;> (cases h; rfl)
  | joinRowWrite row data => cases row <;> (cases h; rfl)
  | ringPlacementWrite byte data => cases byte <;> (cases h; rfl)
  | keymapBaseWrite half data => cases half <;> (cases h; rfl)
  | answerbackSetupWrite byte data => cases byte <;> (cases h; rfl)
  | headerCapture entry data =>
    cases entry with
    | shiftA =>
      cases h
      simp [exec, execHeaderCapture, hostWrite, headerEntryOffset]
    | _ => cases h; rfl
  | _ => cases h <;> rfl

/-- R160: the cycle of a host-cycle row is judged as it begins. -/
theorem hostCycleOf_judged {command : Instr} {cycle : HostCycle} (h : hostCycleOf command s = some cycle) :
    (∃ address data, cycle = .write address data (judgeWrite address s)) ∨
    (∃ address data, cycle = .read address data (judgeRead address s)) := by
  cases command with
  | maskWrite byte data => cases byte <;> exact .inl ⟨_, _, (Option.some.inj h).symm⟩
  | joinRowWrite row data => cases row <;> exact .inl ⟨_, _, (Option.some.inj h).symm⟩
  | ringPlacementWrite byte data => cases byte <;> exact .inl ⟨_, _, (Option.some.inj h).symm⟩
  | keymapBaseWrite half data => cases half <;> exact .inl ⟨_, _, (Option.some.inj h).symm⟩
  | answerbackSetupWrite byte data => cases byte <;> exact .inl ⟨_, _, (Option.some.inj h).symm⟩
  | headerCapture entry data => cases entry <;> exact .inl ⟨_, _, (Option.some.inj h).symm⟩
  | attentionCodeRead => exact .inr ⟨_, _, (Option.some.inj h).symm⟩
  | consumeRead data => exact .inr ⟨_, _, (Option.some.inj h).symm⟩
  | _ => first | exact .inl ⟨_, _, (Option.some.inj h).symm⟩ | cases h

theorem exec_hostCycle_evolves {i : Instr} {c : HostCycle} {t : State} (hc : hostCycleOf i s = some c)
    (h : exec i s = .next t) : Evolves s t := by
  rw [exec_of_hostCycleOf s hc] at h
  refine .ite_next h (fun may => ?_) fun _ => .refl s
  simp only [hostMayCycle, Bool.and_eq_true, decide_eq_true_eq] at may
  refine runCycle_evolves s c may.2 ?_
  rcases hostCycleOf_judged s hc with ⟨address, data, rfl⟩ | ⟨address, data, rfl⟩
  · exact judgeWrite_isHeadWrite s
  · exact nofun

theorem exec_evolves {t : State} (i : Instr) (h : exec i s = .next t) : Evolves s t := by
  cases hc : hostCycleOf i s with
  | some c => exact exec_hostCycle_evolves s hc h
  | none =>
    cases i with
    | pinReset => cases h; exact .of_move (.reset _) rfl
    | rstiRelease => exact .ite_next h (fun _ => (requestGrant_evolves _ .startUp nofun nofun).from_eq rfl) fun _ => .refl s
    | startUpFetch o0 o1 mv md =>
      exact .ite_next h (fun _ => finishOther_evolves fun t => (beginBlocks_evolves _ _ _).from_eq rfl) fun _ => .refl s
    | scanPass readings => exact .ite_next h (fun _ => (scanPass_evolves s _).then_eq (stores_settle _)) fun _ => .refl s
    | headerLoad b0 b1 b2 b3 =>
      obtain rfl := Host.Outcome.next.inj h
      split
      · exact finishOther_evolves (unlessDiscarded_evolves (fun t => .of_eq (stores_loadHeader t b0 b1 b2 b3)) _)
      · exact .refl s
    | eligibilityRead data =>
      obtain rfl := Host.Outcome.next.inj h
      split
      · exact finishOther_evolves fun t => .of_eq (stores_chooseRepeat _)
      · exact .refl s
    | repeatTimerExpiry => exact .ite_next h (fun _ => repeatExpiry_evolves s) fun _ => .refl s
    | translationRead data =>
      obtain rfl := Host.Outcome.next.inj h
      split
      · exact finishOther_evolves (unlessDiscarded_evolves (fun t => translate_evolves t data) _)
      · exact .refl s
    | feedAppend => exact .ite_next h (fun _ => (appendFeed_evolves s).then_eq (stores_settle _)) fun _ => .refl s
    | take source => exact execTake_evolves s source h
    | carrierPresent low high => exact .ite_next h (fun _ => sampleLine_evolves s _) fun _ => .refl s
    | carrierAbsent low high => exact .ite_next h (fun _ => sampleLine_evolves s _) fun _ => .refl s
    | frameReceived low high => exact .ite_next h (fun _ => sampleLine_evolves s _) fun _ => .refl s
    | receivedBreak low high => exact .ite_next h (fun _ => sampleLine_evolves s _) fun _ => .refl s
    | lineSample low high => cases h; exact sampleLine_evolves s _
    | listenExpiry =>
      exact .ite_next h (fun _ => (enterIdle_evolves s).then_eq (stores_settle _)) fun _ => .refl s
    | fadeExpiry =>
      exact .ite_next h (fun _ => (enterIdle_evolves s).then_eq (stores_settle _)) fun _ => .refl s
    | qualifyExpiry => exact .ite_next h (fun _ => .of_eq (by simp)) fun _ => .refl s
    | frameStart => exact .ite_next h (fun _ => .of_eq (by simp)) fun _ => .refl s
    | frameEnd => exact .ite_next h (fun _ => .of_eq (by simp)) fun _ => .refl s
    | breakStart => exact .ite_next h (fun _ => .of_eq (by simp)) fun _ => .refl s
    | postBreakEnd => exact .ite_next h (fun _ => .of_eq (by simp)) fun _ => .refl s
    | bitBoundary => cases h; exact .of_eq (by simp)
    | flowCodePlaced =>
      obtain rfl := Host.Outcome.next.inj h
      split
      · exact .ite (fun _ => .of_eq (stores_settle _)) fun _ => .refl s
      · exact .refl s
    | entryHandling =>
      obtain rfl := Host.Outcome.next.inj h
      split
      · exact .refl s
      · next queue =>
        exact .ite (fun _ => (consumeEntry_evolves s queue).then_eq (by simp)) fun _ => .refl s
    | glyphFetch c1 c2 c3 c4 c5 =>
      obtain rfl := Host.Outcome.next.inj h
      split
      · exact finishOther_evolves (unlessDiscarded_evolves (fun t => .of_eq (stores_holdGlyph t _ _ _ _ _)) _)
      · exact .refl s
    | backStep =>
      obtain rfl := Host.Outcome.next.inj h
      split
      · exact .of_eq (stores_completeBackStep _ _)
      · exact .refl s
    | paperOut =>
      refine .ite_next h (fun _ => .ite (fun _ => .of_eq ?_) fun _ => .of_eq rfl) fun _ => .refl s
      simp
    | grantStart => exact .ite_next h (fun _ => startNextGrant_evolves s) fun _ => .refl s
    | waitTimerExpiry r =>
      exact .ite_next h (fun waiting => setWait_evolves s _ (by rw [waiting]; nofun)) fun _ => .refl s
    | receivePlacement => exact execReceivePlacement_evolves s h
    | sendFetch data => exact execSendFetch_evolves s data h
    | answerbackRead data => exact execAnswerbackRead_evolves s data h
    | breakTimerExpiry | remotePauseTimerExpiry | sounderTimerExpiry | homeSeekStart => exact .ite_next h (fun _ => .of_eq rfl) fun _ => .refl s
    | paperPresent => exact .ite_next h (fun _ => .refl s) fun _ => .of_eq rfl
    | synthesisSample => exact .ite_next h (fun _ => .refl s) fun _ => .of_eq rfl
    | motionEnd | returnEnd | feedEnd | paperTimerExpiry | homeFound | seekTimerExpiry | settleExpiry | strobeRelease | groupStart | columnTimerExpiry | sensorReading =>
      exact .ite_next h (fun _ => .of_eq (by simp)) fun _ => .refl s
    | maskWrite byte data | joinRowWrite byte data | ringPlacementWrite byte data | keymapBaseWrite byte data
    | answerbackSetupWrite byte data | headerCapture byte data => cases byte <;> cases hc
    | _ => cases hc

end

end Sys2Proof.Machine

namespace Sys2Proof.Machine

/-! ### The indices of a ring (R14, R21) -/

theorem ringOccupancy_of_le {head tail size : Nat} (h : tail ≤ head) (hh : head < size) :
    ringOccupancy head tail size = head - tail := by
  rw [ringOccupancy, show head + size - tail = head - tail + size by omega, Nat.add_mod_right, Nat.mod_eq_of_lt (by omega)]

theorem ringOccupancy_of_lt {head tail size : Nat} (h : head < tail) (ht : tail < size) :
    ringOccupancy head tail size = head + size - tail := Nat.mod_eq_of_lt (by omega)

theorem ringNext_cases {i size : Nat} (h : i < size) :
    (i + 1 < size ∧ ringNext i size = i + 1) ∨ (i + 1 = size ∧ ringNext i size = 0) := by
  rcases Nat.lt_or_ge (i + 1) size with h' | h'
  · exact .inl ⟨h', Nat.mod_eq_of_lt h'⟩
  · obtain rfl : i + 1 = size := by omega
    exact .inr ⟨rfl, Nat.mod_self _⟩

theorem ringNext_lt {size : Nat} (i : Nat) (h : 0 < size) : ringNext i size < size := Nat.mod_lt _ h

/-- An advance of the head that does not meet the tail adds one entry. -/
theorem ringOccupancy_next_head {head tail size : Nat} (hh : head < size) (ht : tail < size)
    (hn : ringNext head size ≠ tail) : ringOccupancy (ringNext head size) tail size = ringOccupancy head tail size + 1 := by
  rcases ringNext_cases hh with ⟨h', e⟩ | ⟨h', e⟩ <;> rw [e] at hn ⊢ <;> rcases Nat.lt_or_ge head tail with hl | hl
  · rw [ringOccupancy_of_lt hl ht, ringOccupancy_of_lt (by omega) ht]; omega
  · rw [ringOccupancy_of_le hl hh, ringOccupancy_of_le (by omega) h']; omega
  · omega
  · rw [ringOccupancy_of_le hl hh, ringOccupancy_of_lt (by omega) ht]; omega

/-- An advance of the head that meets the tail was made in a full ring. -/
theorem ringOccupancy_of_next_head {head tail size : Nat} (hh : head < size) (hn : ringNext head size = tail) :
    ringOccupancy head tail size + 1 = size := by
  rcases ringNext_cases hh with ⟨h', e⟩ | ⟨h', e⟩ <;> rw [e] at hn <;> subst hn
  · rw [ringOccupancy_of_lt (by omega) h']; omega
  · rw [ringOccupancy_of_le (by omega) hh]; omega

/-- An advance of the tail of a ring that is not empty removes one entry. -/
theorem ringOccupancy_next_tail {head tail size : Nat} (hh : head < size) (ht : tail < size)
    (ho : 0 < ringOccupancy head tail size) :
    ringOccupancy head (ringNext tail size) size + 1 = ringOccupancy head tail size := by
  rcases Nat.lt_or_ge head tail with hl | hl
  · rw [ringOccupancy_of_lt hl ht]
    rcases ringNext_cases ht with ⟨h', e⟩ | ⟨h', e⟩ <;> rw [e]
    · rw [ringOccupancy_of_lt (by omega) h']; omega
    · rw [ringOccupancy_of_le (by omega) hh]; omega
  · rw [ringOccupancy_of_le hl hh] at ho ⊢
    rcases ringNext_cases ht with ⟨h', e⟩ | ⟨h', e⟩
    · rw [e, ringOccupancy_of_le (by omega) hh]; omega
    · omega

theorem ringOccupancy_zero (size : Nat) : ringOccupancy 0 0 size = 0 := by simp [ringOccupancy]

theorem ringSlots_pos {code : Nat} (h : code ≠ 0) : 0 < ringSlots code := by
  simp [ringSlots, h]

/-- A ring that is off holds nothing: both of its indices are 0. -/
theorem ringSlots_pos_of_occupied {code head tail : Nat} (hh : head < max 1 (ringSlots code))
    (ho : 0 < ringOccupancy head tail (ringSlots code)) : 0 < ringSlots code := by
  by_cases hc : code = 0
  · simp [hc, ringSlots, ringOccupancy] at ho hh; omega
  · exact ringSlots_pos hc

/-! ### What every change keeps -/

/-- `queuesBounded` as a property of the stores. -/
def queuesHold (v : Stores) : Prop :=
  v.keyEvents ≤ Config.keyQueueCapacity ∧ v.entries ≤ Config.printQueueCapacity ∧
    v.rings.staged.length ≤ Config.stagingCapacity

/-- `receiveRingSound` as a property of the stores. -/
def receiveHolds (v : Stores) : Prop :=
  v.rings.receiveSize ≤ 4 ∧
  v.rings.receiveHead < max 1 (ringSlots v.rings.receiveSize) ∧
  v.rings.receiveTail < max 1 (ringSlots v.rings.receiveSize) ∧
  v.rings.receiveOccupancy + v.rings.staged.length ≤ v.rings.receiveCapacity ∧
  (v.placing = true → v.rings.staged ≠ [])

/-- `sendRingSound` as a property of the stores. -/
def sendHolds (v : Stores) : Prop :=
  v.rings.sendSize ≤ 5 ∧
  v.rings.sendHead < max 1 (ringSlots v.rings.sendSize) ∧ v.rings.sendTail < max 1 (ringSlots v.rings.sendSize) ∧
  (v.rings.prefetched ≠ none → 0 < v.rings.sendOccupancy) ∧
  (v.fetching = true → 0 < v.rings.sendOccupancy ∧ v.rings.prefetched = none) ∧
  (v.sendWait ≠ .absent → 0 < v.rings.sendOccupancy ∧ v.rings.prefetched = none ∧ v.fetching = false) ∧
  (v.held.any HostCycle.isHeadWrite = true → v.rings.sendSize ≠ 0)

/-- `answerbackSound` as a property of the stores. -/
def answerbackHolds (v : Stores) : Prop :=
  v.answerback.length ≤ 32 ∧ v.answerback.remaining ≤ 32 ∧
  (v.answerback.running = true → 1 ≤ v.answerback.remaining) ∧
  (v.answerback.prefetched ≠ none → v.answerback.running = true) ∧
  (v.deferred ≠ none → v.answerback.running = true) ∧
  (v.reading = true → v.answerback.running = true ∧ v.answerback.prefetched = none) ∧
  (v.answerbackWait ≠ .absent →
    v.answerback.running = true ∧ v.answerback.prefetched = none ∧ v.reading = false)

/-- `freedPlaceSound` as a property of the stores. -/
def freedPlaceHolds (v : Stores) : Prop := v.freedPlace = true → v.entries = 47

theorem heldHeadWrite_iff (s : State) :
    heldHeadWrite s ↔ (s.arbiter.held.any HostCycle.isHeadWrite = true → s.rings.sendSize ≠ 0) := by
  unfold heldHeadWrite
  split
  · next h => simp [h, HostCycle.isHeadWrite]
  · next h =>
    simp only [true_iff]
    intro held
    obtain ⟨c, hc, head⟩ := (Option.any_eq_true _ _).1 held
    unfold HostCycle.isHeadWrite at head
    split at head
    · exact absurd hc (h _ _ _)
    · cases head

theorem sendRingSound_iff (s : State) : sendRingSound s ↔ sendHolds (stores s) := by
  simp only [sendRingSound, heldHeadWrite_iff]; rfl

theorem StoreMove.keeps_freedPlaceHolds : ∀ v w, StoreMove v w → freedPlaceHolds v → freedPlaceHolds w := by
  intro v w move hv
  cases move with
  | consume n contested size =>
    intro full
    simp only [Bool.and_eq_true, decide_eq_true_eq] at full
    show n = 47
    omega
  | append | flush | reset => intro free; cases free
  | _ => exact hv

theorem StoreMove.keeps_queuesHold : ∀ v w, StoreMove v w → queuesHold v → queuesHold w := by
  rintro v w move ⟨keys, entries, staged⟩
  cases move with
  | append room => exact ⟨keys, room, staged⟩
  | consume n contested size => exact ⟨keys, by simp only [size] at entries ⊢; omega, staged⟩
  | flush => exact ⟨keys, Nat.zero_le _, staged⟩
  | joinKey room => exact ⟨room, entries, staged⟩
  | leaveKey n le => exact ⟨le.trans keys, entries, staged⟩
  | stage record fits =>
    simp only [Rings.accepts, Bool.and_eq_true, decide_eq_true_eq] at fits
    exact ⟨keys, entries, by simpa using fits.1⟩
  | placed => exact ⟨keys, entries, by simp only [List.length_tail]; omega⟩
  | clearRings => exact ⟨keys, entries, Nat.zero_le _⟩
  | reset => exact ⟨Nat.zero_le _, Nat.zero_le _, Nat.zero_le _⟩
  | _ => exact ⟨keys, entries, staged⟩

theorem StoreMove.keeps_receiveHolds : ∀ v w, StoreMove v w → receiveHolds v → receiveHolds w := by
  rintro v w move ⟨size, head, tail, fill, placing⟩
  cases move with
  | stage record fits =>
    simp only [Rings.accepts, Bool.and_eq_true, decide_eq_true_eq] at fits
    refine ⟨size, head, tail, ?_, by simp⟩
    simp only [List.length_append, List.length_singleton]
    exact fits.2
  | placed live =>
    obtain ⟨record, rest, staged⟩ := List.exists_cons_of_ne_nil (placing live)
    simp only [Rings.receiveOccupancy, Rings.receiveCapacity, ringCapacity, staged, List.length_cons] at fill
    have slots : 0 < ringSlots v.rings.receiveSize := by omega
    have wide : max 1 (ringSlots v.rings.receiveSize) = ringSlots v.rings.receiveSize := by omega
    rw [wide] at head tail
    have free : ringNext v.rings.receiveHead (ringSlots v.rings.receiveSize) ≠ v.rings.receiveTail := fun meets => by
      have := ringOccupancy_of_next_head head meets; omega
    have grows := ringOccupancy_next_head head tail free
    refine ⟨size, by rw [wide]; exact ringNext_lt _ slots, by rwa [wide], ?_, by simp⟩
    simp only [Rings.receiveOccupancy, Rings.receiveCapacity, ringCapacity, staged, List.tail_cons, grows]
    omega
  | consumeRecord occupied =>
    have slots := ringSlots_pos_of_occupied head occupied
    have wide : max 1 (ringSlots v.rings.receiveSize) = ringSlots v.rings.receiveSize := by omega
    have head' := wide ▸ head
    have tail' := wide ▸ tail
    have shrinks := ringOccupancy_next_tail head' tail' occupied
    refine ⟨size, head, by rw [wide]; exact ringNext_lt _ slots, ?_, placing⟩
    simp only [Rings.receiveOccupancy, Rings.receiveCapacity] at fill shrinks ⊢
    omega
  | placeReceive base code idle small =>
    simp only [receiveIdle, Bool.and_eq_true, decide_eq_true_eq] at idle
    exact ⟨small size, by simp, by simp, by simp [Rings.receiveOccupancy, ringOccupancy_zero, idle.2], placing⟩
  | clearRings => exact ⟨size, by simp, by simp, by simp [Rings.receiveOccupancy, ringOccupancy_zero], by simp⟩
  | startPlacement staged => exact ⟨size, head, tail, fill, fun _ => staged⟩
  | fetched | otherGrant | startFetch | startRead | readDone => exact ⟨size, head, tail, fill, nofun⟩
  | reset => exact ⟨by decide, by decide, by decide, by decide, nofun⟩
  | _ => exact ⟨size, head, tail, fill, placing⟩

theorem StoreMove.keeps_answerbackHolds : ∀ v w, StoreMove v w → answerbackHolds v → answerbackHolds w := by
  rintro v w move ⟨length, left, runs, offers, defers, reads, asks⟩
  cases move with
  | setAnswerback base n small => exact ⟨small length, left, runs, offers, defers, reads, asks⟩
  | trigger idle filled =>
    refine ⟨length, length, fun _ => Nat.pos_of_ne_zero filled, nofun, fun _ => rfl, fun live => ⟨rfl, rfl⟩, fun asked => ?_⟩
    exact ⟨rfl, rfl, (asks asked).2.2⟩
  | abort => exact ⟨length, left, nofun, nofun, nofun, nofun, nofun⟩
  | readDone data live =>
    have running := (reads live).1
    refine ⟨length, left, runs, fun _ => running, defers, nofun, fun asked => ?_⟩
    have := (asks asked).2.2
    simp_all
  | takeByte held more =>
    have running := offers held
    refine ⟨length, by simp only; omega, fun _ => by simp only; omega, nofun, defers, fun live => ⟨running, rfl⟩, fun asked => ?_⟩
    exact ⟨running, rfl, (asks asked).2.2⟩
  | takeLastByte held last =>
    refine ⟨length, by simp only; omega, nofun, nofun, nofun, fun live => ?_, fun asked => ?_⟩
    · exact absurd (reads live).2 held
    · exact absurd (asks asked).2.1 held
  | deferRow row running => exact ⟨length, left, runs, offers, fun _ => running, reads, asks⟩
  | askRead wait may => exact ⟨length, left, runs, offers, defers, reads, fun _ => may.elim asks id⟩
  | placed | fetched | otherGrant | startPlacement | startFetch =>
    exact ⟨length, left, runs, offers, defers, nofun, fun asked => ⟨(asks asked).1, (asks asked).2.1, rfl⟩⟩
  | startRead asked =>
    obtain ⟨running, empty, _⟩ := asks asked
    exact ⟨length, left, runs, offers, defers, fun _ => ⟨running, empty⟩, nofun⟩
  | reset => exact ⟨by decide, by decide, nofun, nofun, nofun, nofun, nofun⟩
  | _ => exact ⟨length, left, runs, offers, defers, reads, asks⟩

theorem StoreMove.keeps_sendHolds : ∀ v w, StoreMove v w → sendHolds v → sendHolds w := by
  rintro v w move ⟨size, head, tail, offers, fetches, asks, heads⟩
  cases move with
  | placeSend base code idle released small =>
    simp only [sendIdle, decide_eq_true_eq] at idle
    refine ⟨small size, by simp, by simp, fun held => ?_, fun live => ?_, fun asked => ?_, by simp [released]⟩
    · have := offers held; omega
    · have := (fetches live).1; omega
    · have := (asks asked).1; omega
  | capture on free =>
    have slots : 0 < ringSlots v.rings.sendSize := ringSlots_pos (on.elim id heads)
    have wide : max 1 (ringSlots v.rings.sendSize) = ringSlots v.rings.sendSize := by omega
    have grows := ringOccupancy_next_head (wide ▸ head) (wide ▸ tail) free
    have filled : 0 < ringOccupancy (ringNext v.rings.sendHead (ringSlots v.rings.sendSize)) v.rings.sendTail
        (ringSlots v.rings.sendSize) := by omega
    exact ⟨size, by rw [wide]; exact ringNext_lt _ slots, tail, fun _ => filled, fun live => ⟨filled, (fetches live).2⟩,
      fun asked => ⟨filled, (asks asked).2⟩, nofun⟩
  | takeSend held =>
    have occupied := offers held
    have slots := ringSlots_pos_of_occupied head occupied
    have wide : max 1 (ringSlots v.rings.sendSize) = ringSlots v.rings.sendSize := by omega
    refine ⟨size, head, by rw [wide]; exact ringNext_lt _ slots, nofun, fun live => ?_, fun asked => ?_, heads⟩
    · exact absurd (fetches live).2 held
    · exact absurd (asks asked).2.1 held
  | fetched data live =>
    obtain ⟨occupied, empty⟩ := fetches live
    refine ⟨size, head, tail, fun _ => occupied, nofun, fun asked => ?_, heads⟩
    have := (asks asked).2.2
    simp_all
  | clearRings => exact ⟨size, by simp, by simp, nofun, nofun, nofun, heads⟩
  | askFetch wait may => exact ⟨size, head, tail, offers, fetches, fun _ => may.elim asks id, heads⟩
  | placed | readDone | otherGrant | startPlacement | startRead =>
    exact ⟨size, head, tail, offers, nofun, fun asked => ⟨(asks asked).1, (asks asked).2.1, rfl⟩, heads⟩
  | startFetch asked =>
    obtain ⟨occupied, empty, _⟩ := asks asked
    exact ⟨size, head, tail, offers, fun _ => ⟨occupied, empty⟩, nofun, heads⟩
  | hold c on => exact ⟨size, head, tail, offers, fetches, asks, on⟩
  | release => exact ⟨size, head, tail, offers, fetches, asks, nofun⟩
  | reset => exact ⟨by decide, by decide, by decide, nofun, nofun, nofun, nofun⟩
  | _ => exact ⟨size, head, tail, offers, fetches, asks, heads⟩

end Sys2Proof.Machine

namespace Sys2Proof.Machine

/-! ### The invariants -/

/-- A step changes the stores only as the moves of events do. -/
theorem step_evolves {s t : State} (h : step s = .next t) : Evolves s t := by
  unfold step at h
  split at h
  · cases h; exact .refl s
  · next command rest _ => exact (exec_evolves { s with pending := rest } command h).from_eq rfl

/-- Settles O54: every change that an event makes to the queues and the rings keeps their bounds. -/
theorem ringsInvariant : Obligations.RingsInvariant := by
  refine ⟨fun s t hs h => ?_, fun s t hs h => (step_evolves h).keeps StoreMove.keeps_freedPlaceHolds hs⟩
  obtain ⟨queues, receive, send⟩ := hs
  have moves := step_evolves h
  exact ⟨moves.keeps StoreMove.keeps_queuesHold queues, moves.keeps StoreMove.keeps_receiveHolds receive,
    (sendRingSound_iff t).2 (moves.keeps StoreMove.keeps_sendHolds ((sendRingSound_iff s).1 send))⟩

/-- Settles O55: every change that an event makes to the Answerback Unit keeps it consistent. -/
theorem answerbackInvariant : Obligations.AnswerbackInvariant := fun _ _ hs h =>
  (step_evolves h).keeps StoreMove.keeps_answerbackHolds hs

end Sys2Proof.Machine

namespace Sys2Proof.Machine

/-! ## The end of an event, block by block

`settle` moves the waits for PRINT, the Flow Controller and the Line Transmitter; every other block of the state it leaves is the one the event left. -/

section
variable (s : State)

@[simp] theorem settle_passage : (settle s).passage = s.passage := settle_changesOnly s .passage (by decide)
@[simp] theorem settle_status : (settle s).status = s.status := settle_changesOnly s .status (by decide)
@[simp] theorem settle_pins : (settle s).pins = s.pins := settle_changesOnly s .pins (by decide)
@[simp] theorem settle_arbiter : (settle s).arbiter = s.arbiter := settle_changesOnly s .arbiter (by decide)
@[simp] theorem settle_rings : (settle s).rings = s.rings := settle_changesOnly s .rings (by decide)
@[simp] theorem settle_keyboard : (settle s).keyboard = s.keyboard := settle_changesOnly s .keyboard (by decide)
@[simp] theorem settle_translator : (settle s).translator = s.translator := settle_changesOnly s .translator (by decide)
@[simp] theorem settle_receiver : (settle s).receiver = s.receiver := settle_changesOnly s .receiver (by decide)
@[simp] theorem settle_tones : (settle s).tones = s.tones := settle_changesOnly s .tones (by decide)
@[simp] theorem settle_answerback : (settle s).answerback = s.answerback := settle_changesOnly s .answerback (by decide)
@[simp] theorem settle_carriage : (settle s).carriage = s.carriage := settle_changesOnly s .carriage (by decide)
@[simp] theorem settle_dot : (settle s).dot = s.dot := settle_changesOnly s .dot (by decide)
@[simp] theorem settle_sensor : (settle s).sensor = s.sensor := settle_changesOnly s .sensor (by decide)
@[simp] theorem settle_command : (settle s).command = s.command := settle_changesOnly s .command (by decide)
@[simp] theorem settle_attention : (settle s).attention = s.attention := settle_changesOnly s .attention (by decide)
@[simp] theorem settle_pending : (settle s).pending = s.pending := settle_changesOnly s .pending (by decide)

/-- Of the Character Switch only the waits for PRINT move. -/
theorem settle_switch : (settle s).switch = { s.switch with printWaits := (settle s).switch.printWaits } :=
  (settle_touches s).1

end

/-- An event that changes only `blocks`, none of them the switch, the flow or the transmitter, and then settles. -/
theorem settlesOnly_of_settle {blocks : List Block} {s u : State} (h : changesOnly blocks s u)
    (hb : ∀ b ∈ [Block.switch, .flow, .transmitter], b ∉ blocks) : settlesOnly blocks s (settle u) :=
  ⟨(settle_changesOnly u).after (by simp) (h.mono fun _ hm => by simp [hm]),
    onlySettles_of_settle (h .switch (hb _ (by decide))) (h .flow (hb _ (by decide)))
      (h .transmitter (hb _ (by decide)))⟩

/-! ## Join rows and ring placement (R2, R5, R24) -/

/-- R2: the cells of a written row that are legal for its source. -/
theorem rowOfByte_eq (source : Source) (data : Byte) :
    rowOfByte source data = (match source with
      | .keyboard => ⟨data.getLsbD 0, data.getLsbD 1, data.getLsbD 2⟩
      | .lineIn => ⟨false, data.getLsbD 1, data.getLsbD 2⟩
      | .sendRing => ⟨data.getLsbD 0, data.getLsbD 1, false⟩
      | .answerback => ⟨data.getLsbD 0, data.getLsbD 1, false⟩) := by
  cases source <;> simp [rowOfByte]

theorem writeControl_joinRow (source : Source) (data : Byte) (s : State) :
    writeControl (joinRowOffset source) data s = setRow source (rowOfByte source data) s := by
  cases source <;> rfl

theorem writeControl_ringByte (byte : RingByte) (data : Byte) (s : State) :
    writeControl (ringByteOffset byte) data s = writeRingPlacement byte data s := by
  cases byte <;> rfl

/-- R5: each row changes at once, but for the ANSWERBACK row of a running answerback, which is deferred. -/
theorem setRow_switch (source : Source) (row : Row) (s : State) :
    (setRow source row s).switch = { s.switch with
      keyboard := if source = .keyboard then row else s.switch.keyboard
      lineIn := if source = .lineIn then row else s.switch.lineIn
      sendRing := if source = .sendRing then row else s.switch.sendRing
      answerback := if source = .answerback ∧ s.answerback.running = false then row else s.switch.answerback
      deferred := if source = .answerback ∧ s.answerback.running = true then some row else s.switch.deferred } := by
  cases source with
  | answerback => cases running : s.answerback.running <;> simp [setRow, running]
  | _ => simp [setRow]

/-- Settles O7: the write reaches `setRow`, which the judgement of the waits and the demands follows. -/
theorem joinRowWriteClamps : Obligations.JoinRowWriteClamps := by
  intro s source data free
  let u := setRow source (rowOfByte source data)
    (driveMemory [.write (controlAddress s.passage.page (joinRowOffset source)) data] s)
  have frame : changesOnly [.switch, .pins] s u :=
    (setRow_frame _ _ _).after (by decide) ((driveMemory_frame _ s).mono (by decide))
  have rows := setRow_switch source (rowOfByte source data)
    (driveMemory [.write (controlAddress s.passage.page (joinRowOffset source)) data] s)
  have pins : u.pins = _ := setRow_frame source _ _ .pins (by decide)
  refine ⟨settle u, ?_, ?_, ?_, ?_, ?_⟩
  · simp only [exec, execJoinRowWrite]
    rw [writeAt_of_portFree free data (by cases source <;> exact fun h => absurd h (by decide)), writeControl_joinRow]
  · rw [settle_switch, rows]
    cases source <;> simp [rowOfByte_eq, driveMemory]
  · rw [hostWrote, settle_pins, pins]
    cases source <;> rfl
  · exact (settle_changesOnly u).after (by decide) (frame.mono (by decide))
  · refine onlySettles_of_settle ?_ (frame .flow (by decide)) (frame .transmitter (by decide))
    show u.switch = _
    rw [settle_switch, rows]
    rfl

/-- R24: a receive placement byte is taken by an idle ring alone. -/
theorem placeReceive_takes (f : Rings → Rings) (s : State) :
    if s.rings.receiveOccupancy = 0 ∧ s.rings.staged = [] then
      (placeReceive f s).rings = { f s.rings with receiveHead := 0, receiveTail := 0, lossMark := false } ∧
        (placeReceive f s).status = s.status
    else (placeReceive f s).rings = s.rings ∧ (placeReceive f s).status = { s.status with setupRefused := true } := by
  by_cases idle : s.rings.receiveOccupancy = 0 ∧ s.rings.staged = [] <;>
    simp [placeReceive, receiveIdle, setSetupRefused, idle]

/-- R24: a send placement byte is taken by an idle ring alone. -/
theorem placeSend_takes (f : Rings → Rings) (s : State) :
    if s.rings.sendOccupancy = 0 then
      (placeSend f s).rings = { f s.rings with sendHead := 0, sendTail := 0 } ∧ (placeSend f s).status = s.status
    else (placeSend f s).rings = s.rings ∧ (placeSend f s).status = { s.status with setupRefused := true } := by
  by_cases idle : s.rings.sendOccupancy = 0 <;> simp [placeSend, sendIdle, setSetupRefused, idle]

theorem writeRingPlacement_frame (byte : RingByte) (data : Byte) (s : State) :
    changesOnly [.rings, .status] s (writeRingPlacement byte data s) := by
  have receive : ∀ f, changesOnly [.rings, .status] s (placeReceive f s) := fun f => by
    unfold placeReceive
    split
    · exact (onRings_frame s _).mono (by decide)
    · exact (onStatus_frame s _).mono (by decide)
  have send : ∀ f, changesOnly [.rings, .status] s (placeSend f s) := fun f => by
    unfold placeSend
    split
    · exact (onRings_frame s _).mono (by decide)
    · exact (onStatus_frame s _).mono (by decide)
  cases byte with
  | receiveBaseLow | receiveBaseHigh | receiveSize => exact receive _
  | sendBaseLow | sendBaseHigh | sendSize => exact send _

theorem clamp_zero (high n : Nat) : clamp 0 high n = min n high := Nat.zero_max _

/-- Settles O8: the write reaches `writeRingPlacement`, and each byte is taken as its ring allows. -/
theorem ringPlacementWrite : Obligations.RingPlacementWrite := by
  intro s byte data free
  let driven := driveMemory [.write (controlAddress s.passage.page (ringByteOffset byte)) data] s
  have frame := writeRingPlacement_frame byte data driven
  refine ⟨settle (writeRingPlacement byte data driven), ?_, ?_, ?_, ?_⟩
  · simp only [exec, execRingPlacementWrite]
    rw [writeAt_of_portFree free data (by cases byte <;> exact fun h => absurd h (by decide)), writeControl_ringByte]
  · simp only [settle_rings, settle_status]
    cases byte with
    | receiveBaseLow | receiveBaseHigh => exact placeReceive_takes _ driven
    | receiveSize => simp only [writeRingPlacement, clamp_zero]; exact placeReceive_takes _ driven
    | sendBaseLow | sendBaseHigh => exact placeSend_takes _ driven
    | sendSize => simp only [writeRingPlacement, clamp_zero]; exact placeSend_takes _ driven
  · have pins : (writeRingPlacement byte data driven).pins = driven.pins := frame .pins (by decide)
    rw [hostWrote, settle_pins, pins]
    cases byte <;> rfl
  · exact settlesOnly_of_settle (frame.after (by decide) ((driveMemory_frame _ s).mono (by decide))) (by decide)

end Sys2Proof.Machine

namespace Sys2Proof.Machine

/-! ## Requests for the owners' grants (R18, R22, R111) -/

/-- R18: the arbiter after the Ring Unit has asked for the placement of the oldest staged record. -/
theorem requestPlacement_arbiter (s : State) :
    (requestPlacement s).arbiter = { s.arbiter with
      receiveWriter := waitAfterRequest (decide (s.rings.staged ≠ [])) .receiveWriter s } := by
  have asked := requestGrant_arbiter (decide (s.rings.staged ≠ [])) .receiveWriter s
  simp only [decide_eq_true_eq] at asked
  exact asked

/-- R22: the arbiter after the Ring Unit has asked for the byte at the tail, if it may. -/
theorem requestSendFetch_arbiter (s : State) :
    (requestSendFetch s).arbiter = { s.arbiter with
      sendRing := waitAfterRequest (decide (0 < s.rings.sendOccupancy ∧ s.rings.prefetched = none)) .sendRing s } := by
  have asked := requestGrant_arbiter (decide (0 < s.rings.sendOccupancy ∧ s.rings.prefetched = none)) .sendRing s
  simp only [decide_eq_true_eq, and_assoc] at asked
  exact asked

/-- R111: the arbiter after the Answerback Unit has asked for its next byte, if it may. -/
theorem requestAnswerbackRead_arbiter (s : State) :
    (requestAnswerbackRead s).arbiter = { s.arbiter with
      answerback := waitAfterRequest (decide (s.answerback.running = true ∧ s.answerback.prefetched = none ∧
        0 < s.answerback.remaining)) .answerback s } := by
  have asked := requestGrant_arbiter (decide (s.answerback.running = true ∧ s.answerback.prefetched = none ∧
    0 < s.answerback.remaining)) .answerback s
  simp only [decide_eq_true_eq, and_assoc] at asked
  exact asked

/-! ## Watched host cycles (R19, R21, R32, R163) -/

/-- R21: the head of a ring that is not full advances, and the byte at the tail is asked for; a full ring overflows. -/
theorem captureHead_advances (s : State) :
    if ringNext s.rings.sendHead (ringSlots s.rings.sendSize) = s.rings.sendTail then
      (captureHead s).rings = s.rings ∧ (captureHead s).status = { s.status with sendOverflow := true } ∧
        (captureHead s).arbiter = s.arbiter
    else
      (captureHead s).rings = { s.rings with sendHead := ringNext s.rings.sendHead (ringSlots s.rings.sendSize) } ∧
        (captureHead s).status = s.status ∧
        (captureHead s).arbiter = { s.arbiter with
          sendRing := waitAfterRequest
            (decide (0 < (captureHead s).rings.sendOccupancy ∧ s.rings.prefetched = none)) .sendRing s } := by
  unfold captureHead
  split
  · exact ⟨rfl, rfl, rfl⟩
  · let advanced := s.onRings fun r => { r with sendHead := ringNext r.sendHead (ringSlots r.sendSize) }
    have frame := requestSendFetch_frame advanced
    have rings : (requestSendFetch advanced).rings = advanced.rings := frame .rings (by decide)
    refine ⟨rings, frame .status (by decide), ?_⟩
    rw [requestSendFetch_arbiter, rings]
    rfl

/-- R32: the byte of a header entry is stored in that entry alone. -/
theorem captureHeader_keyboard (entry : HeaderEntry) (data : Byte) (s : State) :
    (captureHeader entry data s).keyboard = { s.keyboard with
      header := ⟨if entry = .shiftA then headerPosition data else s.keyboard.header.shiftA,
        if entry = .shiftB then headerPosition data else s.keyboard.header.shiftB,
        if entry = .control then headerPosition data else s.keyboard.header.control,
        if entry = .lock then headerPosition data else s.keyboard.header.lock⟩ } := by
  cases entry <;> rfl

/-- R163: a read of the code byte at the receive tail of a ring that holds a record consumes it. -/
theorem judgeRead_tailCode {s : State} (on : s.rings.receiveSize ≠ 0) (occupied : 0 < s.rings.receiveOccupancy)
    (outside : controlOffset s.passage.page (tailCodeAddress s.rings) = none) :
    judgeRead (tailCodeAddress s.rings) s = .passed true := by
  simp [judgeRead, outside, on, occupied]

/-- A captured head: the passed write reaches the send ring alone. -/
theorem headCapture_advances {s : State} (data : Byte) (free : portFree s)
    (judged : judgeWrite (headSlotAddress s.rings) s = .passed true none) :
    exec (.headCapture data) s = .next (captureHead (driveMemory [.write (headSlotAddress s.rings) data] s)) := by
  simp only [exec, execHeadCapture]
  rw [hostWrite_of_portFree free, judged]
  rfl

/-- Settles O13: each watcher's part of a passed cycle. -/
theorem watchedCycles : Obligations.WatchedCycles := by
  refine ⟨?_, ?_, ?_⟩
  · intro s data free _ judged
    let driven := driveMemory [.write (headSlotAddress s.rings) data] s
    have frame := captureHead_frame driven
    refine ⟨captureHead driven, headCapture_advances data free judged, captureHead_advances driven,
      frame .pins (by decide), ?_⟩
    exact frame.after (by decide) ((driveMemory_frame _ s).mono (by decide))
  · intro s entry data free address judged
    have at_entry : s.keyboard.keymapBase + BitVec.ofNat 16 (headerEntryOffset entry) = address := by
      cases entry <;> rfl
    let driven := driveMemory [.write address data] s
    refine ⟨captureHeader entry data driven, ?_, captureHeader_keyboard entry data driven, rfl, ?_⟩
    · simp only [exec, execHeaderCapture, at_entry]
      rw [hostWrite_of_portFree free, judged]
      rfl
    · exact (captureHeader_frame entry data driven).after (by decide) ((driveMemory_frame _ s).mono (by decide))
  · intro s data free on occupied address outside
    let passed := driveMemory [.read address data] (s.onPins fun p => { p with hostData := data })
    have frame : changesOnly [.pins] s passed := (driveMemory_frame _ _).after (by decide) (onPins_frame s _)
    refine ⟨settle (consumeRecord passed), ?_, ?_, ?_, ?_⟩
    · simp only [exec, execConsumeRead]
      rw [hostRead_of_portFree free, judgeRead_tailCode on occupied outside]
      rfl
    · simp only [settle_rings, consumeRecord]
      rw [if_pos (show 0 < passed.rings.receiveOccupancy from occupied)]
      rfl
    · rw [settle_pins, consumeRecord_frame passed .pins (by decide)]
      rfl
    · exact settlesOnly_of_settle
        ((consumeRecord_frame passed).after (by decide) (frame.mono (by decide))) (by decide)

end Sys2Proof.Machine

namespace Sys2Proof.Machine

/-! ## Grants and held cycles (R18, R20, R22, R111, R171 to R173) -/

/-- An owner whose action does not see the held cycle holds none where none was held. -/
theorem held_of_commutes {act : State → State}
    (hact : ∀ (g : Option HostCycle) (t : State), act (t.withHeld g) = (act t).withHeld g) {t : State}
    (ht : t.arbiter.held = none) : (act t).arbiter.held = none := by
  have same : t.withHeld none = t := by rw [← ht]; rfl
  rw [← same, hact]
  rfl

/-- R171: a grant has run its cycles and is no longer running; its owner has not acted yet. -/
def grantEnded (cycles : List MemCycle) (s : State) : State :=
  driveMemory cycles (s.onArbiter fun a => { a with grant := none })

theorem grantEnded_frame (cycles : List MemCycle) (s : State) : changesOnly [.pins, .arbiter] s (grantEnded cycles s) :=
  (driveMemory_frame _ _).after (by decide) ((onArbiter_frame s _).mono (by decide))

/-- R171: with no host cycle held the end of a grant is its owner's action on the data. -/
theorem finishGrant_of_released {cycles : List MemCycle} {act : State → State} {s : State}
    (hact : ∀ (g : Option HostCycle) (t : State), act (t.withHeld g) = (act t).withHeld g)
    (held : s.arbiter.held = none) :
    finishGrant cycles act s = settle (act (grantEnded cycles s)) := by
  refine passHeld_of_none ?_
  rw [settle_arbiter]
  exact held_of_commutes hact held

/-- R171: a held cycle passes on the state that the grant has left, behind the grant's own memory cycles. -/
theorem passHeld_of_held {s : State} (held : s.arbiter.held = none) (cycle : HostCycle) :
    passHeld (s.withHeld (some cycle)) =
      (passCycle cycle s).onPins fun p => { p with memory := s.pins.memory ++ p.memory } := by
  have back : (s.withHeld (some cycle)).onArbiter (fun a => { a with held := none }) = s := by
    conv_rhs => rw [← withHeld_self s, held]
    rfl
  simp only [passHeld, withHeld_held, back, withHeld_pins]

theorem unlessDiscarded_withHeld {act : State → State}
    (hact : ∀ (g : Option HostCycle) (t : State), act (t.withHeld g) = (act t).withHeld g) (discarded : Bool)
    (g : Option HostCycle) (t : State) :
    unlessDiscarded discarded act (t.withHeld g) = (unlessDiscarded discarded act t).withHeld g := by
  unfold unlessDiscarded; split
  · rfl
  · exact hact g t

/-- R171: the completion of a running grant: the grant ends with its owner's action, which does not see the held cycle. -/
theorem exec_of_completesGrant {command : Instr} {grant : Grant} (h : completesGrant command grant = true) :
    ∃ (cycles : List MemCycle) (act : State → State),
      (∀ (g : Option HostCycle) (t : State), act (t.withHeld g) = (act t).withHeld g) ∧
      ∀ s : State, s.arbiter.grant = some grant → exec command s = .next (finishGrant cycles act s) := by
  unfold completesGrant at h
  split at h
  · exact ⟨_, _, unlessDiscarded_withHeld advanceReceiveHead_withHeld _,
      fun s hg => by simp only [exec, execReceivePlacement, hg]; rfl⟩
  · exact ⟨_, _, unlessDiscarded_withHeld (fun g t => holdSendByte_withHeld g t _) _,
      fun s hg => by simp only [exec, execSendFetch, hg]; rfl⟩
  · exact ⟨_, _, unlessDiscarded_withHeld (fun g t => holdAnswerbackByte_withHeld g t _) _,
      fun s hg => by simp only [exec, execAnswerbackRead, hg]; rfl⟩
  · exact ⟨_, _, unlessDiscarded_withHeld (fun g t => loadHeader_withHeld g t _ _ _ _) _,
      fun s hg => by simp only [exec, execHeaderLoad, hg]; rfl⟩
  · refine ⟨_, _, ?_, fun s hg => by simp only [exec, execEligibilityRead, hg]; rfl⟩
    intro g t
    simp only [onKeyboard_withHeld, chooseRepeat_withHeld]
  · exact ⟨_, _, unlessDiscarded_withHeld (fun g t => translate_withHeld g t _) _,
      fun s hg => by simp only [exec, execTranslationRead, hg]; rfl⟩
  · exact ⟨_, _, unlessDiscarded_withHeld (fun g t => holdGlyph_withHeld g t _ _ _ _ _) _,
      fun s hg => by simp only [exec, execGlyphFetch, hg]; rfl⟩
  · cases h

/-- A grant starts in the same way with a host cycle held and with none. -/
theorem startNextGrant_withHeld (g : Option HostCycle) (s : State) :
    startNextGrant (s.withHeld g) = (startNextGrant s).withHeld g := by
  have first : firstWaiting (s.withHeld g).arbiter = firstWaiting s.arbiter := by
    simp only [firstWaiting, withHeld_wait]
  unfold startNextGrant
  rw [first]
  split
  · rfl
  · rfl
  · simp only [withHeld_rings]
    split <;> rfl
  · rfl
  · show beginKeymapGrant (s.withHeld g) = (beginKeymapGrant s).withHeld g
    unfold beginKeymapGrant
    simp only [withHeld_arbiter_keymapQueue]
    split
    · rfl
    · next read rest _ => cases read <;> rfl
  · rfl
  · rfl

/-- R172: while a request waits that its owner can serve, a grant starts. -/
theorem startNextGrant_grants {s : State} {r : Requester} (waiting : s.arbiter.wait r ≠ .absent)
    (staged : s.arbiter.receiveWriter ≠ .absent → s.rings.staged ≠ [])
    (queued : s.arbiter.keymap ≠ .absent → s.arbiter.keymapQueue ≠ []) :
    (startNextGrant s).arbiter.grant ≠ none := by
  unfold startNextGrant
  cases found : firstWaiting s.arbiter with
  | none =>
    have none_waits := List.find?_eq_none.1 found r (by cases r <;> decide)
    exact absurd waiting (by simpa using none_waits)
  | some first =>
    have first_waits : s.arbiter.wait first ≠ .absent := by simpa using List.find?_some found
    cases first with
    | receiveWriter =>
      obtain ⟨record, rest, h⟩ := List.exists_cons_of_ne_nil (staged first_waits)
      simp [h, beginGrant]
    | keymap =>
      obtain ⟨read, rest, h⟩ := List.exists_cons_of_ne_nil (queued first_waits)
      simp [h, beginKeymapGrant]
    | _ => simp [beginGrant]

theorem stretchDue_of_overdue {a : Arbiter} {r : Requester} (h : a.wait r = .overdue) : stretchDue a = true :=
  List.any_eq_true.2 ⟨r, by cases r <;> decide, by simp [h]⟩

theorem waitAfterRequest_congr {s t : State} (h : t.arbiter = s.arbiter) (requested : Bool) (r : Requester) :
    waitAfterRequest requested r t = waitAfterRequest requested r s := by
  unfold waitAfterRequest grantLive
  rw [h]

/-- A request that is raised under a condition. -/
theorem raiseIf_attention (c : Prop) [Decidable c] (a : AttentionSource) (s : State) :
    (if c then raise a s else s).attention =
      { s.attention with flags := s.attention.flags ||| flagIf (decide c) a } := by
  by_cases h : c <;> simp [raise, flagIf, h]

theorem raiseIf_frame (c : Prop) [Decidable c] (a : AttentionSource) (s : State) :
    changesOnly [.attention] s (if c then raise a s else s) := by
  split
  · exact raise_frame a s
  · exact changesOnly_refl _ s

/-- R18, R20: what the advance of the receive head leaves in the rings, the requests and the arbiter. -/
theorem advanceReceiveHead_blocks (s : State) :
    (advanceReceiveHead s).rings = { s.rings with
      receiveHead := ringNext s.rings.receiveHead (ringSlots s.rings.receiveSize), staged := s.rings.staged.tail } ∧
    (advanceReceiveHead s).attention = { s.attention with
      flags := s.attention.flags |||
        flagIf (min s.rings.notifyLevel (ringSlots s.rings.receiveSize - 1) ≤
          (advanceReceiveHead s).rings.receiveOccupancy) .rxLevel } ∧
    (advanceReceiveHead s).arbiter = { s.arbiter with
      receiveWriter := waitAfterRequest (decide (s.rings.staged.tail ≠ [])) .receiveWriter s } ∧
    changesOnly [.rings, .attention, .arbiter] s (advanceReceiveHead s) := by
  let moved := s.onRings fun r =>
    { r with receiveHead := ringNext r.receiveHead (ringSlots r.receiveSize), staged := r.staged.tail }
  let level := if moved.rings.workingNotifyLevel ≤ moved.rings.receiveOccupancy then raise .rxLevel moved else moved
  have moves : changesOnly [.rings, .attention, .arbiter] s moved := (onRings_frame s _).mono (by decide)
  have raises : changesOnly [.attention] moved level := raiseIf_frame _ _ _
  have asks := requestPlacement_frame level
  have rings : (advanceReceiveHead s).rings = moved.rings :=
    (asks .rings (by decide)).trans (raises .rings (by decide))
  have arbiter : level.arbiter = s.arbiter := raises .arbiter (by decide)
  have staged : level.rings.staged = s.rings.staged.tail := by rw [raises .rings (by decide)]; rfl
  refine ⟨rings, ?_, ?_, asks.after (by decide) (raises.after (by decide) moves)⟩
  · rw [show (advanceReceiveHead s).attention = level.attention from asks .attention (by decide), rings]
    exact raiseIf_attention _ _ moved
  · show (requestPlacement level).arbiter = _
    rw [requestPlacement_arbiter, staged]
    rw [waitAfterRequest_congr arbiter, arbiter]

/-- Settles O52: the completions by their owners' actions, the host-cycle rows by `runCycle`, and the held cycle by `finishGrant_of_held`. -/
theorem ringGrants : Obligations.RingGrants := by
  refine ⟨?_, ?_, ?_, ?_, ?_, ?_, ?_, ?_⟩
  · intro s address tag code record rest grant held staged
    let ended := grantEnded [.write address tag, .write (address + 1) code] s
    obtain ⟨rings, attention, arbiter, frame⟩ := advanceReceiveHead_blocks ended
    have ends : changesOnly [.pins, .arbiter] s ended := grantEnded_frame _ s
    refine ⟨settle (advanceReceiveHead ended), ?_, ?_, ?_, ?_, ?_, ?_⟩
    · simp only [exec, execReceivePlacement, grant]
      rw [finishGrant_of_released (unlessDiscarded_withHeld advanceReceiveHead_withHeld _) held]
      rfl
    · rw [settle_rings, rings, show ended.rings.staged.tail = rest by simp [ended, grantEnded, driveMemory, staged]]
      rfl
    · rw [settle_pins, frame .pins (by decide)]
      rfl
    · rw [settle_attention, settle_rings, attention]
      rfl
    · rw [settle_arbiter, arbiter, show ended.rings.staged.tail = rest by simp [ended, grantEnded, driveMemory, staged]]
      by_cases more : rest = [] <;> simp [waitAfterRequest, ended, grantEnded, driveMemory, grantLive, Arbiter.wait, more]
    · exact settlesOnly_of_settle (frame.after (by decide) (ends.mono (by decide))) (by decide)
  · intro s address tag code grant held
    let ended := grantEnded [.write address tag, .write (address + 1) code] s
    have ends : changesOnly [.pins, .arbiter] s ended := grantEnded_frame _ s
    refine ⟨settle ended, ?_, by rw [settle_arbiter]; rfl, by rw [settle_pins]; rfl,
      settlesOnly_of_settle ends (by decide)⟩
    simp only [exec, execReceivePlacement, grant]
    rw [finishGrant_of_released (unlessDiscarded_withHeld advanceReceiveHead_withHeld _) held]
    rfl
  · intro s address discarded data grant held
    let ended := grantEnded [.read address data] s
    have ends : changesOnly [.pins, .arbiter] s ended := grantEnded_frame _ s
    refine ⟨settle (unlessDiscarded discarded (holdSendByte data) ended), ?_, ?_, ?_, ?_, ?_⟩
    · simp only [exec, execSendFetch, grant]
      rw [finishGrant_of_released (unlessDiscarded_withHeld (fun g t => holdSendByte_withHeld g t _) _) held]
    · rw [settle_rings]; cases discarded <;> rfl
    · rw [settle_arbiter]; cases discarded <;> rfl
    · rw [settle_pins]; cases discarded <;> rfl
    · refine settlesOnly_of_settle ?_ (by decide)
      cases discarded with
      | false => exact (onRings_frame ended _).after (by decide) (ends.mono (by decide))
      | true => exact ends.mono (by decide)
  · intro s address discarded data grant held
    let ended := grantEnded [.read address data] s
    have ends : changesOnly [.pins, .arbiter] s ended := grantEnded_frame _ s
    refine ⟨settle (unlessDiscarded discarded (holdAnswerbackByte data) ended), ?_, ?_, ?_, ?_, ?_⟩
    · simp only [exec, execAnswerbackRead, grant]
      rw [finishGrant_of_released (unlessDiscarded_withHeld (fun g t => holdAnswerbackByte_withHeld g t _) _) held]
    · rw [settle_answerback]; cases discarded <;> rfl
    · rw [settle_arbiter]; cases discarded <;> rfl
    · rw [settle_pins]; cases discarded <;> rfl
    · refine settlesOnly_of_settle ?_ (by decide)
      cases discarded with
      | false => exact (onAnswerback_frame ended _).after (by decide) (ends.mono (by decide))
      | true => exact ends.mono (by decide)
  · intro command s cycle row free
    obtain ⟨released, held, idle, calm⟩ := free
    rw [exec_of_hostCycleOf s row]
    simp [hostMayCycle, runCycle, released, held, idle, calm]
  · intro command s cycle row released held busy
    refine ⟨s.onArbiter fun a => { a with held := some cycle }, ?_, rfl, rfl, onArbiter_frame s _⟩
    rw [exec_of_hostCycleOf s row]
    simp [hostMayCycle, runCycle, released, held, busy]
  · intro command s cycle r row released held idle overdue staged queued
    refine ⟨(startNextGrant s).withHeld (some cycle), startNextGrant s, ?_, ?_, ?_, rfl, rfl⟩
    · rw [exec_of_hostCycleOf s row, ← startNextGrant_withHeld]
      simp only [hostMayCycle, runCycle, released, held, idle, stretchDue_of_overdue overdue]
      rfl
    · simp only [exec, execGrantStart, idle, held, and_self, if_true]
    · exact startNextGrant_grants (by rw [overdue]; nofun) staged queued
  · intro command s grant cycle completes running held
    obtain ⟨cycles, act, commutes, ends⟩ := exec_of_completesGrant completes
    obtain ⟨passes, none_held⟩ := finishGrant_of_held s cycles act commutes cycle
    have same : s.withHeld (some cycle) = s := by rw [← held]; exact withHeld_self s
    rw [same] at passes
    refine ⟨finishGrant cycles act s, finishGrant cycles act (s.withHeld none), ends _ running, ends _ running,
      none_held, ?_, ?_⟩
    · rw [passes, passHeld_of_held none_held]
      simp only [hostWait, State.onPins_arbiter, passCycle_held none_held, Option.isSome_none]
    · rw [passes, passHeld_of_held none_held]
      rfl

end Sys2Proof.Machine

namespace Sys2Proof.Machine

/-! ## The judgement that ends an event (R6 to R9, R96 to R101) -/

section
variable (s : State)

theorem LineState.onCall_iff (line : LineState) : line.onCall = true ↔ line = .data ∨ line = .fade := by
  cases line <;> simp [LineState.onCall]

theorem printRoom_iff : printRoom s = true ↔ s.carriage.queue.length < 48 := decide_eq_true_iff

theorem flowActive_iff :
    flowActive s = true ↔
      s.receiver.options.outboundFlow = true ∧ (s.receiver.line = .data ∨ s.receiver.line = .fade) := by
  rw [flowActive, Bool.and_eq_true, LineState.onCall_iff]

/-- R97: the print demand is held from 32 entries on and withdrawn at 8. -/
theorem judgedPrintDemand_iff :
    judgedPrintDemand s = true ↔
      (s.receiver.options.outboundFlow = true ∧ (s.receiver.line = .data ∨ s.receiver.line = .fade)) ∧
      s.switch.lineIn.print = true ∧
      (if s.flow.printDemand then 8 < s.carriage.queue.length else 32 ≤ s.carriage.queue.length) := by
  rw [judgedPrintDemand, Bool.and_eq_true, Bool.and_eq_true, flowActive_iff, and_assoc, Bool.ite_eq_true_distrib]
  simp only [decide_eq_true_eq]
  rfl

/-- R98: the ring demand is held from the working pause level down and withdrawn 8 above it. -/
theorem judgedRingDemand_iff :
    judgedRingDemand s = true ↔
      (s.receiver.options.outboundFlow = true ∧ (s.receiver.line = .data ∨ s.receiver.line = .fade)) ∧
      s.switch.lineIn.ring = true ∧ s.rings.receiveSize ≠ 0 ∧
      (if s.flow.ringDemand then s.rings.receiveFree < min (workingPauseLevel s + 8) s.rings.receiveCapacity
       else s.rings.receiveFree ≤ workingPauseLevel s) := by
  rw [judgedRingDemand, Bool.and_eq_true, Bool.and_eq_true, flowActive_iff, joinedRing, Bool.and_eq_true,
    decide_eq_true_iff, Bool.ite_eq_true_distrib]
  simp only [decide_eq_true_eq, and_assoc]

/-- R100, R101: the outbound flow state moves when demand arises or is withdrawn as a whole. -/
theorem judgeDemands_state :
    (judgeDemands s).flow.state =
      (match s.flow.state, s.flow.printDemand || s.flow.ringDemand, judgedPrintDemand s || judgedRingDemand s with
      | .clear, false, true => .pausePending
      | .pausePending, true, false => .clear
      | .paused, true, false => .resumePending
      | .resumePending, false, true => .paused
      | state, _, _ => state) := by
  cases before : s.flow.printDemand || s.flow.ringDemand <;>
    cases after : judgedPrintDemand s || judgedRingDemand s <;>
    simp only [judgeDemands, before, after] <;>
    cases state : s.flow.state <;>
    simp [demandArises, demandWithdrawn, state, requestFlowCode, cancelFlowCode]

/-- R89, R100, R101: a flow code is asked for or cancelled as the flow state moves. -/
theorem judgeDemands_transmitter :
    (judgeDemands s).transmitter =
      (match s.flow.state, s.flow.printDemand || s.flow.ringDemand, judgedPrintDemand s || judgedRingDemand s with
      | .clear, false, true => { s.transmitter with flowRequest := some .pause }
      | .paused, true, false => { s.transmitter with flowRequest := some .resume }
      | .pausePending, true, false => flowCodeCancelled s
      | .resumePending, false, true => flowCodeCancelled s
      | _, _, _ => s.transmitter) := by
  cases before : s.flow.printDemand || s.flow.ringDemand <;>
    cases after : judgedPrintDemand s || judgedRingDemand s <;>
    simp only [judgeDemands, before, after] <;>
    cases state : s.flow.state <;>
    simp [demandArises, demandWithdrawn, state, requestFlowCode, cancelFlowCode_eq, flowCodeCancelled]

/-! ### The waits for PRINT (R6) -/

theorem waiterPresent_iff (w : Waiter) : waiterPresent w s = true ↔ waits w s := by
  cases w with
  | keyboard =>
    simp only [waiterPresent, offered, waits]
    cases s.translator <;> simp
  | sendRing => simp [waiterPresent, offered, waits, Option.isSome_iff_ne_none]
  | answerback => simp [waiterPresent, offered, waits, Option.isSome_iff_ne_none]
  | feed => simp [waiterPresent, waits]

theorem waiterPrints_iff (w : Waiter) : waiterPrints w s = true ↔ goesToPrint w s := by
  cases w <;> simp [waiterPrints, goesToPrint]

/-- The judgement of the demands changes nothing that the waits depend on. -/
theorem settle_printWaits (w : Waiter) : (settle s).switch.printWaits.get w = judgedWait w s := by
  have frame := judgeDemands_changesOnly s
  have switch : (judgeDemands s).switch = s.switch := frame .switch (by decide)
  have carriage : (judgeDemands s).carriage = s.carriage := frame .carriage (by decide)
  have translator : (judgeDemands s).translator = s.translator := frame .translator (by decide)
  have rings : (judgeDemands s).rings = s.rings := frame .rings (by decide)
  have answerback : (judgeDemands s).answerback = s.answerback := frame .answerback (by decide)
  have judged : (settle s).switch.printWaits.get w = judgedWait w (judgeDemands s) := by cases w <;> rfl
  have present : waiterPresent w (judgeDemands s) = waiterPresent w s := by
    cases w <;> simp only [waiterPresent, offered, translator, rings, answerback]
  have prints : waiterPrints w (judgeDemands s) = waiterPrints w s := by
    cases w <;> simp only [waiterPrints, switch]
  have room : printRoom (judgeDemands s) = printRoom s := by unfold printRoom; rw [carriage]
  rw [judged]
  unfold judgedWait
  rw [present, prints, room, switch]

theorem PrintWaits.get_le_latest {p : PrintWaits} {w : Waiter} {since : Nat} (h : p.get w = some since) :
    since ≤ p.latest := by
  cases w <;> simp only [PrintWaits.get] at h <;> simp only [PrintWaits.latest, h, Option.getD_some] <;> omega

theorem judgedWait_of_not_waits {w : Waiter} (h : ¬ waits w s) : judgedWait w s = none :=
  if_neg (by rwa [waiterPresent_iff])

theorem judgedWait_of_waited {w : Waiter} {since : Nat} (h : waits w s) (hb : s.switch.printWaits.get w = some since) :
    judgedWait w s = some since := by
  rw [judgedWait, if_pos ((waiterPresent_iff s w).2 h), hb]

theorem judgedWait_of_new {w : Waiter} (h : waits w s) (hb : s.switch.printWaits.get w = none) :
    judgedWait w s =
      if waiterPrints w s && !printRoom s then some (s.switch.printWaits.latest + 1) else none := by
  rw [judgedWait, if_pos ((waiterPresent_iff s w).2 h), hb]

theorem printFull_iff (w : Waiter) :
    (waiterPrints w s && !printRoom s) = true ↔ goesToPrint w s ∧ 48 ≤ s.carriage.queue.length := by
  rw [Bool.and_eq_true, waiterPrints_iff, Bool.not_eq_true', ← Bool.not_eq_true, printRoom_iff, Nat.not_lt]

/-- R6: a wait that an event leaves began before it, or begins with it, later than every other. -/
theorem judgedWait_cases {w : Waiter} {since : Nat} (h : judgedWait w s = some since) :
    (s.switch.printWaits.get w = some since) ∨
    (s.switch.printWaits.get w = none ∧ since = s.switch.printWaits.latest + 1) := by
  by_cases waiting : waits w s
  · cases before : s.switch.printWaits.get w with
    | some began => rw [judgedWait_of_waited s waiting before] at h; exact .inl h
    | none =>
      rw [judgedWait_of_new s waiting before] at h
      split at h
      · exact .inr ⟨rfl, (Option.some.inj h).symm⟩
      · cases h
  · rw [judgedWait_of_not_waits s waiting] at h; cases h

/-! ### The readiness of LINE-OUT and the waiter that a freed place falls to (R6 to R9) -/

theorem lineOutEligible_keyboard_iff : lineOutEligible .keyboard s = true ↔ keyboardEligible s := by
  have present := waiterPresent_iff s .keyboard
  simp only [lineOutEligible, CharSwitch.row, keyboardEligible, Bool.and_eq_true, Bool.or_eq_true, Bool.not_eq_true',
    printRoom_iff]
  simp only [waiterPresent, waits] at present
  rw [present, and_assoc]
  cases s.switch.keyboard.print <;> simp

theorem lineOutEligible_sendRing_iff : lineOutEligible .sendRing s = true ↔ sendRingEligible s := by
  simp only [lineOutEligible, CharSwitch.row, sendRingEligible, Bool.and_eq_true, Bool.or_eq_true, Bool.not_eq_true',
    printRoom_iff, offered, Option.isSome_iff_ne_none]
  rw [and_assoc]
  cases s.switch.sendRing.print <;> simp

/-- R8, R9: what the readiness of LINE-OUT asks of a source that is eligible. -/
theorem lineOutReady_iff (source : WaitingSource) :
    lineOutReady source s = true ↔
      ((s.receiver.line = .data ∨ s.receiver.line = .fade) → lineOutFree s ∧ lineOutGranted source s = true) := by
  rw [lineOutReady, Bool.or_eq_true, Bool.not_eq_true', ← Bool.not_eq_true, LineState.onCall_iff, Bool.and_eq_true,
    lineOutOpen_iff]
  tauto

theorem answerbackHoldsLine_iff :
    (s.answerback.running && s.switch.answerback.lineOut) = true ↔ answerbackHoldsLine s := Bool.and_eq_true _ _ ▸ Iff.rfl

theorem lineOutGranted_keyboard_iff (h : keyboardEligible s) :
    lineOutGranted .keyboard s = true ↔
      ¬ answerbackHoldsLine s ∧ (sendRingEligible s → s.switch.roundRobin = .keyboard) := by
  rw [← answerbackHoldsLine_iff, ← lineOutEligible_sendRing_iff, lineOutGranted,
    (lineOutEligible_keyboard_iff s).2 h]
  cases s.answerback.running && s.switch.answerback.lineOut <;> cases lineOutEligible .sendRing s <;> simp

theorem lineOutGranted_sendRing_iff (h : sendRingEligible s) :
    lineOutGranted .sendRing s = true ↔
      ¬ answerbackHoldsLine s ∧ (keyboardEligible s → s.switch.roundRobin = .sendRing) := by
  rw [← answerbackHoldsLine_iff, ← lineOutEligible_keyboard_iff, lineOutGranted,
    (lineOutEligible_sendRing_iff s).2 h]
  cases s.answerback.running && s.switch.answerback.lineOut <;> cases lineOutEligible .keyboard s <;> simp

theorem lineOutGranted_answerback_iff (h : lineOutEligible .answerback s = true) :
    lineOutGranted .answerback s = true ↔ answerbackHoldsLine s := by
  rw [← answerbackHoldsLine_iff, lineOutGranted, h]
  cases s.answerback.running && s.switch.answerback.lineOut <;> simp

/-- R7 to R9: LINE-OUT, where its row holds it, is ready to a source that PRINT does not hold up. -/
theorem keyboard_lineOut_iff (present : ∃ character, s.translator = .offering character)
    (room : s.switch.keyboard.print = true → s.carriage.queue.length < 48) :
    (!s.switch.keyboard.lineOut || lineOutReady .keyboard s) = true ↔ lineOutAdmitsKeyboard s := by
  rw [Bool.or_eq_true, Bool.not_eq_true', ← Bool.not_eq_true, lineOutReady_iff, lineOutAdmitsKeyboard, lineOutAdmits,
    ← imp_iff_not_or]
  refine imp_congr_right fun joined => imp_congr_right fun _ => and_congr_right fun _ => ?_
  exact lineOutGranted_keyboard_iff s ⟨present, joined, room⟩

theorem sendRing_lineOut_iff (present : s.rings.prefetched ≠ none)
    (room : s.switch.sendRing.print = true → s.carriage.queue.length < 48) :
    (!s.switch.sendRing.lineOut || lineOutReady .sendRing s) = true ↔ lineOutAdmitsSendRing s := by
  rw [Bool.or_eq_true, Bool.not_eq_true', ← Bool.not_eq_true, lineOutReady_iff, lineOutAdmitsSendRing, lineOutAdmits,
    ← imp_iff_not_or]
  refine imp_congr_right fun joined => imp_congr_right fun _ => and_congr_right fun _ => ?_
  exact lineOutGranted_sendRing_iff s ⟨present, joined, room⟩

theorem answerback_lineOut_iff (present : s.answerback.prefetched ≠ none)
    (room : s.switch.answerback.print = true → s.carriage.queue.length < 48) :
    (!s.switch.answerback.lineOut || lineOutReady .answerback s) = true ↔
      lineOutAdmits s.switch.answerback (answerbackHoldsLine s) s := by
  rw [Bool.or_eq_true, Bool.not_eq_true', ← Bool.not_eq_true, lineOutReady_iff, lineOutAdmits, ← imp_iff_not_or]
  refine imp_congr_right fun joined => imp_congr_right fun _ => and_congr_right fun _ => ?_
  refine lineOutGranted_answerback_iff s ?_
  have offer : (offered .answerback s).isSome = true := Option.isSome_iff_ne_none.2 present
  cases prints : s.switch.answerback.print
  · simp [lineOutEligible, CharSwitch.row, offer, joined, prints]
  · simp [lineOutEligible, CharSwitch.row, offer, joined, (printRoom_iff s).2 (room prints)]

/-- R6: with room in the queue the waiters that count are those that could fill a place. -/
theorem waiterCounts_iff (w : Waiter) (room : s.carriage.queue.length < 48) :
    waiterCounts w s = true ↔ couldFill w s := by
  rw [waiterCounts.eq_def, Bool.and_eq_true, Bool.and_eq_true, waiterPresent_iff, waiterPrints_iff, couldFill.eq_def,
    and_assoc]
  refine and_congr_right fun waiting => and_congr_right fun _ => ?_
  cases w with
  | keyboard => exact keyboard_lineOut_iff s waiting fun _ => room
  | sendRing => exact sendRing_lineOut_iff s waiting fun _ => room
  | answerback => exact answerback_lineOut_iff s waiting fun _ => room
  | feed => simp

theorem mem_placeWaiters (w : Waiter) (room : s.carriage.queue.length < 48) : w ∈ placeWaiters s ↔ couldFill w s := by
  rw [placeWaiters, List.mem_filter, waiterCounts_iff s w room, and_iff_right]
  cases w <;> decide

theorem waitedAsLong_iff (mine other : Option Nat) :
    waitedAsLong mine other = true ↔ ∀ since, other = some since → ∃ began, mine = some began ∧ began ≤ since := by
  cases mine <;> cases other <;> simp [waitedAsLong]

/-- R6: the freed place falls to the longest wait of those that could fill it. -/
theorem placeFallsTo_iff (w : Waiter) (room : s.carriage.queue.length < 48) :
    placeFallsTo w s = true ↔
      (s.switch.freedPlace = true →
       ∀ other : Waiter, ∀ since, couldFill other s → s.switch.printWaits.get other = some since →
        ∃ mine, s.switch.printWaits.get w = some mine ∧ mine ≤ since) := by
  rw [placeFallsTo, Bool.or_eq_true, Bool.not_eq_true', ← Bool.not_eq_true, ← imp_iff_not_or, List.all_eq_true]
  refine imp_congr_right fun _ => ⟨fun all other since fills waited => ?_, fun all other counts => ?_⟩
  · exact (waitedAsLong_iff _ _).1 (all other ((mem_placeWaiters s other room).2 fills)) since waited
  · exact (waitedAsLong_iff _ _).2 fun since => all other since ((mem_placeWaiters s other room).1 counts)

/-- R6: the freed place is contested when more than one waiter could fill it. -/
theorem placeContested_iff (room : s.carriage.queue.length < 48) :
    placeContested s = true ↔ ∃ w other : Waiter, w ≠ other ∧ couldFill w s ∧ couldFill other s := by
  have distinct : (placeWaiters s).Nodup := List.Nodup.filter _ (by decide)
  rw [placeContested, decide_eq_true_iff, ← List.toFinset_card_of_nodup distinct, Nat.succ_le_iff, Finset.one_lt_card]
  simp only [List.mem_toFinset, mem_placeWaiters s _ room]
  exact ⟨fun ⟨w, fills, other, fills', ne⟩ => ⟨w, other, ne, fills, fills'⟩,
    fun ⟨w, other, ne, fills, fills'⟩ => ⟨w, fills, other, fills', ne⟩⟩

end

/-- Settles O38: the demands by `judgeDemands`, the waits by `judgedWait`, the freed place by `mem_placeWaiters`. -/
theorem demandJudgement : Obligations.DemandJudgement := by
  refine ⟨fun s => ?_, fun s w => ?_, fun s w room _ => placeFallsTo_iff s w room, placeContested_iff⟩
  · have demands := judgeDemands_flow_demands s
    have print : (settle s).flow.printDemand = judgedPrintDemand s := demands.1
    have ring : (settle s).flow.ringDemand = judgedRingDemand s := demands.2
    refine ⟨?_, ?_, ?_, ?_, settle_changesOnly s, settle_onlySettles s⟩
    · rw [print, Bool.eq_iff_iff, decide_eq_true_iff]
      exact judgedPrintDemand_iff s
    · rw [ring, Bool.eq_iff_iff, decide_eq_true_iff]
      exact judgedRingDemand_iff s
    · rw [print, ring]
      exact judgeDemands_state s
    · rw [print, ring]
      exact judgeDemands_transmitter s
  · simp only [settle_printWaits]
    refine ⟨judgedWait_of_not_waits s, fun waiting began => ?_, fun waiting fresh calm => ?_,
      fun waiting fresh prints full => ⟨s.switch.printWaits.latest + 1, ?_, fun other since began => ?_⟩⟩
    · obtain ⟨since, h⟩ := Option.ne_none_iff_exists'.1 began
      rw [judgedWait_of_waited s waiting h, h]
    · rw [judgedWait_of_new s waiting fresh, if_neg (mt (printFull_iff s w).1 calm)]
    · rw [judgedWait_of_new s waiting fresh, if_pos ((printFull_iff s w).2 ⟨prints, full⟩)]
    · rcases judgedWait_cases s began with before | ⟨before, now⟩
      · exact ⟨fun none_before => absurd (before.symm.trans none_before) nofun,
          fun _ => Nat.lt_succ_of_le (PrintWaits.get_le_latest before)⟩
      · exact ⟨fun _ => now, fun some_before => absurd before some_before⟩

end Sys2Proof.Machine

namespace Sys2Proof.Machine

/-! ## The parts of a take (R6 to R12, R17, R22, R40, R111) -/

theorem flagIf_or (a b : Bool) (source : AttentionSource) :
    flagIf a source ||| flagIf b source = flagIf (a || b) source := by
  cases a <;> cases b <;> simp [flagIf]

@[simp] theorem flagIf_false (source : AttentionSource) : flagIf false source = 0 := rfl

section
variable (s : State)

/-- R17: what the offer of a record, or of none, leaves in the rings, the arbiter, the flags and the requests. -/
theorem offerIf_blocks (offered : Bool) (record : ReceiveRecord) {t : State}
    (ht : t = if offered then offerRecord record s else s) :
    t.rings = ringsAfterOffer offered record s ∧
    t.arbiter = { s.arbiter with receiveWriter := waitAfterRequest (offered && recordFits s) .receiveWriter s } ∧
    t.status = { s.status with ringLoss := s.status.ringLoss || losesRecord offered s } ∧
    t.attention = { s.attention with
      flags := s.attention.flags ||| flagIf (losesRecord offered s && !s.status.ringLoss) .loss } ∧
    changesOnly [.rings, .arbiter, .status, .attention] s t := by
  subst ht
  cases offered with
  | false =>
    refine ⟨rfl, rfl, ?_, ?_, changesOnly_refl _ s⟩
    · simp [losesRecord]
    · simp [losesRecord]
  | true =>
    have frame := offerRecord_frame record s
    rcases offerRecord_cases record s with ⟨fits, h⟩ | ⟨full, h⟩
    · have fits' : recordFits s = true := fits
      let staged := s.onRings fun r =>
        { r with staged := r.staged ++ [{ record with lossBefore := r.lossMark }], lossMark := false }
      have asks := requestPlacement_frame staged
      rw [if_pos rfl]
      refine ⟨?_, ?_, ?_, ?_, frame⟩
      · rw [h, show (requestPlacement staged).rings = staged.rings from asks .rings (by decide)]
        simp [ringsAfterOffer, fits', staged]
      · rw [h, requestPlacement_arbiter]
        simp [fits', waitAfterRequest, grantLive]
      · rw [h, show (requestPlacement staged).status = s.status from asks .status (by decide)]
        simp [losesRecord, fits']
      · rw [h, show (requestPlacement staged).attention = s.attention from asks .attention (by decide)]
        simp [losesRecord, fits']
    · have full' : recordFits s = false := full
      rw [if_pos rfl]
      rw [h] at frame ⊢
      rw [setRingLoss_eq] at frame ⊢
      refine ⟨?_, ?_, ?_, ?_, frame⟩
      · simp [ringsAfterOffer, full']
      · simp only [full', waitAfterRequest, Bool.and_false, Bool.false_eq_true, false_and, if_false]
        exact (Arbiter.setWait_self s.arbiter .receiveWriter).symm
      · simp [losesRecord, full']
      · simp [losesRecord, full']

/-- R80, R81: what a CLICK does with the sounder, if click is enabled. -/
theorem requestClick_tones : (requestClick s).tones = tonesAfterClick s := by
  unfold requestClick tonesAfterClick requestSound
  cases s.keyboard.click with
  | false => rfl
  | true =>
    rcases s.tones.request with _ | (_ | _ | _) <;> rfl

/-- R38: the event at the head leaves the key queue, and the next one, if any, is fetched. -/
theorem finishEvent_blocks :
    (finishEvent s).keyboard = { s.keyboard with queue := s.keyboard.queue.tail } ∧
    (finishEvent s).translator = (if s.keyboard.queue.tail = [] then .idle else .fetching) ∧
    (finishEvent s).arbiter = { s.arbiter with
      keymapQueue := s.arbiter.keymapQueue ++ (if s.keyboard.queue.tail = [] then [] else [.translation])
      keymap := if s.arbiter.keymapQueue = [] ∧ s.keyboard.queue.tail ≠ [] then .waiting else s.arbiter.keymap } := by
  unfold finishEvent wakeTranslator
  by_cases last : s.keyboard.queue.tail = []
  · simp [last]
  · by_cases empty : s.arbiter.keymapQueue = [] <;> simp [last, enqueueKeymap, empty]

/-- R12: the delivery of a taken character to LINE-OUT and PRINT, before any record goes to the ring. -/
def deliverBlocking (source : WaitingSource) (character : Byte) (s : State) : State :=
  let row := s.switch.row source
  let sent := if row.lineOut then deliverLineOut source character s else s
  if row.print then appendPrint (.character (printCode character)) sent else sent

/-- R12: RECEIVE RING is a sink of KEYBOARD alone among the sources that wait. -/
theorem deliver_keyboard (character : Byte) :
    deliver .keyboard character s =
      if s.switch.keyboard.ring && decide (s.rings.receiveSize ≠ 0) then
        offerRecord (plainRecord .keyboardCharacter character) (deliverBlocking .keyboard character s)
      else deliverBlocking .keyboard character s := by
  simp [deliver, deliverBlocking, joinedRing, CharSwitch.row]

theorem deliver_of_ne_keyboard {source : WaitingSource} (h : source ≠ .keyboard) (character : Byte) :
    deliver source character s = deliverBlocking source character s :=
  if_neg fun both => h both.1

/-- R9: where the round-robin pointer stands after a take that places a character in the holding slot. -/
def pointerAfter (source : WaitingSource) (pointer : RoundRobin) : RoundRobin :=
  match source with
  | .keyboard => .sendRing
  | .sendRing => .keyboard
  | .answerback => pointer

/-- R7, R9, R12: a character for LINE-OUT enters the holding slot on a call, and is discarded off a call. -/
theorem deliverLineOut_blocks (source : WaitingSource) (character : Byte) :
    (deliverLineOut source character s).transmitter =
      (if s.receiver.line.onCall then { s.transmitter with slot := .character character } else s.transmitter) ∧
    (deliverLineOut source character s).switch =
      (if s.receiver.line.onCall then { s.switch with roundRobin := pointerAfter source s.switch.roundRobin }
       else s.switch) ∧
    (deliverLineOut source character s).status =
      { s.status with txDiscarded := s.status.txDiscarded || !s.receiver.line.onCall } ∧
    (deliverLineOut source character s).attention = { s.attention with
      flags := s.attention.flags ||| flagIf (!s.receiver.line.onCall && !s.status.txDiscarded) .loss } := by
  unfold deliverLineOut
  cases call : s.receiver.line.onCall with
  | true => cases source <;> simp [movePointer, pointerAfter]
  | false => simp [setTxDiscarded_eq]

theorem decide_not_onCall (line : LineState) : decide (¬ (line = .data ∨ line = .fade)) = !line.onCall := by
  cases line <;> rfl

/-- R12: what the delivery to LINE-OUT and PRINT leaves, with room in the queue for what goes to PRINT. -/
theorem deliverBlocking_blocks (source : WaitingSource) (character : Byte)
    (room : (s.switch.row source).print = true → s.carriage.queue.length < 48) {t : State}
    (ht : t = deliverBlocking source character s) :
    (let row := s.switch.row source
     let onCall := s.receiver.line = .data ∨ s.receiver.line = .fade
     let placed := row.lineOut = true ∧ onCall
     let discarded := row.lineOut && decide (¬ onCall)
     t.carriage = { s.carriage with
       queue := if row.print then s.carriage.queue ++ [.character (printCode character)] else s.carriage.queue } ∧
     t.switch = { s.switch with
       freedPlace := if row.print then false else s.switch.freedPlace
       roundRobin := if placed then pointerAfter source s.switch.roundRobin else s.switch.roundRobin } ∧
     t.transmitter = { s.transmitter with slot := if placed then .character character else s.transmitter.slot } ∧
     t.status = { s.status with txDiscarded := s.status.txDiscarded || discarded } ∧
     t.attention = { s.attention with
       flags := s.attention.flags ||| flagIf (discarded && !s.status.txDiscarded) .loss } ∧
     changesOnly [.carriage, .switch, .transmitter, .status, .attention] s t) := by
  let sent := if (s.switch.row source).lineOut then deliverLineOut source character s else s
  have frame : changesOnly [.transmitter, .switch, .status, .attention] s sent := by
    show changesOnly _ _ (ite _ _ _)
    split
    · exact deliverLineOut_frame s source character
    · exact changesOnly_refl _ s
  have carriage : sent.carriage = s.carriage := frame .carriage (by decide)
  have blocks := deliverLineOut_blocks s source character
  have delivered :
      sent.transmitter = { s.transmitter with
        slot := if (s.switch.row source).lineOut && s.receiver.line.onCall then .character character
          else s.transmitter.slot } ∧
      sent.switch = { s.switch with
        roundRobin := if (s.switch.row source).lineOut && s.receiver.line.onCall then
          pointerAfter source s.switch.roundRobin else s.switch.roundRobin } ∧
      sent.status = { s.status with
        txDiscarded := s.status.txDiscarded || ((s.switch.row source).lineOut && !s.receiver.line.onCall) } ∧
      sent.attention = { s.attention with
        flags := s.attention.flags |||
          flagIf (((s.switch.row source).lineOut && !s.receiver.line.onCall) && !s.status.txDiscarded) .loss } := by
    cases joined : (s.switch.row source).lineOut with
    | false => simp [sent, joined]
    | true =>
      obtain ⟨transmitter, switch, status, attention⟩ := blocks
      simp only [sent, joined, if_true, Bool.true_and, transmitter, switch, status, attention, and_true]
      cases s.receiver.line.onCall <;> exact ⟨rfl, rfl⟩
  obtain ⟨transmitter, switch, status, attention⟩ := delivered
  dsimp only
  rw [decide_not_onCall]
  simp only [← LineState.onCall_iff, ← Bool.and_eq_true]
  have ends : t = if (s.switch.row source).print then appendPrint (.character (printCode character)) sent else sent := ht
  cases prints : (s.switch.row source).print with
  | false =>
    rw [prints, if_neg Bool.false_ne_true] at ends
    subst ends
    refine ⟨?_, ?_, transmitter, status, attention, frame.mono (by decide)⟩
    · simpa [prints] using carriage
    · simpa [prints] using switch
  | true =>
    rw [prints, if_pos rfl] at ends
    subst ends
    rcases appendPrint_cases (.character (printCode character)) sent with ⟨_, h⟩ | ⟨full, _⟩
    · have after := (appendPrint_frame (.character (printCode character)) sent).after
        (l := [.carriage, .switch, .transmitter, .status, .attention]) (by decide) (frame.mono (by decide))
      rw [h] at after ⊢
      refine ⟨?_, ?_, transmitter, status, attention, after⟩
      · simp [carriage]
      · simp [switch]
    · rw [carriage] at full
      exact absurd (room prints) (Nat.not_lt.2 full)

end

end Sys2Proof.Machine

namespace Sys2Proof.Machine

/-! ## Takes (R6 to R10, R12, R22, R40, R111) -/

section
variable (s : State)

/-- R6: the wait for PRINT of a waiting source. -/
def printWaiter : WaitingSource → Waiter
  | .keyboard => .keyboard
  | .sendRing => .sendRing
  | .answerback => .answerback

/-- R6, R7: a source on offer is taken when PRINT and LINE-OUT, where its row holds them, are ready to it. -/
theorem canTake_iff {source : WaitingSource} {admits : Prop} (offer : (offered source s).isSome = true)
    (line : ((s.switch.row source).print = true → s.carriage.queue.length < 48) →
      ((!(s.switch.row source).lineOut || lineOutReady source s) = true ↔ admits)) :
    canTake source s = true ↔
      ((s.switch.row source).print = true →
        s.carriage.queue.length < 48 ∧ placeFallsTo (printWaiter source) s = true) ∧ admits := by
  have print : (!(s.switch.row source).print || (printRoom s && placeFallsTo (printWaiter source) s)) = true ↔
      ((s.switch.row source).print = true →
        s.carriage.queue.length < 48 ∧ placeFallsTo (printWaiter source) s = true) := by
    rw [Bool.or_eq_true, Bool.not_eq_true', ← Bool.not_eq_true, ← imp_iff_not_or, Bool.and_eq_true, printRoom_iff]
  unfold canTake
  rw [Bool.and_eq_true, Bool.and_eq_true, and_iff_right offer]
  refine (and_congr_left' print).trans (and_congr_right fun ready => line fun joined => (ready joined).1)

theorem canTake_keyboard_iff {character : Byte} (offer : s.translator = .offering character) :
    canTake .keyboard s = true ↔
      (s.switch.keyboard.print = true → s.carriage.queue.length < 48 ∧ placeFallsTo .keyboard s = true) ∧
        lineOutAdmitsKeyboard s :=
  canTake_iff s (by simp [offered, offer]) (keyboard_lineOut_iff s ⟨character, offer⟩)

theorem canTake_sendRing_iff {byte : Byte} (offer : s.rings.prefetched = some byte) :
    canTake .sendRing s = true ↔
      (s.switch.sendRing.print = true → s.carriage.queue.length < 48 ∧ placeFallsTo .sendRing s = true) ∧
        lineOutAdmitsSendRing s :=
  canTake_iff s (by simp [offered, offer]) (sendRing_lineOut_iff s (by simp [offer]))

theorem canTake_answerback_iff {byte : Byte} (offer : s.answerback.prefetched = some byte) :
    canTake .answerback s = true ↔
      (s.switch.answerback.print = true → s.carriage.queue.length < 48 ∧ placeFallsTo .answerback s = true) ∧
        lineOutAdmits s.switch.answerback (answerbackHoldsLine s) s :=
  canTake_iff s (by simp [offered, offer]) (answerback_lineOut_iff s (by simp [offer]))

/-- R10: the take of a source whose sinks are ready. -/
theorem exec_take_of_canTake {source : WaitingSource} {character : Byte} (offer : offered source s = some character)
    (ready : canTake source s = true) :
    exec (.take source) s = .next (settle (leaveSource source (deliver source character s))) := by
  simp only [exec, execTake, offer, ready, if_true]

/-- R10: a source with a sink that is not ready waits. -/
theorem exec_take_of_not_canTake {source : WaitingSource} (waits : canTake source s ≠ true) :
    exec (.take source) s = .next s := by
  simp only [exec, execTake, if_neg waits]
  split <;> rfl

/-- The judgement that ends an event leaves a character in the holding slot. -/
theorem settle_slot_of_character {character : Byte} (h : s.transmitter.slot = .character character) :
    (settle s).transmitter.slot = .character character := by
  obtain ⟨_, _, _, same | ⟨_, _, _, flow⟩⟩ := settle_touches s
  · rw [same, h]
  · rw [h] at flow; cases flow

@[simp] theorem settle_roundRobin : (settle s).switch.roundRobin = s.switch.roundRobin := by rw [settle_switch]
@[simp] theorem settle_rowAnswerback : (settle s).switch.answerback = s.switch.answerback := by rw [settle_switch]
@[simp] theorem settle_deferred : (settle s).switch.deferred = s.switch.deferred := by rw [settle_switch]

/-- R38: an event that leaves the key queue of a state that has the keyboard and the key-map requests of `s`. -/
theorem eventLeft_finishEvent {k : State} (keyboard : k.keyboard = s.keyboard)
    (queued : k.arbiter.keymapQueue = s.arbiter.keymapQueue) (keymap : k.arbiter.keymap = s.arbiter.keymap) :
    eventLeft s (settle (finishEvent k)) := by
  obtain ⟨key, translator, arbiter⟩ := finishEvent_blocks k
  unfold eventLeft keymapWait
  rw [settle_keyboard, settle_translator, settle_arbiter, key, translator, arbiter, keyboard, queued, keymap]
  by_cases last : s.keyboard.queue.tail = [] <;> simp [last]

theorem ringsAfterOffer_congr {t : State} (h : t.rings = s.rings) (offered : Bool) (record : ReceiveRecord) :
    ringsAfterOffer offered record t = ringsAfterOffer offered record s := by
  unfold ringsAfterOffer recordFits; rw [h]

end

/-- Settles O26: the delivery to LINE-OUT and PRINT, the offer to the ring, the CLICK and the end of the key event. -/
theorem takeFromKeyboard : Obligations.TakeFromKeyboard := by
  intro s character offer _ row onCall ready
  have present : offered .keyboard s = some character := by simp only [offered, offer]
  have takes : canTake .keyboard s = true ↔ ready := canTake_keyboard_iff s offer
  refine ⟨fun waits => exec_take_of_not_canTake s (mt takes.1 waits), fun now => ?_⟩
  let joined := row.ring && decide (s.rings.receiveSize ≠ 0)
  let d := deliverBlocking .keyboard character s
  let o := if joined then offerRecord (plainRecord .keyboardCharacter character) d else d
  let u := finishEvent (requestClick o)
  have taken : exec (.take .keyboard) s = .next (settle u) := by
    rw [exec_take_of_canTake s present (takes.2 now), deliver_keyboard]
    rfl
  obtain ⟨dCarriage, dSwitch, dTransmitter, dStatus, dAttention, delivers⟩ :=
    deliverBlocking_blocks s .keyboard character (fun joins => (now.1 joins).1) (t := d) rfl
  obtain ⟨oRings, oArbiter, oStatus, oAttention, offers⟩ :=
    offerIf_blocks d joined (plainRecord .keyboardCharacter character) (t := o) rfl
  have ends : changesOnly [.tones, .keyboard, .translator, .arbiter] o u :=
    (finishEvent_frame (requestClick o)).after (by decide) ((requestClick_frame o).mono (by decide))
  have dRings : d.rings = s.rings := delivers .rings (by decide)
  have dArbiter : d.arbiter = s.arbiter := delivers .arbiter (by decide)
  have records : changesOnly [.carriage, .rings, .status, .attention, .arbiter, .switch, .transmitter] s o :=
    offers.after (by decide) (delivers.mono (by decide))
  have clicked : changesOnly [.tones] o (requestClick o) := requestClick_frame o
  have kept : (requestClick o).arbiter = o.arbiter := clicked .arbiter (by decide)
  have keys : (requestClick o).keyboard = s.keyboard :=
    (clicked .keyboard (by decide)).trans (records .keyboard (by decide))
  have sounds : o.tones = s.tones := records .tones (by decide)
  have keyed : o.keyboard = s.keyboard := records .keyboard (by decide)
  have carriage : u.carriage = d.carriage :=
    (ends .carriage (by decide)).trans (offers .carriage (by decide))
  have switch : u.switch = d.switch := (ends .switch (by decide)).trans (offers .switch (by decide))
  have transmitter : u.transmitter = d.transmitter :=
    (ends .transmitter (by decide)).trans (offers .transmitter (by decide))
  have lossBefore : d.status.ringLoss = s.status.ringLoss := by rw [dStatus]
  have losses : losesRecord joined d = losesRecord joined s := by simp only [losesRecord, recordFits, dRings]
  refine ⟨settle u, taken, eventLeft_finishEvent s keys ?_ ?_, ?_, ?_, ?_, ⟨?_, ?_, ?_, ?_⟩, ?_, ?_, ?_, ?_⟩
  · rw [kept, oArbiter, dArbiter]
  · rw [kept, oArbiter, dArbiter]
  · rw [settle_keyboard, (finishEvent_blocks _).1, keys]
  · have ends : u.tones = (requestClick o).tones := finishEvent_frame _ .tones (by decide)
    rw [settle_tones, ends, requestClick_tones, tonesAfterClick, tonesAfterClick, sounds, keyed]
  · rw [settle_carriage, carriage, dCarriage]
    rfl
  · rw [settle_rings, show u.rings = o.rings from ends .rings (by decide), oRings, ringsAfterOffer_congr s dRings]
  · rw [settle_arbiter, (finishEvent_blocks _).2.2, kept, oArbiter, dArbiter, waitAfterRequest_congr dArbiter,
      show recordFits d = recordFits s by simp only [recordFits, dRings]]
  · rw [settle_status, show u.status = o.status from ends .status (by decide), oStatus, losses, dStatus]
    rfl
  · rw [settle_attention, show u.attention = o.attention from ends .attention (by decide), oAttention, losses,
      lossBefore, dAttention, ← flagIf_or, ← BitVec.or_assoc]
    rfl
  · intro placed
    refine ⟨settle_slot_of_character u ?_, ?_⟩
    · rw [transmitter, dTransmitter]
      exact if_pos placed
    · rw [settle_roundRobin, switch, dSwitch]
      exact if_pos placed
  · intro stays
    rw [settle_roundRobin, switch, dSwitch]
    exact if_neg stays
  · exact (settle_changesOnly u).after (by decide) (ends.after (by decide) (records.mono (by decide)))
  · refine onlySettles_of_settle ?_ ?_ ?_
    · rw [settle_roundRobin, switch, dSwitch]
      rfl
    · exact (ends .flow (by decide)).trans (records .flow (by decide))
    · rw [transmitter, dTransmitter]
      rfl

end Sys2Proof.Machine

namespace Sys2Proof.Machine

/-! ### The send ring and the Answerback Unit at a take (R22, R23, R111, R112) -/

section
variable (s : State)

/-- R22, R23: the tail after a take of the prefetched byte, TX-ROOM, and the next fetch. -/
theorem advanceSendTail_blocks :
    (advanceSendTail s).rings = { s.rings with
      sendTail := ringNext s.rings.sendTail (ringSlots s.rings.sendSize), prefetched := none } ∧
    (advanceSendTail s).attention = { s.attention with
      flags := s.attention.flags ||| flagIf (decide ((advanceSendTail s).rings.sendOccupancy ≤
        min s.rings.roomLevel (ringSlots s.rings.sendSize - 1))) .txRoom } ∧
    (advanceSendTail s).arbiter = { s.arbiter with
      sendRing := waitAfterRequest (decide (0 < (advanceSendTail s).rings.sendOccupancy)) .sendRing s } ∧
    changesOnly [.rings, .attention, .arbiter] s (advanceSendTail s) := by
  let moved := s.onRings fun r =>
    { r with sendTail := ringNext r.sendTail (ringSlots r.sendSize), prefetched := none }
  let raised := if moved.rings.sendOccupancy ≤ moved.rings.workingRoomLevel then raise .txRoom moved else moved
  have raises : changesOnly [.attention] moved raised := raiseIf_frame _ _ _
  have asks : changesOnly [.arbiter] raised (advanceSendTail s) := requestSendFetch_frame raised
  have raisedRings : raised.rings = moved.rings := raises .rings (by decide)
  have raisedArbiter : raised.arbiter = s.arbiter := raises .arbiter (by decide)
  have rings : (advanceSendTail s).rings = moved.rings := (asks .rings (by decide)).trans raisedRings
  have attention : (advanceSendTail s).attention = raised.attention := asks .attention (by decide)
  refine ⟨rings, ?_, ?_, asks.after (by decide) (raises.after (by decide) ((onRings_frame s _).mono (by decide)))⟩
  · rw [attention, raiseIf_attention, rings]
    rfl
  · have asked := requestSendFetch_arbiter raised
    rw [raisedArbiter, raisedRings, waitAfterRequest_congr raisedArbiter] at asked
    have empties : decide (0 < moved.rings.sendOccupancy ∧ moved.rings.prefetched = none) =
        decide (0 < moved.rings.sendOccupancy) := decide_eq_decide.2 (and_iff_left rfl)
    rw [empties] at asked
    rw [rings]
    exact asked

/-- R111, R112: a take of an answerback byte: the last one ends the run, any other asks for the next. -/
theorem advanceAnswerback_blocks (running : s.answerback.running = true) (left : 1 ≤ s.answerback.remaining) :
    (let complete := s.answerback.remaining = 1
     (advanceAnswerback s).answerback = { s.answerback with
      prefetched := none, pointer := s.answerback.pointer + 1, remaining := s.answerback.remaining - 1
      running := ¬ complete, lastResult := if complete then .complete else s.answerback.lastResult } ∧
     (advanceAnswerback s).arbiter = { s.arbiter with
      answerback := waitAfterRequest (decide (¬ complete)) .answerback s } ∧
     (advanceAnswerback s).switch = { s.switch with
      answerback := if complete then s.switch.deferred.getD s.switch.answerback else s.switch.answerback
      deferred := if complete then none else s.switch.deferred } ∧
     (advanceAnswerback s).attention = { s.attention with
      flags := s.attention.flags ||| flagIf complete .answerbackEnd } ∧
     changesOnly [.answerback, .arbiter, .switch, .attention] s (advanceAnswerback s)) := by
  let moved := s.onAnswerback fun a =>
    { a with prefetched := none, pointer := a.pointer + 1, remaining := a.remaining - 1 }
  have advances : changesOnly [.answerback] s moved := onAnswerback_frame s _
  by_cases complete : s.answerback.remaining = 1
  · have ends : advanceAnswerback s = completeAnswerback moved := if_pos (by simp [complete])
    have frame := (completeAnswerback_frame moved).after (l := [.answerback, .arbiter, .switch, .attention])
      (by decide) (advances.mono (by decide))
    rw [ends]
    refine ⟨?_, ?_, ?_, ?_, frame⟩
    · simp [complete, completeAnswerback, applyDeferred, raise, moved]
    · simp only [complete, not_true, decide_false, waitAfterRequest, Bool.false_eq_true, false_and, if_false]
      exact (Arbiter.setWait_self s.arbiter .answerback).symm
    · simp [complete, completeAnswerback, applyDeferred, raise, moved]
    · simp [complete, completeAnswerback, applyDeferred, raise, moved, flagIf]
  · have goes : advanceAnswerback s = requestAnswerbackRead moved := if_neg (by show ¬ _ - 1 = 0; omega)
    have asks := requestAnswerbackRead_frame moved
    have frame := asks.after (l := [.answerback, .arbiter, .switch, .attention]) (by decide) (advances.mono (by decide))
    have more : 0 < s.answerback.remaining - 1 := by omega
    rw [goes]
    refine ⟨?_, ?_, ?_, ?_, frame⟩
    · rw [show (requestAnswerbackRead moved).answerback = moved.answerback from asks .answerback (by decide)]
      simp [complete, running, moved]
    · rw [requestAnswerbackRead_arbiter, waitAfterRequest_congr (advances .arbiter (by decide) : moved.arbiter = _)]
      simp [complete, running, more, moved]
    · rw [show (requestAnswerbackRead moved).switch = s.switch from asks .switch (by decide)]
      simp [complete]
    · rw [show (requestAnswerbackRead moved).attention = s.attention from asks .attention (by decide)]
      simp [complete]

end

/-- Settles O27: the delivery to LINE-OUT and PRINT, and the advance of the send tail. -/
theorem takeFromSendRing : Obligations.TakeFromSendRing := by
  intro s byte offer sound row onCall ready
  have takes : canTake .sendRing s = true ↔ ready := canTake_sendRing_iff s offer
  refine ⟨fun waits => exec_take_of_not_canTake s (mt takes.1 waits), fun now => ?_⟩
  let d := deliverBlocking .sendRing byte s
  let u := advanceSendTail d
  have taken : exec (.take .sendRing) s = .next (settle u) := by
    rw [exec_take_of_canTake (source := .sendRing) s offer (takes.2 now), deliver_of_ne_keyboard s (by decide)]
    rfl
  obtain ⟨dCarriage, dSwitch, dTransmitter, dStatus, dAttention, delivers⟩ :=
    deliverBlocking_blocks s .sendRing byte (fun joins => (now.1 joins).1) (t := d) rfl
  obtain ⟨rings, attention, arbiter, advances⟩ := advanceSendTail_blocks d
  have dRings : d.rings = s.rings := delivers .rings (by decide)
  have dArbiter : d.arbiter = s.arbiter := delivers .arbiter (by decide)
  have switch : u.switch = d.switch := advances .switch (by decide)
  have transmitter : u.transmitter = d.transmitter := advances .transmitter (by decide)
  have moved : u.rings = { s.rings with
      sendTail := (s.rings.sendTail + 1) % ringSlots s.rings.sendSize, prefetched := none } := by
    rw [rings, dRings]
    rfl
  have emptied : u.rings.sendOccupancy + 1 = s.rings.sendOccupancy := by
    obtain ⟨_, head, tail, holds, _⟩ := sound
    have occupied := holds (by rw [offer]; exact nofun)
    have slots := ringSlots_pos_of_occupied head occupied
    have wide : max 1 (ringSlots s.rings.sendSize) = ringSlots s.rings.sendSize := by omega
    rw [moved]
    exact ringOccupancy_next_tail (wide ▸ head) (wide ▸ tail) occupied
  refine ⟨settle u, taken, ?_, ?_, ?_, ?_, ⟨?_, ?_⟩, ?_, ?_, ?_, ?_⟩
  · rw [settle_rings, moved]
  · rw [settle_rings, emptied]
  · rw [settle_arbiter, settle_rings, arbiter, dArbiter, waitAfterRequest_congr dArbiter]
  · rw [settle_carriage, show u.carriage = d.carriage from advances .carriage (by decide), dCarriage]
    rfl
  · rw [settle_status, show u.status = d.status from advances .status (by decide), dStatus]
    rfl
  · rw [settle_attention, settle_rings, attention, dAttention, dRings]
    rfl
  · intro placed
    refine ⟨settle_slot_of_character u ?_, ?_⟩
    · rw [transmitter, dTransmitter]
      exact if_pos placed
    · rw [settle_roundRobin, switch, dSwitch]
      exact if_pos placed
  · intro stays
    rw [settle_roundRobin, switch, dSwitch]
    exact if_neg stays
  · exact (settle_changesOnly u).after (by decide) (advances.after (by decide) (delivers.mono (by decide)))
  · refine onlySettles_of_settle ?_ ?_ ?_
    · rw [settle_roundRobin, switch, dSwitch]
      rfl
    · exact (advances .flow (by decide)).trans (delivers .flow (by decide))
    · rw [transmitter, dTransmitter]
      rfl

/-- Settles O28: the delivery to LINE-OUT and PRINT, and the advance of the Answerback Unit. -/
theorem takeFromAnswerback : Obligations.TakeFromAnswerback := by
  intro s byte offer sound row onCall ready
  have takes : canTake .answerback s = true ↔ ready := canTake_answerback_iff s offer
  refine ⟨fun waits => exec_take_of_not_canTake s (mt takes.1 waits), fun now => ?_⟩
  let d := deliverBlocking .answerback byte s
  let u := advanceAnswerback d
  have taken : exec (.take .answerback) s = .next (settle u) := by
    rw [exec_take_of_canTake (source := .answerback) s offer (takes.2 now), deliver_of_ne_keyboard s (by decide)]
    rfl
  obtain ⟨dCarriage, dSwitch, dTransmitter, dStatus, dAttention, delivers⟩ :=
    deliverBlocking_blocks s .answerback byte (fun joins => (now.1 joins).1) (t := d) rfl
  have dAnswerback : d.answerback = s.answerback := delivers .answerback (by decide)
  have dArbiter : d.arbiter = s.arbiter := delivers .arbiter (by decide)
  obtain ⟨_, _, left, offers, _⟩ := sound
  have running : s.answerback.running = true := offers (by rw [offer]; exact nofun)
  obtain ⟨answerback, arbiter, switch, attention, advances⟩ :=
    advanceAnswerback_blocks d (by rw [dAnswerback]; exact running) (by rw [dAnswerback]; exact left running)
  have dRows : d.switch = { s.switch with
      freedPlace := if s.switch.answerback.print then false else s.switch.freedPlace } := by
    rw [dSwitch]
    simp only [pointerAfter, ite_self]
    rfl
  have transmitter : u.transmitter = d.transmitter := advances .transmitter (by decide)
  rw [dAnswerback] at answerback arbiter switch attention
  refine ⟨settle u, taken, ⟨?_, ?_, ?_, ?_, ?_, ?_, ?_⟩, ?_, ?_, ?_, ?_⟩
  · rw [settle_answerback, answerback]
  · rw [settle_arbiter, arbiter, dArbiter, waitAfterRequest_congr dArbiter]
  · intro complete
    rw [settle_rowAnswerback, settle_deferred, switch, dRows]
    exact ⟨if_pos complete, if_pos complete⟩
  · intro more
    rw [settle_rowAnswerback, settle_deferred, switch, dRows]
    exact ⟨if_neg more, if_neg more⟩
  · rw [settle_carriage, show u.carriage = d.carriage from advances .carriage (by decide), dCarriage]
    rfl
  · rw [settle_status, show u.status = d.status from advances .status (by decide), dStatus]
    rfl
  · rw [settle_attention, attention, dAttention]
    rfl
  · intro placed
    refine settle_slot_of_character u ?_
    rw [transmitter, dTransmitter]
    exact if_pos placed
  · rw [settle_roundRobin, switch, dRows]
  · exact (settle_changesOnly u).after (by decide) (advances.after (by decide) (delivers.mono (by decide)))
  · refine onlySettles_of_settle ?_ ?_ ?_
    · rw [settle_rowAnswerback, settle_deferred, switch, dRows]
    · exact (advances .flow (by decide)).trans (delivers .flow (by decide))
    · rw [transmitter, dTransmitter]
      rfl

end Sys2Proof.Machine

namespace Sys2Proof.Machine

/-! ## The abort of the answerback (R113) -/

section
variable (s : State)

/-- R113, R172: the read of the answerback is dropped: a waiting one is withdrawn, a running one will be discarded. -/
theorem dropRequest_answerback_arbiter : (dropRequest .answerback s).arbiter = arbiterAfterAbort s := by
  unfold dropRequest discardGrant withdrawRequest grantLive arbiterAfterAbort
  cases running : s.arbiter.grant with
  | none => simp [running, Arbiter.setWait]
  | some g =>
    cases g with
    | answerback address discarded =>
      cases discarded <;> simp [running, Arbiter.setWait, Grant.liveFor, Grant.discard]
    | _ => simp [running, Arbiter.setWait, Grant.liveFor]

/-- R113: what an abort leaves of a running answerback, and of one that does not run. -/
theorem abortAnswerback_blocks :
    (abortAnswerback s).answerback = (if s.answerback.running then
      { s.answerback with running := false, prefetched := none, lastResult := .aborted } else s.answerback) ∧
    (abortAnswerback s).arbiter = (if s.answerback.running then arbiterAfterAbort s else s.arbiter) ∧
    (abortAnswerback s).switch = (if s.answerback.running then
      { s.switch with answerback := s.switch.deferred.getD s.switch.answerback, deferred := none } else s.switch) ∧
    (abortAnswerback s).attention = { s.attention with
      flags := s.attention.flags ||| flagIf s.answerback.running .answerbackEnd } := by
  let stopped := s.onAnswerback fun a => { a with running := false, prefetched := none, lastResult := .aborted }
  have drops := dropRequest_frame .answerback stopped
  have arbiter := dropRequest_answerback_arbiter stopped
  cases running : s.answerback.running with
  | false => simp [abortAnswerback, running]
  | true =>
    have ends : abortAnswerback s = applyDeferred (raise .answerbackEnd (dropRequest .answerback stopped)) := if_pos running
    rw [ends]
    have answerback : (dropRequest .answerback stopped).answerback = stopped.answerback := drops .answerback (by decide)
    have switch : (dropRequest .answerback stopped).switch = s.switch := drops .switch (by decide)
    have attention : (dropRequest .answerback stopped).attention = s.attention := drops .attention (by decide)
    refine ⟨answerback, arbiter, ?_, ?_⟩
    · simp [applyDeferred, raise, switch]
    · simp [applyDeferred, raise, attention, flagIf]

/-- R113: an abort leaves no running answerback to abort. -/
theorem abortAnswerback_idem : abortAnswerback (abortAnswerback s) = abortAnswerback s := by
  have stopped : (abortAnswerback s).answerback.running = false := by
    rw [(abortAnswerback_blocks s).1]
    cases running : s.answerback.running <;> simp [running]
  exact if_neg (by rw [stopped]; decide)

theorem abortAnswerback_atIdle : abortAnswerback (answerbackAtIdle s) = abortAnswerback s := by
  unfold answerbackAtIdle
  split
  · exact abortAnswerback_idem s
  · rfl

end

/-! ## RESTART (R182, R183) -/

section
variable (s : State)

theorem dropRequest_of_noGrant {r : Requester} (h : s.arbiter.grant = none) : dropRequest r s = withdrawRequest r s := by
  have none' : (withdrawRequest r s).arbiter.grant = none := by cases r <;> exact h
  exact if_neg (by simp [grantLive, none'])

theorem discardTranslation_of_noGrant (h : s.arbiter.grant = none) : discardTranslation s = s := by
  simp [discardTranslation, h]

/-- R183: the operation whose step RESTART lets finish, from whichever state of the carriage. -/
theorem operationUnderWay_or (c : Carriage) :
    (operationUnderWay c).or c.stopping =
      if c.state = .printing ∨ c.state = .moving ∨ c.state = .returning ∨ c.state = .feeding then some c.state
      else c.stopping := by
  unfold operationUnderWay
  cases h : c.state <;> simp

/-- R57: the entry to IDLE of RESTART, less the answerback: the line, the transmitter, the line voice and the flow. -/
def restartLine (s : State) : State := flowToIdle (transmitterToOff (receiverToIdle (startCommand .restart s)))

/-- R93, R182: RESTART runs when it enters IDLE, so that no break ends a SEND-BREAK there; a character is discarded. -/
theorem restartLine_blocks :
    (restartLine s).command = { s.command with result := .running, running := some .restart } ∧
    (restartLine s).receiver = idleReceiver s ∧ (restartLine s).transmitter = idleTransmitter s ∧
    (restartLine s).tones = idleTones s ∧ (restartLine s).flow = idleFlow s ∧
    (restartLine s).attention = { s.attention with flags := (restartLine s).attention.flags } ∧
    changesOnly [.command, .receiver, .transmitter, .tones, .flow, .status, .attention] s (restartLine s) := by
  let entered := receiverToIdle (startCommand .restart s)
  let spared := discardSlot entered
  have uncut : cutBreak entered = entered := by
    unfold cutBreak endCommand
    split <;> rfl
  have discards : spared = entered ∨ spared = setTxDiscarded entered := by
    unfold spared discardSlot
    split
    · exact .inr rfl
    · exact .inl rfl
  have line : restartLine s = flowToIdle ((spared.onTransmitter fun t =>
      { t with
        state := .off, slot := .empty, shifter := none, flowRequest := none
        breakPending := false, breakByCommand := false
        bitClock := none, boundaryDue := false, breakTimer := none }).onTones fun t =>
      { t with line := t.line.silence }) := by
    unfold restartLine transmitterToOff
    rw [uncut]
  have frame : changesOnly [.status, .attention] entered spared := discardSlot_frame entered
  have command : spared.command = entered.command := frame .command (by decide)
  have receiver : spared.receiver = entered.receiver := frame .receiver (by decide)
  have transmitter : spared.transmitter = s.transmitter := frame .transmitter (by decide)
  have tones : spared.tones = s.tones := frame .tones (by decide)
  have flow : spared.flow = s.flow := frame .flow (by decide)
  have attention : spared.attention = { s.attention with flags := spared.attention.flags } := by
    rcases discards with h | h
    · rw [h]
      rfl
    · rw [h, setTxDiscarded_eq]
      rfl
  have starts : changesOnly [.command, .receiver] s entered :=
    (receiverToIdle_frame _).after (by decide) ((startCommand_frame _ s).mono (by decide))
  rw [line]
  refine ⟨command, receiver, ?_, ?_, ?_, attention, ?_⟩
  · rw [idleTransmitter, ← transmitter]
    rfl
  · rw [idleTones, ← tones]
    rfl
  · rw [idleFlow, ← flow]
    rfl
  · exact (flowToIdle_frame _).after (by decide) ((onTones_frame _ _).after (by decide)
      ((onTransmitter_frame _ _).after (by decide) (frame.after (by decide) (starts.mono (by decide)))))

/-- R25: the Ring Unit with no grant running. -/
theorem restartRings_blocks (free : s.arbiter.grant = none) :
    (restartRings s).rings = { s.rings with
      receiveHead := 0, receiveTail := 0, sendHead := 0, sendTail := 0, staged := [], lossMark := false
      prefetched := none } ∧
    (restartRings s).arbiter = { s.arbiter with receiveWriter := .absent, sendRing := .absent } ∧
    changesOnly [.rings, .arbiter] s (restartRings s) := by
  let emptied := s.onRings fun r =>
    { r with
      receiveHead := 0, receiveTail := 0, sendHead := 0, sendTail := 0
      staged := [], lossMark := false, prefetched := none }
  have withdraws : restartRings s = withdrawRequest .sendRing (withdrawRequest .receiveWriter emptied) :=
    (congrArg (dropRequest .sendRing) (dropRequest_of_noGrant emptied free)).trans
      (dropRequest_of_noGrant (withdrawRequest .receiveWriter emptied) free)
  rw [withdraws]
  refine ⟨rfl, rfl, ?_⟩
  exact (withdrawRequest_frame _ _).after (by decide) ((withdrawRequest_frame _ _).after (by decide)
    ((onRings_frame s _).mono (by decide)))

/-- R48: the key queue and the translator with no grant running. -/
theorem restartKeyboard_blocks (free : s.arbiter.grant = none) :
    (restartKeyboard s).keyboard = { s.keyboard with queue := [] } ∧ (restartKeyboard s).translator = .idle ∧
    (restartKeyboard s).arbiter = (
      let kept := s.arbiter.keymapQueue.filter (· ≠ .translation)
      { s.arbiter with
        keymapQueue := kept
        keymap :=
          if kept = [] then .absent
          else if s.arbiter.keymapQueue.head? = some .translation then .waiting
          else s.arbiter.keymap }) ∧
    changesOnly [.keyboard, .translator, .arbiter] s (restartKeyboard s) := by
  let emptied := (s.onKeyboard fun k => { k with queue := [] }).onTranslator fun _ => .idle
  have cancels : restartKeyboard s = cancelTranslation emptied := discardTranslation_of_noGrant (cancelTranslation emptied) free
  rw [cancels]
  refine ⟨rfl, rfl, rfl, ?_⟩
  exact (cancelTranslation_frame _).after (by decide) ((onTranslator_frame _ _).after (by decide)
    ((onKeyboard_frame s _).mono (by decide)))

/-- R155: a firing or a back-step goes on until it ends its step; any other state of the unit is left for IDLE. -/
theorem restartFiring_blocks (free : s.arbiter.grant = none) :
    (match s.dot.state with
      | .firing => (restartFiring s).dot = { s.dot with stopping := true }
      | .backStep _ => (restartFiring s).dot = { s.dot with stopping := true }
      | _ => (restartFiring s).dot = stoppedDot s.dot) ∧
    (restartFiring s).arbiter = { s.arbiter with font := .absent } ∧
    changesOnly [.dot, .arbiter] s (restartFiring s) := by
  rw [restartFiring, dropRequest_of_noGrant s free]
  have frame := restartDot_frame (withdrawRequest .font s)
  refine ⟨?_, frame .arbiter (by decide), frame.after (by decide) ((withdrawRequest_frame _ s).mono (by decide))⟩
  unfold restartDot
  rw [show (withdrawRequest .font s).dot = s.dot from rfl]
  cases s.dot.state <;> rfl

/-- R135, R182, R183: the carriage seeks home, at once unless an operation is under way. -/
theorem restartCarriage_blocks :
    (restartCarriage s).carriage = (
      let stops : Option CarriageState :=
        if s.carriage.state = .printing ∨ s.carriage.state = .moving ∨ s.carriage.state = .returning ∨
            s.carriage.state = .feeding then some s.carriage.state
        else s.carriage.stopping
      { s.carriage with
        queue := [], pending := [], state := .homeSeek, position := none, jam := false, paper := !s.pins.paper
        hot := decide (65 ≤ s.sensor.temperature), battery := decide (s.sensor.battery < 88), paperTimer := none
        motionTimer := none, consumedSinceIdle := false, stopping := stops
        seekTimer := if stops = none then some 240 else none }) ∧
    (restartCarriage s).switch = { s.switch with freedPlace := false } ∧
    changesOnly [.carriage, .switch] s (restartCarriage s) := by
  have hot : judgeHot false s.sensor.temperature = decide (65 ≤ s.sensor.temperature) := by
    by_cases h : 65 ≤ s.sensor.temperature <;> simp [judgeHot, h]
  have battery : judgeBattery false s.sensor.battery = decide (s.sensor.battery < 88) := by
    by_cases h : s.sensor.battery < 88 <;> simp [judgeBattery, h]
  refine ⟨?_, rfl, (onSwitch_frame _ _).after (by decide) ((onCarriage_frame s _).mono (by decide))⟩
  rw [← operationUnderWay_or, ← hot, ← battery]
  rfl

theorem restartClears_frame : changesOnly [.status, .passage, .attention] s (restartClears s) :=
  (onAttention_frame _ _).after (by decide) ((onPassage_frame _ _).after (by decide)
    ((onStatus_frame s _).mono (by decide)))

end

end Sys2Proof.Machine

namespace Sys2Proof.Machine

/-- R96: off a call with no demand held, the demands held are the ones judged. -/
theorem demandsJudged_of_inactive {s : State} (inactive : flowActive s = false) (print : s.flow.printDemand = false)
    (ring : s.flow.ringDemand = false) : demandsJudged s := by
  simp [demandsJudged, judgedPrintDemand, judgedRingDemand, inactive, print, ring]

/-- R182: what RESTART does after the entry to IDLE and the abort of the answerback: each unit stops, and the last of
its effects clears the sticky flags, the requests and the stack. -/
def restartUnits (s : State) : State :=
  restartClears (restartFiring (restartCarriage (restartTones (restartKeyboard (restartRings s)))))

/-- R182: the effect of RESTART is the entry to IDLE, one abort of the answerback, and the stop of each unit in turn. -/
theorem restartEffect_eq (s : State) : restartEffect s = restartUnits (abortAnswerback (restartLine s)) := by
  rw [restartEffect, enterIdle, abortAnswerback_atIdle, restartLine, restartUnits]

/-- R25, R48, R83, R135, R155, R182, R183: the units that RESTART stops, with no grant running. -/
theorem restartUnits_blocks (s : State) (free : s.arbiter.grant = none) :
    (restartUnits s).passage = { s.passage with commandOverrun := false } ∧
    (restartUnits s).status = ⟨false, false, false, false, false, false⟩ ∧
    (restartUnits s).attention = { s.attention with flags := 0, stack := [], severalChanges := false } ∧
    (restartUnits s).switch = { s.switch with freedPlace := false } ∧
    (restartUnits s).rings = { s.rings with
      receiveHead := 0, receiveTail := 0, sendHead := 0, sendTail := 0, staged := [], lossMark := false
      prefetched := none } ∧
    (restartUnits s).keyboard = { s.keyboard with queue := [] } ∧
    (restartUnits s).translator = .idle ∧
    (restartUnits s).tones = { s.tones with
      sounder := { s.tones.sounder with sounding := false }, request := none, sounderTimer := none } ∧
    (restartUnits s).carriage = (restartCarriage s).carriage ∧
    (match s.dot.state with
      | .firing => (restartUnits s).dot = { s.dot with stopping := true }
      | .backStep _ => (restartUnits s).dot = { s.dot with stopping := true }
      | _ => (restartUnits s).dot = stoppedDot s.dot) ∧
    (restartUnits s).arbiter = (
      let kept := s.arbiter.keymapQueue.filter (· ≠ .translation)
      { s.arbiter with
        receiveWriter := .absent, font := .absent, sendRing := .absent, keymapQueue := kept
        keymap :=
          if kept = [] then .absent
          else if s.arbiter.keymapQueue.head? = some .translation then .waiting
          else s.arbiter.keymap }) ∧
    changesOnly [.passage, .status, .attention, .switch, .rings, .keyboard, .translator, .tones, .carriage, .dot, .arbiter]
      s (restartUnits s) := by
  let r := restartRings s
  let k := restartKeyboard r
  let n := restartTones k
  let c := restartCarriage n
  let f := restartFiring c
  have toU : changesOnly [.status, .passage, .attention] f (restartUnits s) := restartClears_frame f
  obtain ⟨rings, rArbiter, toR⟩ := restartRings_blocks s free
  have rFree : r.arbiter.grant = none := by rw [rArbiter]; exact free
  obtain ⟨keyboard, translator, kArbiter, toK⟩ := restartKeyboard_blocks r rFree
  have toN : changesOnly [.tones] k n := onTones_frame _ _
  obtain ⟨nCarriage, cSwitch, toC⟩ := restartCarriage_blocks n
  have cArbiter : c.arbiter = k.arbiter := (toC .arbiter (by decide)).trans (toN .arbiter (by decide))
  have cFree : c.arbiter.grant = none := by rw [cArbiter, kArbiter]; exact rFree
  obtain ⟨dot, fArbiter, toF⟩ := restartFiring_blocks c cFree
  have begins : changesOnly [.rings, .keyboard, .translator, .tones, .arbiter] s n :=
    toN.after (by decide) (toK.after (by decide) (toR.mono (by decide)))
  have stops : changesOnly [.carriage, .switch, .dot, .arbiter] n f := toF.after (by decide) (toC.mono (by decide))
  refine ⟨?_, rfl, ?_, ?_, ?_, ?_, ?_, ?_, ?_, ?_, ?_, ?_⟩
  · rw [← show f.passage = s.passage from (stops .passage (by decide)).trans (begins .passage (by decide))]
    rfl
  · rw [← show f.attention = s.attention from (stops .attention (by decide)).trans (begins .attention (by decide))]
    rfl
  · rw [show (restartUnits s).switch = c.switch from (toU .switch (by decide)).trans (toF .switch (by decide)), cSwitch,
      show n.switch = s.switch from begins .switch (by decide)]
  · rw [show (restartUnits s).rings = n.rings from (toU .rings (by decide)).trans (stops .rings (by decide)),
      show n.rings = r.rings from (toN .rings (by decide)).trans (toK .rings (by decide)), rings]
  · rw [show (restartUnits s).keyboard = n.keyboard from
      (toU .keyboard (by decide)).trans (stops .keyboard (by decide)),
      show n.keyboard = k.keyboard from toN .keyboard (by decide), keyboard,
      show r.keyboard = s.keyboard from toR .keyboard (by decide)]
  · rw [show (restartUnits s).translator = n.translator from
      (toU .translator (by decide)).trans (stops .translator (by decide)),
      show n.translator = k.translator from toN .translator (by decide), translator]
  · rw [show (restartUnits s).tones = n.tones from (toU .tones (by decide)).trans (stops .tones (by decide)),
      ← show k.tones = s.tones from (toK .tones (by decide)).trans (toR .tones (by decide))]
    rfl
  · rw [show (restartUnits s).carriage = c.carriage from (toU .carriage (by decide)).trans (toF .carriage (by decide)),
      nCarriage, (restartCarriage_blocks s).1, show n.carriage = s.carriage from begins .carriage (by decide),
      show n.sensor = s.sensor from begins .sensor (by decide), show n.pins = s.pins from begins .pins (by decide)]
  · rw [show c.dot = s.dot from (toC .dot (by decide)).trans (begins .dot (by decide))] at dot
    rw [show (restartUnits s).dot = f.dot from toU .dot (by decide)]
    exact dot
  · rw [show (restartUnits s).arbiter = f.arbiter from toU .arbiter (by decide), fArbiter, cArbiter, kArbiter,
      show r.arbiter = _ from rArbiter]
  · exact toU.after (by decide) (stops.after (by decide) (begins.mono (by decide)))

/-- Settles O20: the effect unit by unit; off a call the judgement that ends the taking moves the waits alone. -/
theorem restartCommand : Obligations.RestartCommand := by
  intro s free idle _
  have noGrant : s.arbiter.grant = none := free.2.2.1
  let v := (driveMemory [.write (controlAddress s.passage.page 0x00#6) 0x0C#8] s).onCommand fun c => { c with last := 0x0C#8 }
  let l := restartLine v
  let a := abortAnswerback l
  let u := restartUnits a
  have taken : exec .restart s = .next (settle u) := by
    simp only [exec, execRestart, writeCommand]
    rw [writeAt_of_portFree free 0x0C#8 fun _ => idle]
    exact congrArg (fun x => Host.Outcome.next (settle x)) (restartEffect_eq v)
  have toV : changesOnly [.pins, .command] s v :=
    (onCommand_frame _ _).after (by decide) ((driveMemory_frame _ s).mono (by decide))
  obtain ⟨command, receiver, transmitter, tones, flow, flags, toL⟩ := restartLine_blocks v
  obtain ⟨answerback, aArbiter, aSwitch, aAttention⟩ := abortAnswerback_blocks l
  have toA := abortAnswerback_frame l
  have lArbiter : l.arbiter = s.arbiter := (toL .arbiter (by decide)).trans (toV .arbiter (by decide))
  have lSwitch : l.switch = s.switch := (toL .switch (by decide)).trans (toV .switch (by decide))
  have lAnswerback : l.answerback = s.answerback := (toL .answerback (by decide)).trans (toV .answerback (by decide))
  have aborted : a.arbiter = { s.arbiter with
      answerback := if s.answerback.running then .absent else s.arbiter.answerback } := by
    rw [aArbiter, lAnswerback, arbiterAfterAbort, lArbiter, noGrant]
    cases s.answerback.running
    · rfl
    · simp [← noGrant]
  have starts : changesOnly [.pins, .command, .receiver, .transmitter, .tones, .flow, .status, .attention, .answerback,
      .arbiter, .switch] s a :=
    toA.after (by decide) (toL.after (by decide) (toV.mono (by decide)))
  obtain ⟨passage, status, uAttention, switch, rings, keyboard, translator, uTones, carriage, dot, arbiter, stops⟩ :=
    restartUnits_blocks a (by rw [aborted]; exact noGrant)
  have uFlow : u.flow = idleFlow s := (stops .flow (by decide)).trans ((toA .flow (by decide)).trans flow)
  have uReceiver : u.receiver = idleReceiver s :=
    (stops .receiver (by decide)).trans ((toA .receiver (by decide)).trans receiver)
  have uTransmitter : u.transmitter = idleTransmitter s :=
    (stops .transmitter (by decide)).trans ((toA .transmitter (by decide)).trans transmitter)
  have uSwitch : u.switch = { s.switch with
      answerback := if s.answerback.running then s.switch.deferred.getD s.switch.answerback else s.switch.answerback
      deferred := if s.answerback.running then none else s.switch.deferred, freedPlace := false } := by
    refine switch.trans ?_
    rw [aSwitch, lSwitch, lAnswerback]
    cases s.answerback.running <;> rfl
  have judged : settle u = judgeWaits u := by
    refine settle_of_judged (demandsJudged_of_inactive ?_ ?_ ?_)
    · rw [flowActive, uReceiver]
      exact Bool.and_false _
    · rw [uFlow]; rfl
    · rw [uFlow]; rfl
  refine ⟨settle u, taken, ?_, ?_, ?_, ?_, ?_, ?_, ?_, ?_, ?_, ?_, ?_, ?_, ?_, ?_, ?_, ?_, ?_, ?_, ?_, ?_⟩
  · rw [hostWrote, settle_pins]
    exact (stops .pins (by decide)).trans ((toA .pins (by decide)).trans (toL .pins (by decide)))
  · rw [settle_command]
    exact (stops .command (by decide)).trans ((toA .command (by decide)).trans command)
  · rw [settle_passage, ← show a.passage = s.passage from starts .passage (by decide)]
    exact passage
  · rw [settle_status]
    exact status
  · rw [settle_attention, show u.attention = _ from uAttention, aAttention, show l.attention = _ from flags]
    rfl
  · rw [settle_switch, uSwitch]
  · refine onlySettles_of_settle ?_ (by rw [judged]; rfl) (by rw [judged]; rfl)
    show u.switch = _
    rw [settle_switch, uSwitch]
  · rw [settle_rings, ← show a.rings = s.rings from starts .rings (by decide)]
    exact rings
  · rw [settle_keyboard, ← show a.keyboard = s.keyboard from starts .keyboard (by decide)]
    exact keyboard
  · rw [settle_translator]
    exact translator
  · rw [settle_receiver]
    exact uReceiver
  · rw [judged]
    exact uTransmitter
  · have line : a.tones = idleTones s := (toA .tones (by decide)).trans tones
    rw [settle_tones, show u.tones = _ from uTones, line]
    rfl
  · rw [judged]
    exact uFlow
  · rw [settle_answerback, show u.answerback = a.answerback from stops .answerback (by decide), answerback, lAnswerback]
    cases s.answerback.running <;> exact rfl
  · rw [settle_carriage, show u.carriage = _ from carriage, (restartCarriage_blocks a).1,
      show a.carriage = s.carriage from starts .carriage (by decide),
      show a.sensor = s.sensor from starts .sensor (by decide),
      show a.pins = v.pins from (toA .pins (by decide)).trans (toL .pins (by decide))]
    rfl
  · rw [show a.dot = s.dot from starts .dot (by decide)] at dot
    rw [settle_dot]
    exact dot
  · rw [settle_arbiter, show u.arbiter = _ from arbiter, aborted]
  · rw [settle_sensor]
    exact (stops .sensor (by decide)).trans (starts .sensor (by decide))
  · rw [settle_pending]
    exact (stops .pending (by decide)).trans (starts .pending (by decide))

end Sys2Proof.Machine

namespace Sys2Proof.Machine

/-! ## The received break (R61, R62, R68, R113, R133, R134) -/

section
variable (s : State)

/-- R133, R134: what a flush, or none, leaves in the carriage, the switch and the requests. -/
theorem flushIf_blocks (flushes : Bool) {t : State} (ht : t = if flushes then flushPrintQueue s else s) :
    (let idle := flushes && decide (s.carriage.state = .ready) && s.carriage.consumedSinceIdle
     t.carriage = (if flushes then { s.carriage with
        queue := [], pending := [], consumedSinceIdle := s.carriage.consumedSinceIdle && !idle } else s.carriage) ∧
     t.switch = { s.switch with freedPlace := if flushes then false else s.switch.freedPlace } ∧
     t.attention = { s.attention with flags := s.attention.flags ||| flagIf idle .printIdle } ∧
     changesOnly [.carriage, .switch, .attention] s t) := by
  cases flushes with
  | false =>
    rw [show t = s from ht]
    exact ⟨rfl, rfl, by simp, changesOnly_refl _ s⟩
  | true =>
    have flushed : t = flushPrintQueue s := ht
    subst flushed
    let emptied := (s.onCarriage fun c => { c with queue := [], pending := [] }).onSwitch fun c =>
      { c with freedPlace := false }
    have frame := flushPrintQueue_frame s
    rw [show flushPrintQueue s = judgePrintIdle emptied from rfl] at frame ⊢
    rcases judgePrintIdle_cases emptied with ⟨⟨ready, _, consumed⟩, h⟩ | ⟨busy, h⟩
    · have ready' : s.carriage.state = .ready := ready
      have consumed' : s.carriage.consumedSinceIdle = true := consumed
      rw [h] at frame ⊢
      refine ⟨?_, rfl, ?_, frame⟩
      · simp [ready', consumed', raise, emptied]
      · simp [ready', consumed', raise, emptied, flagIf]
    · have calm : (decide (s.carriage.state = .ready) && s.carriage.consumedSinceIdle) = false := by
        rw [Bool.eq_false_iff, Ne, Bool.and_eq_true, decide_eq_true_iff]
        exact fun ⟨ready, consumed⟩ => busy ⟨ready, rfl, consumed⟩
      rw [h] at frame ⊢
      refine ⟨?_, rfl, ?_, frame⟩
      · simp [calm, emptied]
      · simp [calm, emptied]

/-- R113, R172: no grant of the answerback that its unit will use is left by an abort. -/
theorem grantLive_of_aborted {t : State} (h : t.arbiter.grant = (arbiterAfterAbort s).grant) :
    grantLive .answerback t = false := by
  unfold grantLive
  rw [h, arbiterAfterAbort]
  cases running : s.arbiter.grant with
  | none => rfl
  | some g => cases g <;> rfl

/-- R68: what a break leaves, block by block. -/
theorem receiveBreak_blocks :
    (let offered := s.switch.lineIn.ring && decide (s.rings.receiveSize ≠ 0)
     let flushes := s.receiver.options.breakFlushesPrint
     let idle := flushes && decide (s.carriage.state = .ready) && s.carriage.consumedSinceIdle
     (receiveBreak s).flow = { s.flow with remotePause := false, remotePauseTimer := none } ∧
     (receiveBreak s).answerback = (if s.answerback.running then
      { s.answerback with running := false, prefetched := none, lastResult := .aborted } else s.answerback) ∧
     (receiveBreak s).switch = { s.switch with
      freedPlace := if flushes then false else s.switch.freedPlace
      answerback := if s.answerback.running then s.switch.deferred.getD s.switch.answerback else s.switch.answerback
      deferred := if s.answerback.running then none else s.switch.deferred } ∧
     (receiveBreak s).rings = ringsAfterOffer offered (plainRecord .breakMarker 0x00#8) s ∧
     (receiveBreak s).arbiter = { (if s.answerback.running then arbiterAfterAbort s else s.arbiter) with
      receiveWriter := waitAfterRequest (offered && recordFits s) .receiveWriter s } ∧
     (receiveBreak s).carriage = (if flushes then { s.carriage with
        queue := [], pending := [], consumedSinceIdle := s.carriage.consumedSinceIdle && !idle }
      else s.carriage) ∧
     (receiveBreak s).status = { s.status with ringLoss := s.status.ringLoss || losesRecord offered s } ∧
     (receiveBreak s).attention = { s.attention with
      flags := s.attention.flags ||| flagIf true .breakIn |||
        flagIf (losesRecord offered s && !s.status.ringLoss) .loss ||| flagIf idle .printIdle |||
        flagIf s.answerback.running .answerbackEnd }) := by
  let offered := s.switch.lineIn.ring && decide (s.rings.receiveSize ≠ 0)
  let flushes := s.receiver.options.breakFlushesPrint
  let r := raise .breakIn s
  let m := if offered then offerRecord (plainRecord .breakMarker 0) r else r
  let f := if flushes then flushPrintQueue m else m
  obtain ⟨rings, mArbiter, mStatus, mAttention, toM⟩ :=
    offerIf_blocks r offered (plainRecord .breakMarker 0) (t := m) rfl
  obtain ⟨carriage, fSwitch, fAttention, toF⟩ := flushIf_blocks m flushes (t := f) rfl
  obtain ⟨answerback, arbiter, switch, attention⟩ := abortAnswerback_blocks f
  have toA := abortAnswerback_frame f
  have mOptions : m.receiver = s.receiver := toM .receiver (by decide)
  have ends : receiveBreak s = clearRemotePause (abortAnswerback f) := rfl
  rw [ends]
  have fAnswerback : f.answerback = s.answerback := (toF .answerback (by decide)).trans (toM .answerback (by decide))
  have mSwitch : m.switch = s.switch := toM .switch (by decide)
  have mCarriage : m.carriage = s.carriage := toM .carriage (by decide)
  have flow : (abortAnswerback f).flow = s.flow :=
    (toA .flow (by decide)).trans ((toF .flow (by decide)).trans (toM .flow (by decide)))
  have fArbiter : f.arbiter = m.arbiter := toF .arbiter (by decide)
  refine ⟨?_, ?_, ?_, ?_, ?_, ?_, ?_, ?_⟩
  · rw [← flow]
    rfl
  · exact answerback.trans (by rw [fAnswerback])
  · refine switch.trans ?_
    rw [fAnswerback, fSwitch, mSwitch]
    cases s.answerback.running <;> rfl
  · exact (toA .rings (by decide)).trans ((toF .rings (by decide)).trans rings)
  · refine arbiter.trans ?_
    rw [fAnswerback, arbiterAfterAbort, fArbiter, mArbiter]
    cases s.answerback.running <;> rfl
  · refine (toA .carriage (by decide)).trans (carriage.trans ?_)
    rw [mCarriage]
  · exact (toA .status (by decide)).trans ((toF .status (by decide)).trans mStatus)
  · refine attention.trans ?_
    rw [fAttention, mAttention, mCarriage, fAnswerback]
    rfl

/-! ### The sample (R60 to R62, R66, R84) -/

theorem heard_eq_heardBy (line : LineInput) : heard line s.receiver = heardBy s line := by
  unfold heard receivedPair heardBy
  cases s.receiver.channel <;> rfl

/-- R61: the average of the most recent samples, all of which the history of 128 keeps. -/
theorem sampleAverage_eq (energy : Byte) : sampleAverage energy s.receiver = sampleE energy s := by
  unfold sampleAverage energyAverage pushEnergy sampleE
  cases s.receiver.window <;> simp only [List.take_take, Window.size, Config.historyLength] <;> rfl

/-- R62: the off-threshold in force is the lesser of the two. -/
theorem offInForce_toNat : s.receiver.offInForce.toNat = offThreshold s := by
  unfold LineReceiver.offInForce offThreshold
  by_cases below : s.receiver.offThreshold ≤ s.receiver.onThreshold
  · rw [if_pos below, min_eq_left (BitVec.le_def.1 below)]
  · rw [if_neg below, min_eq_right (Nat.le_of_not_le fun h => below (BitVec.le_def.2 h))]

/-- R62: a carrier that is present stays so while E is at or above the off-threshold. -/
theorem sampleCarrier_of_present {energy : Byte} (present : s.receiver.carrier = true)
    (loud : offThreshold s ≤ sampleE energy s) : sampleCarrier energy s.receiver = true := by
  have quiet : ¬ sampleE energy s < s.receiver.offInForce.toNat := by
    rw [offInForce_toNat]
    exact Nat.not_lt.2 loud
  unfold sampleCarrier LineReceiver.judgeCarrier
  rw [sampleAverage_eq, if_neg quiet, present, ite_self]

/-- R61, R84: the sample in the receiver, and one count of the bit clock. -/
theorem recordSample_blocks (energy : Byte) :
    (recordSample energy s).receiver = sampledReceiver energy s ∧ clockTicked s (recordSample energy s) ∧
    (recordSample energy s).transmitter = { s.transmitter with
      bitClock := (recordSample energy s).transmitter.bitClock
      boundaryDue := (recordSample energy s).transmitter.boundaryDue } ∧
    changesOnly [.receiver, .transmitter] s (recordSample energy s) := by
  let heard := s.onReceiver fun r => { r with history := pushEnergy energy r.history, energy := sampleAverage energy r }
  have ticks : changesOnly [.transmitter] heard (recordSample energy s) := tickBitClock_frame heard
  refine ⟨?_, ?_, ?_, ticks.after (by decide) ((onReceiver_frame s _).mono (by decide))⟩
  · rw [show (recordSample energy s).receiver = heard.receiver from ticks .receiver (by decide), sampledReceiver,
      ← sampleAverage_eq]
    rfl
  · unfold clockTicked recordSample tickBitClock
    cases clock : s.transmitter.bitClock with
    | none => simp [clock]
    | some n => by_cases more : n + 1 < 16 <;> simp [clock, more]
  · unfold recordSample tickBitClock
    cases clock : s.transmitter.bitClock with
    | none =>
      simp only [State.onReceiver_transmitter, State.onTransmitter_transmitter, clock]
      rw [← clock]
    | some n => by_cases more : n + 1 < 16 <;> simp [clock, more]

theorem settle_clock : (settle s).transmitter.bitClock = s.transmitter.bitClock ∧
    (settle s).transmitter.boundaryDue = s.transmitter.boundaryDue := by
  rw [(settle_touches s).2.2.1]
  exact ⟨rfl, rfl⟩

/-- R68: the last sample of a frame of spaces ends a break. -/
theorem framerStep_breakEnds {format : Nat} {p : FrameProgress} (known : format ≤ 7) (ends : atFrameEnd p)
    (spaces : allSpace p) (tone : Tone) : framerStep format (.frame p) tone = .breakEnds := by
  obtain ⟨bit, sample, _⟩ := ends
  have stop : stopBitIndex format = 9 := by interval_cases format <;> rfl
  have advanced : p.advance.decide tone = { p with sample := 16 } := by
    simp [FrameProgress.advance, FrameProgress.decide, sample]
  have all : isBreak (p.advance.decide tone) = true := by
    rw [advanced, isBreak, List.all_eq_true]
    exact fun v voted => beq_iff_eq.2 (spaces v voted)
  have goes : (p.advance.decide tone).falseStart = false := by simp [advanced, FrameProgress.falseStart, bit]
  have last : (p.advance.decide tone).bit = stopBitIndex format ∧ (p.advance.decide tone).sample = 16 := by
    rw [advanced, stop]
    exact ⟨bit, rfl⟩
  simp only [framerStep, goes, last, all, and_self, if_true, Bool.false_eq_true, if_false]

end

end Sys2Proof.Machine

namespace Sys2Proof.Machine

/-- R61, R68: with the carrier present before and after the sample, the framer's break is received on the sample's record. -/
theorem exec_receivedBreak_of_breakEnds {s : State} {line : LineInput} {energy : Byte} {tone : Tone}
    (hears : heardBy s line = ⟨energy, tone⟩) (data : s.receiver.line = .data) (present : s.receiver.carrier = true)
    (loud : offThreshold s ≤ sampleE energy s)
    (ends : framerStep s.receiver.formatCode s.receiver.framer tone = .breakEnds) :
    exec (.receivedBreak line.low line.high) s =
      .next (settle (receiveBreak (setFramer .breakWait (recordSample energy s)))) := by
  have heardHere : heard line s.receiver = ⟨energy, tone⟩ := (heard_eq_heardBy s line).trans hears
  have stays : sampleCarrier energy s.receiver = true := sampleCarrier_of_present s present loud
  have breaks : endsReceivedBreak line s.receiver = true := by
    simp [endsReceivedBreak, framerSamples, heardHere, data, present, stays, ends]
  have recorded : (recordSample energy s).receiver = sampledReceiver energy s := (recordSample_blocks s energy).1
  have framed : advanceFramer tone (recordSample energy s) =
      receiveBreak (setFramer .breakWait (recordSample energy s)) := by
    unfold advanceFramer
    rw [recorded]
    simp only [sampledReceiver, ends]
  have sampled : sampleLine line s = settle (advanceFramer tone (recordSample energy s)) := by
    simp [sampleLine, lineSample, heardHere, data, present, stays]
  rw [← framed, ← sampled]
  exact congrArg Host.Outcome.next (if_pos breaks)

/-- Settles O32: the sample ends the break, and `receiveBreak_blocks` says what that leaves. -/
theorem receivedBreak : Obligations.ReceivedBreak := by
  intro s line energy tone p hears data present loud known framing atEnd spaces
  let q := recordSample energy s
  let w := setFramer .breakWait q
  let u := receiveBreak w
  have taken : exec (.receivedBreak line.low line.high) s = .next (settle u) :=
    exec_receivedBreak_of_breakEnds hears data present loud
      (by rw [framing]; exact framerStep_breakEnds known atEnd spaces tone)
  obtain ⟨recorded, ticked, clocked, toQ⟩ := recordSample_blocks s energy
  have toW : changesOnly [.receiver, .transmitter] s w :=
    (setFramer_frame _ _).after (by decide) (toQ.mono (by decide))
  have toU := receiveBreak_frame w
  obtain ⟨flow, answerback, switch, rings, arbiter, carriage, status, attention⟩ := receiveBreak_blocks w
  have wSwitch : w.switch = s.switch := toW .switch (by decide)
  have wRings : w.rings = s.rings := toW .rings (by decide)
  have wAnswerback : w.answerback = s.answerback := toW .answerback (by decide)
  have wArbiter : w.arbiter = s.arbiter := toW .arbiter (by decide)
  have wCarriage : w.carriage = s.carriage := toW .carriage (by decide)
  have wStatus : w.status = s.status := toW .status (by decide)
  have wReceiver : w.receiver = { sampledReceiver energy s with framer := .breakWait } := by
    rw [← recorded]
    rfl
  have wOptions : w.receiver.options = s.receiver.options := by
    rw [wReceiver]
    rfl
  have uTransmitter : u.transmitter = q.transmitter := toU .transmitter (by decide)
  have fits : recordFits w = recordFits s := by simp only [recordFits, wRings]
  dsimp only at switch rings arbiter carriage status attention
  rw [wSwitch, wAnswerback, wOptions] at switch
  rw [wSwitch, wRings, ringsAfterOffer_congr s wRings] at rings
  rw [wSwitch, wRings, wAnswerback, fits, waitAfterRequest_congr wArbiter, arbiterAfterAbort, wArbiter,
    ← arbiterAfterAbort] at arbiter
  rw [wOptions, wCarriage] at carriage
  rw [wSwitch, wRings, wStatus, losesRecord, fits] at status
  rw [wSwitch, wRings, wStatus, wOptions, wCarriage, wAnswerback, losesRecord, fits,
    show w.attention = s.attention from toW .attention (by decide)] at attention
  rw [show w.flow = s.flow from toW .flow (by decide)] at flow
  have grant : u.arbiter.grant = (if s.answerback.running then arbiterAfterAbort s else s.arbiter).grant := by
    rw [show u.arbiter = _ from arbiter]
  have clock := settle_clock u
  rw [uTransmitter] at clock
  refine ⟨settle u, taken, ?_, ?_, ?_, ?_, ?_, ?_, ?_, ?_, ?_, ?_, ?_, ?_⟩
  · rw [settle_receiver, ← wReceiver]
    exact toU .receiver (by decide)
  · unfold clockTicked
    rw [clock.1, clock.2]
    exact ticked
  · rw [(settle_touches u).2.1, flow]
  · rw [(settle_touches u).2.1, flow]
  · unfold answerbackAborted
    have row : u.switch.answerback = _ := congrArg CharSwitch.answerback switch
    have deferral : u.switch.deferred = _ := congrArg CharSwitch.deferred switch
    have waiting : u.arbiter.answerback = _ := congrArg Arbiter.answerback arbiter
    rw [settle_answerback, settle_arbiter, settle_rowAnswerback, settle_deferred, answerback, wAnswerback, row, deferral,
      waiting]
    cases running : s.answerback.running with
    | true =>
      rw [running] at grant
      refine ⟨rfl, rfl, grantLive_of_aborted s ?_, rfl, rfl⟩
      rw [settle_arbiter]
      exact grant
    | false => exact ⟨rfl, rfl, rfl⟩
  · rw [settle_rings]
    exact rings
  · rw [settle_arbiter]
    exact arbiter
  · rw [settle_carriage]
    exact carriage
  · rw [settle_status]
    exact status
  · rw [settle_attention]
    exact attention
  · exact (settle_changesOnly u).after (by decide) (toU.after (by decide) (toW.mono (by decide)))
  · refine onlySettles_of_settle ?_ flow ?_
    · rw [settle_rowAnswerback, settle_deferred]
      exact switch.trans (by rw [switch])
    · rw [clock.1, clock.2, uTransmitter]
      exact clocked

end Sys2Proof.Machine

namespace Sys2Proof.Machine

/-! ## The handling of a print entry (R121 to R125) -/

section
variable (s : State)

/-- R123: the target of a tab motion is the least of the stops ahead, and 79 where none is ahead and 79 is. -/
theorem tabTarget_cases (p : Nat) (stops : List Nat) :
    (∃ stop, tabTarget p stops = some stop ∧ stop ∈ stops ∧ p < stop ∧ ∀ cell ∈ stops, p < cell → stop ≤ cell) ∨
    ((¬ ∃ cell ∈ stops, p < cell) ∧ tabTarget p stops = if p < 79 then some 79 else none) := by
  unfold tabTarget
  cases ahead : (stops.filter (p < ·)).min? with
  | some stop =>
    obtain ⟨found, least⟩ := List.min?_eq_some_iff.1 ahead
    obtain ⟨held, beyond⟩ := List.mem_filter.1 found
    exact .inl ⟨stop, rfl, held, of_decide_eq_true beyond, fun cell mem h =>
      least cell (List.mem_filter.2 ⟨mem, decide_eq_true h⟩)⟩
  | none =>
    have empty : stops.filter (p < ·) = [] := List.min?_eq_none_iff.1 ahead
    refine .inr ⟨fun ⟨cell, mem, h⟩ => ?_, rfl⟩
    exact List.filter_eq_nil_iff.1 empty cell mem (decide_eq_true h)

/-- R80, R81, R125: no request outranks the BELL of a BEL entry. -/
theorem ringBell_tones (e : PrintEntry) :
    (ringBell e s).tones = if e = .character 0x07#7 then tonesAfterBell s else s.tones := by
  unfold ringBell tonesAfterBell requestSound
  split
  · rcases s.tones.request with _ | (_ | _ | _) <;> rfl
  · rfl

/-- R136, R140: the Dot Firing Unit at a handover, and the request for the glyph. -/
theorem handOver_blocks (glyph : BitVec 7) (backStep : Bool) :
    (handOver glyph backStep s).dot = handedDot glyph backStep s.dot s.sensor ∧
    (handOver glyph backStep s).arbiter.font ≠ .absent ∧
    (handOver glyph backStep s).arbiter = { s.arbiter with font := (handOver glyph backStep s).arbiter.font } := by
  let asked := s.onDot fun d => { d with history := 0, glyph := .requested, code := glyph }
  have arbiter : (handOver glyph backStep s).arbiter = (requestGrant .font asked).arbiter := by
    unfold handOver
    cases backStep <;> rfl
  have asks := requestGrant_frame .font asked
  have dot : (requestGrant .font asked).dot = asked.dot := asks .dot (by decide)
  have sensor : (requestGrant .font asked).sensor = s.sensor := asks .sensor (by decide)
  rw [arbiter]
  refine ⟨?_, ?_⟩
  · cases backStep with
    | false =>
      show (columnStep 1 (requestGrant .font asked)).dot = _
      simp only [columnStep, State.onDot_dot, dot, sensor]
      rfl
    | true =>
      show ((requestGrant .font asked).onDot fun d => { d with state := .backStep 0 }).dot = _
      simp only [State.onDot_dot, dot]
      rfl
  · rcases requestGrant_cases .font asked with ⟨_, h⟩ | ⟨pending, h⟩
    · rw [h]
      exact ⟨nofun, rfl⟩
    · rw [h]
      exact ⟨pending, rfl⟩

/-- R6, R121: the entry at the head leaves the queue. -/
theorem consumeEntry_blocks (rest : List PrintEntry) :
    (consumeEntry rest s).carriage = { s.carriage with queue := rest, consumedSinceIdle := true } ∧
    (consumeEntry rest s).switch = { s.switch with
      freedPlace := decide (s.carriage.queue.length = 48) &&
        placeContested { s with carriage := { s.carriage with queue := rest } } } ∧
    changesOnly [.carriage, .switch] s (consumeEntry rest s) :=
  ⟨rfl, rfl, (onSwitch_frame _ _).after (by decide) ((onCarriage_frame s _).mono (by decide))⟩

/-- R121, R134: an entry without an operation is consumed at once, with PRINT-IDLE where it was the last. -/
theorem judgePrintIdle_blocks (ready : s.carriage.state = .ready) (consumed : s.carriage.consumedSinceIdle = true) :
    (judgePrintIdle s).carriage = { s.carriage with consumedSinceIdle := decide (s.carriage.queue ≠ []) } ∧
    (judgePrintIdle s).attention = { s.attention with
      flags := s.attention.flags ||| flagIf (decide (s.carriage.queue = [])) .printIdle } := by
  unfold judgePrintIdle
  by_cases last : s.carriage.queue = []
  · simp [ready, consumed, last, raise, flagIf]
  · simp [last, ← consumed]

theorem beginOperations_frame (operations : List Operation) :
    changesOnly [.carriage, .dot, .arbiter, .attention] s (beginOperations operations s) := by
  cases operations with
  | nil => exact (judgePrintIdle_frame s).mono (by decide)
  | cons first rest => exact (beginOperation_frame first _).after (by decide) ((onCarriage_frame s _).mono (by decide))

/-- R121: of the carriage only the operation begun and the ones pending move. -/
theorem beginOperations_carriage (operations : List Operation) :
    (beginOperations operations s).carriage = { s.carriage with
      consumedSinceIdle := (beginOperations operations s).carriage.consumedSinceIdle
      state := (beginOperations operations s).carriage.state
      pending := (beginOperations operations s).carriage.pending
      target := (beginOperations operations s).carriage.target
      motionTimer := (beginOperations operations s).carriage.motionTimer } := by
  cases operations with
  | nil =>
    show (judgePrintIdle s).carriage = _
    rcases judgePrintIdle_cases s with ⟨_, h⟩ | ⟨_, h⟩
    · simp only [beginOperations, h]
      rfl
    · simp only [beginOperations, h]
  | cons first rest =>
    cases first with
    | print glyph =>
      let printing := (s.onCarriage fun c => { c with pending := rest }).onCarriage fun c => { c with state := .printing }
      let back := decide ((s.onCarriage fun c => { c with pending := rest }).carriage.position.getD 0 = 80)
      have kept : (handOver glyph back printing).carriage = printing.carriage := handOver_frame _ _ _ .carriage (by decide)
      have begins : beginOperations (.print glyph :: rest) s = handOver glyph back printing := rfl
      rw [begins, kept]
      rfl
    | space | backspace | tab | carriageReturn | feed => rfl

/-- R121: what the beginning of an operation other than a cell leaves, from the state `s` in which the entry has left. -/
def operationBegun (state : CarriageState) (later : List Operation) (s u : State) : Prop :=
  (u.carriage.state = state ∧ u.carriage.pending = later ∧ u.carriage.consumedSinceIdle = true ∧
    u.attention = s.attention) ∧
  u.dot = s.dot ∧ u.arbiter = s.arbiter

theorem operationBegun_onCarriage {c : Carriage} (mark : c.consumedSinceIdle = true) :
    operationBegun c.state c.pending s (s.onCarriage fun _ => c) := ⟨⟨rfl, rfl, mark, rfl⟩, rfl, rfl⟩

/-! ### The first operation from a position (R121 to R124) -/

variable {s} {p : Nat} (at_p : s.carriage.position.getD 0 = p) (mark : s.carriage.consumedSinceIdle = true)
include at_p mark

/-- R123: a motion to `cell`. -/
theorem beginOperations_motion {op : Operation} {cell : Nat}
    (aims : op = .space ∧ cell = p + 1 ∨ op = .backspace ∧ cell = p - 1 ∨
      op = .tab ∧ tabTarget p s.carriage.tabStops = some cell) :
    operationBegun .moving [] s (beginOperations [op] s) ∧ (beginOperations [op] s).carriage.target = cell ∧
      (beginOperations [op] s).carriage.motionTimer = some (30 * (max p cell - min p cell)) := by
  have begins : beginOperations [op] s = s.onCarriage fun c =>
      { c with
        pending := [], state := .moving, target := cell, motionTimer := some (30 * (max p cell - min p cell)) } := by
    rcases aims with ⟨rfl, rfl⟩ | ⟨rfl, rfl⟩ | ⟨rfl, target⟩
    · rw [← at_p]; rfl
    · rw [← at_p]; rfl
    · have found : (tabTarget p s.carriage.tabStops).getD p = cell := by rw [target]; rfl
      rw [← found, ← at_p]; rfl
  rw [begins]
  exact ⟨operationBegun_onCarriage s mark, rfl, rfl⟩

/-- R124: a return, with what the entry leaves pending. -/
theorem beginOperations_return (later : List Operation) :
    operationBegun .returning later s (beginOperations (.carriageReturn :: later) s) ∧
      (beginOperations (.carriageReturn :: later) s).carriage.motionTimer = some (40 + 2 * p) := by
  have begins : beginOperations (.carriageReturn :: later) s = s.onCarriage fun c =>
      { c with pending := later, state := .returning, motionTimer := some (40 + 2 * p) } := by rw [← at_p]; rfl
  rw [begins]
  exact ⟨operationBegun_onCarriage s mark, rfl⟩

omit at_p in
/-- R124: a feed. -/
theorem beginOperations_feed :
    operationBegun .feeding [] s (beginOperations [.feed] s) ∧
      (beginOperations [.feed] s).carriage.motionTimer = some 24 :=
  ⟨operationBegun_onCarriage s mark, rfl⟩

/-- R122, R136: a cell, with its back-step order at the margin. -/
theorem beginOperations_print (glyph : BitVec 7) :
    (let u := beginOperations [.print glyph] s
     (u.carriage.state = .printing ∧ u.carriage.pending = [] ∧ u.carriage.consumedSinceIdle = true ∧
      u.attention = s.attention) ∧
     u.dot = handedDot glyph (p = 80) s.dot s.sensor ∧ u.arbiter.font ≠ .absent ∧
     u.arbiter = { s.arbiter with font := u.arbiter.font }) := by
  let printing := (s.onCarriage fun c => { c with pending := [] }).onCarriage fun c => { c with state := .printing }
  have begins : beginOperations [.print glyph] s = handOver glyph (p = 80) printing := by rw [← at_p]; rfl
  obtain ⟨handed, asked, kept⟩ := handOver_blocks printing glyph (p = 80)
  have frame := handOver_frame glyph (p = 80) printing
  have carriage : (handOver glyph (p = 80) printing).carriage = printing.carriage := frame .carriage (by decide)
  rw [begins]
  exact ⟨⟨congrArg Carriage.state carriage, congrArg Carriage.pending carriage,
    (congrArg Carriage.consumedSinceIdle carriage).trans mark, frame .attention (by decide)⟩, handed, asked, kept⟩

end

/-- R122 to R124: what the handling of a character comes to, by its code, from what each operation and none come to. -/
theorem code_handled {code : BitVec 7} {p target : Nat} {wrap crImpliesLf : Bool} {stops : List Nat} {ops : List Operation}
    (ops_eq : ops = operationsOf (.character code) p wrap crImpliesLf stops) {prints feeds consumed : Prop}
    {moves : Nat → Prop} {returns : List Operation → Prop} (printing : ops = printOperations code p wrap → prints)
    (moving : ∀ op cell, ops = [op] → (op = .space ∧ cell = p + 1 ∨ op = .backspace ∧ cell = p - 1 ∨
      op = .tab ∧ tabTarget p stops = some cell) → moves cell ∧ target = cell)
    (returning : ∀ later, ops = .carriageReturn :: later → returns later) (feeding : ops = [.feed] → feeds)
    (finished : ops = [] → consumed) :
    if 0x21 ≤ code.toNat ∧ code.toNat ≤ 0x7E then prints
    else if code = 0x20#7 then (if p < 80 then moves (p + 1) else consumed)
    else if code = 0x08#7 then (if 0 < p then moves (p - 1) else consumed)
    else if code = 0x09#7 then
      (if ∃ cell ∈ stops, p < cell then
        moves target ∧ target ∈ stops ∧ p < target ∧ ∀ cell ∈ stops, p < cell → target ≤ cell
       else if p < 79 then moves 79 else consumed)
    else if code = 0x0D#7 then returns (if crImpliesLf then [.feed] else [])
    else if code = 0x0A#7 then feeds
    else consumed := by
  have acts : ops = ite _ _ _ := ops_eq
  by_cases glyph : 0x21 ≤ code.toNat ∧ code.toNat ≤ 0x7E
  · rw [if_pos glyph]
    exact printing (acts.trans (if_pos glyph))
  rw [if_neg glyph] at acts ⊢
  by_cases space : code = 0x20#7
  · rw [if_pos space] at acts ⊢
    split
    · rename_i room
      exact (moving .space (p + 1) (acts.trans (if_pos room)) (.inl ⟨rfl, rfl⟩)).1
    · rename_i full
      exact finished (acts.trans (if_neg full))
  rw [if_neg space] at acts ⊢
  by_cases backspace : code = 0x08#7
  · rw [if_pos backspace] at acts ⊢
    split
    · rename_i room
      exact (moving .backspace (p - 1) (acts.trans (if_pos room)) (.inr (.inl ⟨rfl, rfl⟩))).1
    · rename_i home
      exact finished (acts.trans (if_neg home))
  rw [if_neg backspace] at acts ⊢
  by_cases tab : code = 0x09#7
  · rw [if_pos tab] at acts ⊢
    rcases tabTarget_cases p stops with ⟨stop, found, held, ahead, least⟩ | ⟨none_ahead, found⟩
    · rw [found] at acts
      obtain ⟨moved, reached⟩ := moving .tab stop acts (.inr (.inr ⟨rfl, found⟩))
      rw [if_pos ⟨stop, held, ahead⟩, reached]
      exact ⟨moved, held, ahead, least⟩
    · rw [if_neg none_ahead]
      split
      · rename_i room
        rw [if_pos room] at found
        rw [found] at acts
        exact (moving .tab 79 acts (.inr (.inr ⟨rfl, found⟩))).1
      · rename_i edge
        rw [if_neg edge] at found
        rw [found] at acts
        exact finished acts
  rw [if_neg tab] at acts ⊢
  by_cases carriageReturn : code = 0x0D#7
  · rw [if_pos carriageReturn] at acts ⊢
    refine returning _ (acts.trans ?_)
    cases crImpliesLf <;> rfl
  rw [if_neg carriageReturn] at acts ⊢
  by_cases lineFeed : code = 0x0A#7
  · rw [if_pos lineFeed] at acts ⊢
    exact feeding acts
  rw [if_neg lineFeed] at acts ⊢
  exact finished acts

/-- Settles O40: the entry leaves the queue, and its operations, by kind and code, begin with the first. -/
theorem entryHandling : Obligations.EntryHandling := by
  intro s e rest p holds ready position _
  let v := ringBell e (consumeEntry rest s)
  let ops := operationsOf e p s.carriage.wrap s.receiver.options.crImpliesLf s.carriage.tabStops
  let u := beginOperations ops v
  have taken : exec .entryHandling s = .next (settle u) := by
    have at_p : (consumeEntry rest s).carriage.position.getD 0 = p := congrArg (·.getD 0) position
    simp only [exec, execEntryHandling, holds, ready, if_true, handleEntry, at_p]
    rfl
  obtain ⟨consumedCarriage, consumedSwitch, leaves⟩ := consumeEntry_blocks s rest
  have bell : changesOnly [.tones] (consumeEntry rest s) v := ringBell_frame e _
  have toV : changesOnly [.carriage, .switch, .tones] s v := bell.after (by decide) (leaves.mono (by decide))
  have carriage : v.carriage = { s.carriage with queue := rest, consumedSinceIdle := true } :=
    (bell .carriage (by decide)).trans consumedCarriage
  have switch : v.switch = _ := (bell .switch (by decide)).trans consumedSwitch
  have dot : v.dot = s.dot := toV .dot (by decide)
  have arbiter : v.arbiter = s.arbiter := toV .arbiter (by decide)
  have attention : v.attention = s.attention := toV .attention (by decide)
  have sensor : v.sensor = s.sensor := toV .sensor (by decide)
  have at_p : v.carriage.position.getD 0 = p := by
    rw [carriage]
    exact congrArg (·.getD 0) position
  have mark : v.carriage.consumedSinceIdle = true := by rw [carriage]
  have stops : v.carriage.tabStops = s.carriage.tabStops := by rw [carriage]
  have toU : changesOnly [.carriage, .dot, .arbiter, .attention] v u := beginOperations_frame v ops
  refine ⟨settle u, taken, ?_, ?_, ?_⟩
  · rw [settle_carriage, settle_dot, settle_arbiter, settle_attention, settle_tones, ← dot, ← arbiter, ← attention,
      ← sensor]
    intro begun still moves consumed prints
    have moving : ∀ op cell, ops = [op] → (op = .space ∧ cell = p + 1 ∨ op = .backspace ∧ cell = p - 1 ∨
        op = .tab ∧ tabTarget p v.carriage.tabStops = some cell) → moves cell := by
      intro op cell h aims
      obtain ⟨⟨start, kept⟩, target, timer⟩ := beginOperations_motion at_p mark aims
      rw [← h] at start kept target timer
      exact ⟨start, kept, target, timer⟩
    have returning : ∀ later, ops = .carriageReturn :: later →
        begun .returning later ∧ still ∧ u.carriage.motionTimer = some (40 + 2 * p) := by
      intro later h
      obtain ⟨⟨start, kept⟩, timer⟩ := beginOperations_return at_p mark later
      rw [← h] at start kept timer
      exact ⟨start, kept, timer⟩
    have feeding : ops = [.feed] → begun .feeding [] ∧ still ∧ u.carriage.motionTimer = some 24 := by
      intro h
      obtain ⟨⟨start, kept⟩, timer⟩ := beginOperations_feed (s := v) mark
      rw [← h] at start kept timer
      exact ⟨start, kept, timer⟩
    have finished : ops = [] → consumed := by
      intro h
      have ends : u = judgePrintIdle v := congrArg (beginOperations · v) h
      have stays := judgePrintIdle_frame v
      obtain ⟨idle, requests⟩ := judgePrintIdle_blocks v (by rw [carriage]; exact ready) mark
      rw [carriage] at idle requests
      rw [← ends] at stays idle requests
      exact ⟨idle, ⟨stays .dot (by decide), stays .arbiter (by decide)⟩, requests⟩
    have printing : ∀ glyph, ops = printOperations glyph p s.carriage.wrap → prints glyph := by
      intro glyph h
      by_cases margin : p = 80 ∧ s.carriage.wrap = true
      · simp only [prints, if_pos margin]
        rw [printOperations, if_pos margin] at h
        obtain ⟨start, kept, timer⟩ := returning _ h
        exact ⟨start, kept, timer.trans (by rw [margin.1])⟩
      · simp only [prints, if_neg margin]
        rw [printOperations, if_neg margin] at h
        obtain ⟨start, handed, asked, kept⟩ := beginOperations_print at_p mark glyph
        rw [← h] at start handed asked kept
        exact ⟨start, handed, asked, kept⟩
    refine ⟨?_, ?_, ?_⟩
    · cases e with
      | errorGlyph => exact printing _ rfl
      | feed => exact feeding rfl
      | character code =>
        have aimed : ∀ op cell, ops = [op] → (op = .space ∧ cell = p + 1 ∨ op = .backspace ∧ cell = p - 1 ∨
            op = .tab ∧ tabTarget p s.carriage.tabStops = some cell) → moves cell ∧ u.carriage.target = cell := by
          intro op cell h aims
          have moved := moving op cell h (by rw [stops]; exact aims)
          exact ⟨moved, moved.2.2.1⟩
        exact code_handled rfl (printing code) aimed returning feeding finished
    · rw [show u.carriage = _ from beginOperations_carriage v ops, carriage]
    · rw [show u.tones = v.tones from toU .tones (by decide), ringBell_tones]
      rfl
  · exact (settle_changesOnly u).after (by decide) (toU.after (by decide) (toV.mono (by decide)))
  · exact onlySettles_of_settle ((toU .switch (by decide)).trans switch)
      ((toU .flow (by decide)).trans (toV .flow (by decide)))
      ((toU .transmitter (by decide)).trans (toV .transmitter (by decide)))

end Sys2Proof.Machine

namespace Sys2Proof.Machine

/-! ## The keyboard and the sounder

`desk` names the part of the state that the invariants of the keyboard and the sounder speak of. Most operations leave
it as it is, by their frames; the few that move it keep both invariants, and `KeepsDesk` is closed under composition. -/

/-- The part of the state that `keyboardSound` and `sounderSound` speak of. -/
structure Desk where
  translator : Translator
  queue : List KeyEvent
  repeatKey : Option Position
  repeatTimer : Timer
  repeatEnable : Bool
  eligibility : List EligibilityPass
  request : Option Sound
  sounderTimer : Timer
  sounding : Bool

def desk (s : State) : Desk where
  translator := s.translator
  queue := s.keyboard.queue
  repeatKey := s.keyboard.repeatKey
  repeatTimer := s.keyboard.repeatTimer
  repeatEnable := s.keyboard.repeatEnable
  eligibility := s.keyboard.eligibility
  request := s.tones.request
  sounderTimer := s.tones.sounderTimer
  sounding := s.tones.sounder.sounding

/-- R37: the pass has found no position that may become the repeat key, and will find none. -/
def EligibilityPass.barren (e : EligibilityPass) : Prop := e.eligible = [] ∧ ∀ r ∈ e.outstanding, r.discarded = true

/-- `keyboardSound` as a property of the desk. -/
def Desk.keysAgree (d : Desk) : Prop :=
  (d.translator = .idle ↔ d.queue = []) ∧ (d.repeatTimer = none ↔ d.repeatKey = none) ∧
  (d.repeatEnable = false → d.repeatKey = none ∧ ∀ e ∈ d.eligibility, e.barren)

/-- `sounderSound` as a property of the desk. -/
def Desk.soundAgrees (d : Desk) : Prop :=
  (d.request ≠ none ↔ d.sounderTimer ≠ none) ∧ (d.request ≠ none ↔ d.sounding = true)

theorem keyboardSound_iff (s : State) : keyboardSound s ↔ (desk s).keysAgree := Iff.rfl
theorem sounderSound_iff (s : State) : sounderSound s ↔ (desk s).soundAgrees := Iff.rfl

/-- What leads from `s` to `t` keeps the invariant of the keyboard and that of the sounder. -/
def KeepsDesk (s t : State) : Prop :=
  ((desk s).keysAgree → (desk t).keysAgree) ∧ ((desk s).soundAgrees → (desk t).soundAgrees)

theorem KeepsDesk.of_eq {s t : State} (h : desk t = desk s) : KeepsDesk s t := by rw [KeepsDesk, h]; exact ⟨id, id⟩

theorem KeepsDesk.refl (s : State) : KeepsDesk s s := .of_eq rfl

theorem KeepsDesk.trans {s t u : State} (h : KeepsDesk s t) (h' : KeepsDesk t u) : KeepsDesk s u :=
  ⟨h'.1 ∘ h.1, h'.2 ∘ h.2⟩

theorem KeepsDesk.then_eq {s t u : State} (h : KeepsDesk s t) (hu : desk u = desk t) : KeepsDesk s u := h.trans (.of_eq hu)

theorem KeepsDesk.from_eq {s t u : State} (h : KeepsDesk t u) (ht : desk t = desk s) : KeepsDesk s u :=
  (KeepsDesk.of_eq ht).trans h

theorem KeepsDesk.ite {s a b : State} {c : Prop} [Decidable c] (ha : c → KeepsDesk s a) (hb : ¬ c → KeepsDesk s b) :
    KeepsDesk s (if c then a else b) := by
  split
  · next h => exact ha h
  · next h => exact hb h

/-- A change of the keyboard and the translator alone keeps the sounder's invariant. -/
theorem KeepsDesk.of_keys {s t : State} (tones : t.tones = s.tones)
    (h : (desk s).keysAgree → (desk t).keysAgree) : KeepsDesk s t := by
  refine ⟨h, fun sound => ?_⟩
  rw [← sounderSound_iff] at sound ⊢
  unfold sounderSound
  rwa [tones]

/-- A change of the Tone Synthesizer alone keeps the keyboard's invariant. -/
theorem KeepsDesk.of_tones {s t : State} (keyboard : t.keyboard = s.keyboard) (translator : t.translator = s.translator)
    (h : (desk s).soundAgrees → (desk t).soundAgrees) : KeepsDesk s t := by
  refine ⟨fun sound => ?_, h⟩
  rw [← keyboardSound_iff] at sound ⊢
  unfold keyboardSound
  rwa [keyboard, translator]

/-! ### Operations that leave the desk as it is -/

/-- An operation that touches none of the three blocks that the desk is part of. -/
theorem desk_of_frame {blocks : List Block} {s t : State} (h : changesOnly blocks s t)
    (hb : ∀ b ∈ [Block.keyboard, .translator, .tones], b ∉ blocks) : desk t = desk s := by
  have keyboard : t.keyboard = s.keyboard := h .keyboard (hb _ (by decide))
  have translator : t.translator = s.translator := h .translator (hb _ (by decide))
  have tones : t.tones = s.tones := h .tones (hb _ (by decide))
  simp only [desk, keyboard, translator, tones]

theorem KeepsDesk.of_frame {blocks : List Block} {s t : State} (h : changesOnly blocks s t)
    (hb : ∀ b ∈ [Block.keyboard, .translator, .tones], b ∉ blocks) : KeepsDesk s t := .of_eq (desk_of_frame h hb)

section
variable (s : State)

@[simp] theorem desk_settle : desk (settle s) = desk s := desk_of_frame (settle_changesOnly s) (by decide)
@[simp] theorem desk_onTransmitter (f) : desk (s.onTransmitter f) = desk s := rfl
@[simp] theorem desk_onReceiver (f) : desk (s.onReceiver f) = desk s := rfl
@[simp] theorem desk_onCarriage (f) : desk (s.onCarriage f) = desk s := rfl
@[simp] theorem desk_setResult (r : CommandResult) : desk (setResult r s) = desk s := rfl
@[simp] theorem desk_raiseLine (c : LineCause) : desk (raiseLine c s) = desk s := rfl

@[simp] theorem desk_applyPreset (p : Preset) : desk (applyPreset p s) = desk s :=
  desk_of_frame (applyPreset_frame p s) (by decide)
@[simp] theorem desk_endCommand (c : RunningCommand) (r : CommandResult) : desk (endCommand c r s) = desk s :=
  desk_of_frame (endCommand_frame c r s) (by decide)
@[simp] theorem desk_abortAnswerback : desk (abortAnswerback s) = desk s :=
  desk_of_frame (abortAnswerback_frame s) (by decide)
@[simp] theorem desk_triggerAnswerback : desk (triggerAnswerback s) = desk s :=
  desk_of_frame (triggerAnswerback_frame s) (by decide)
@[simp] theorem desk_appendPrint (e : PrintEntry) : desk (appendPrint e s) = desk s :=
  desk_of_frame (appendPrint_frame e s) (by decide)
@[simp] theorem desk_recordFunction (code : Byte) : desk (recordFunction code s) = desk s :=
  desk_of_frame (recordFunction_frame code s) (by decide)
@[simp] theorem desk_setKeyLost : desk (setKeyLost s) = desk s := desk_of_frame (setKeyLost_frame s) (by decide)

@[simp] theorem desk_loadHeader (b0 b1 b2 b3 : Byte) : desk (loadHeader b0 b1 b2 b3 s) = desk s := rfl

/-! #### The line: of the tones only the line voice moves (R79) -/


@[simp] theorem desk_enterListen : desk (enterListen s) = desk s := by
  unfold enterListen; dsimp only; split <;> rfl

@[simp] theorem desk_enterData : desk (enterData s) = desk s := by
  unfold enterData; dsimp only; split <;> rfl

@[simp] theorem desk_transmitterToOff : desk (transmitterToOff s) = desk s :=
  Eq.trans rfl ((desk_of_frame (discardSlot_frame (cutBreak s)) (by decide)).trans
    (desk_of_frame (cutBreak_frame s) (by decide)))

@[simp] theorem desk_enterIdle : desk (enterIdle s) = desk s :=
  (desk_of_frame (answerbackAtIdle_frame _) (by decide)).trans (desk_transmitterToOff (receiverToIdle s))

@[simp] theorem desk_startFrame : desk (startFrame s) = desk s := by
  unfold startFrame
  split
  · rfl
  · rfl
  · exact (desk_of_frame (reportFlowStarted_frame _ _) (by decide)).trans rfl

@[simp] theorem desk_startBreak : desk (startBreak s) = desk s := rfl
@[simp] theorem desk_enterMarkIdle : desk (enterMarkIdle s) = desk s := rfl
@[simp] theorem desk_nextBit (f : Shifting) : desk (nextBit f s) = desk s := rfl

@[simp] theorem desk_frameOrIdle : desk (frameOrIdle s) = desk s := by
  unfold frameOrIdle; split <;> simp

@[simp] theorem desk_afterFrame : desk (afterFrame s) = desk s := by
  unfold afterFrame; split <;> simp

@[simp] theorem desk_endPostBreak : desk (endPostBreak s) = desk s := by
  unfold endPostBreak; dsimp only; split <;> simp

@[simp] theorem desk_boundaryEffect : desk (boundaryEffect s) = desk s := by
  unfold boundaryEffect
  split
  · rfl
  · split
    · rfl
    · split <;> simp
  · split
    · split <;> simp
    · rfl
  · rfl
  · split <;> simp

@[simp] theorem desk_bitBoundary : desk (bitBoundary s) = desk s := by
  unfold bitBoundary; split <;> simp

theorem desk_sampleLine (line : LineInput) : desk (sampleLine line s) = desk s := by
  have recorded : ∀ energy, desk (recordSample energy s) = desk s := fun _ => rfl
  have framed : ∀ tone t, desk (advanceFramer tone t) = desk t := fun tone t =>
    desk_of_frame (advanceFramer_frame tone t) (by decide)
  unfold sampleLine lineSample
  split
  · rfl
  · dsimp only
    rw [desk_settle]
    split
    · unfold carrierArrives
      dsimp only
      split <;> simp [recorded, framed]
    · split
      · unfold carrierLeaves
        dsimp only
        split <;> simp [recorded]
      · split <;> simp [recorded, framed]

@[simp] theorem desk_lineLocalFunction : desk (lineLocalFunction s) = desk s := by
  unfold lineLocalFunction; split <;> simp

@[simp] theorem desk_duplexFunction : desk (duplexFunction s) = desk s := by
  unfold duplexFunction
  dsimp only
  split
  · rw [desk_applyPreset]; rfl
  · rfl

end

/-! ### The parts of a scan pass (R26 to R37)

Each is stated for any debounce states `after` that the pass may leave, so that no proof runs the 64 decisions. -/

/-- R26 to R30: the keyboard once every position is decided: the lock, the modifier values and the reads still to complete. -/
def scanDecided (after : Vector KeyState 64) (s : State) : State :=
  let before := s.keyboard.positions
  let header := s.keyboard.header
  s.onKeyboard fun k =>
    { k with
      positions := after
      lock := k.lock != (header.lock.map (becomesDown before after)).getD false
      passShift := roleDown after header.shiftA || roleDown after header.shiftB
      passControl := roleDown after header.control
      scanTimer := some Config.scanPeriod
      eligibility := k.eligibility.map fun e =>
        (e.discardPosition (reachesUp before after)).dropModifiers header.isModifier }

/-- R33: the positions that offer a PRESS in the pass, ascending. -/
def scanPressed (after : Vector KeyState 64) (s : State) : List Position :=
  allPositions.filter fun p => becomesDown s.keyboard.positions after p && !s.keyboard.header.isModifier p

/-- R33, R34: the presses of the pass have been offered to the key queue. -/
def scanOffered (after : Vector KeyState 64) (s : State) : State :=
  (scanPressed after s).foldl (fun acc p => offerPress (eventOf p (scanDecided after s).keyboard) acc)
    (scanDecided after s)

/-- R35, R37: the pass once repeat is judged and the eligibility reads are asked for. -/
def scanEnded (after : Vector KeyState 64) (s : State) : State :=
  let judged := judgeRepeatKey (scanOffered after s)
  if s.keyboard.repeatEnable then requestEligibility (scanPressed after s) judged else judged

theorem scanPass_eq (readings : BitVec 64) (s : State) :
    scanPass readings s = scanEnded (decidePositions readings s.keyboard.positions) s := rfl

section
variable (s : State)

/-! ### The printer -/

@[simp] theorem desk_onDot (f) : desk (s.onDot f) = desk s := rfl
@[simp] theorem desk_onPins (f) : desk (s.onPins f) = desk s := rfl
@[simp] theorem desk_endOperation : desk (endOperation s) = desk s := desk_of_frame (endOperation_frame s) (by decide)
@[simp] theorem desk_judgeHalt : desk (judgeHalt s) = desk s := desk_of_frame (judgeHalt_frame s) (by decide)
@[simp] theorem desk_setCauses (paper hot battery jam : Bool) : desk (setCauses paper hot battery jam s) = desk s :=
  desk_of_frame (setCauses_frame paper hot battery jam s) (by decide)
@[simp] theorem desk_takeReadings (millivolts : Nat) (millidegrees : Int) :
    desk (takeReadings millivolts millidegrees s) = desk s :=
  desk_of_frame (takeReadings_frame millivolts millidegrees s) (by decide)
@[simp] theorem desk_beginFiring : desk (beginFiring s) = desk s := desk_of_frame (beginFiring_frame s) (by decide)
@[simp] theorem desk_endDwell : desk (endDwell s) = desk s := desk_of_frame (endDwell_frame s) (by decide)
@[simp] theorem desk_startGroup : desk (startGroup s) = desk s := desk_of_frame (startGroup_frame s) (by decide)
@[simp] theorem desk_releaseStrobe (row : Nat) : desk (releaseStrobe row s) = desk s :=
  desk_of_frame (releaseStrobe_frame row s) (by decide)
@[simp] theorem desk_seekFinds : desk (seekFinds s) = desk s := desk_of_frame (seekFinds_frame s) (by decide)
@[simp] theorem desk_seekFails : desk (seekFails s) = desk s := desk_of_frame (seekFails_frame s) (by decide)
@[simp] theorem desk_beginSeek : desk (beginSeek s) = desk s := rfl

@[simp] theorem desk_endReturn (home : Bool) : desk (endReturn home s) = desk s := by
  cases home <;> simp [endReturn]

@[simp] theorem desk_losePaper : desk (losePaper s) = desk s := by simp [losePaper]
@[simp] theorem desk_findPaper : desk (findPaper s) = desk s := by simp [findPaper]

@[simp] theorem desk_holdGlyph (c1 c2 c3 c4 c5 : Byte) : desk (holdGlyph c1 c2 c3 c4 c5 s) = desk s := by
  unfold holdGlyph; dsimp only; split <;> simp

@[simp] theorem desk_endSettle : desk (endSettle s) = desk s := by
  unfold endSettle; dsimp only; split <;> simp

@[simp] theorem desk_expireColumn : desk (expireColumn s) = desk s := by
  unfold expireColumn; dsimp only; split <;> simp

@[simp] theorem desk_completeBackStep (made : Nat) : desk (completeBackStep made s) = desk s := by
  unfold completeBackStep
  split
  · rfl
  · split <;> rfl

/-- R164: the release of the host reset begins the scan, a header load, the readings and the seek. -/
@[simp] theorem desk_beginBlocks (millivolts : Nat) (millidegrees : Int) :
    desk (beginBlocks millivolts millidegrees s) = desk s := by
  have loads : ∀ t, desk (requestHeaderLoad t) = desk t := fun t => desk_of_frame (requestHeaderLoad_frame t) (by decide)
  simp only [beginBlocks, desk_beginSeek, desk_setCauses, desk_takeReadings, loads]
  rfl

/-! ### The sounder (R77, R80 to R82) -/

/-- R80: a request that is taken starts the timer and finds or makes the sounder sounding. -/
theorem requestSound_keepsDesk (r : Sound) : KeepsDesk s (requestSound r s) := by
  have frame := requestSound_frame r s
  refine .of_tones (frame .keyboard (by decide)) (frame .translator (by decide)) fun sound => ?_
  rcases requestSound_cases r s with ⟨_, h⟩ | ⟨current, _, _, h⟩ | ⟨current, busy, _, h⟩ <;> rw [h]
  · exact ⟨by simp [desk], by simp [desk, Voice.start]⟩
  · exact sound
  · have sounds : s.tones.sounder.sounding = true := sound.2.1 (by simp [desk, busy])
    exact ⟨by simp [desk], by simp [desk, Voice.retune, sounds]⟩

theorem requestClick_keepsDesk : KeepsDesk s (requestClick s) :=
  .ite (fun _ => requestSound_keepsDesk s _) fun _ => .refl s

theorem ringBell_keepsDesk (e : PrintEntry) : KeepsDesk s (ringBell e s) :=
  .ite (fun _ => requestSound_keepsDesk s _) fun _ => .refl s

theorem handleEntry_keepsDesk (e : PrintEntry) : KeepsDesk s (handleEntry e s) :=
  (ringBell_keepsDesk s e).then_eq (desk_of_frame (beginOperations_frame _ _) (by decide))

/-- R82, R83: the request in progress is gone, its timer stopped and the sounder SILENT. -/
theorem endSound_keepsDesk : KeepsDesk s (endSound s) :=
  .of_tones rfl rfl fun _ => ⟨by simp [desk, endSound], by simp [desk, endSound, Voice.silence]⟩

theorem Voice.sample_sounding (v : Voice) (level : BitVec 4) : (v.sample level).sounding = v.sounding := by
  unfold Voice.sample; split <;> rfl

/-! ### The key queue and the translator (R34, R38, R48) -/

/-- R38: a translator that is IDLE with a queue that is not empty fetches; any other is left as it is. -/
theorem wakeTranslator_keys :
    desk (wakeTranslator s) = { desk s with
      translator := if s.translator = .idle ∧ s.keyboard.queue ≠ [] then .fetching else s.translator } := by
  unfold wakeTranslator; split <;> rfl

theorem joinQueue_keepsDesk (e : KeyEvent) : KeepsDesk s (joinQueue e s) := by
  refine .of_keys (joinQueue_frame e s .tones (by decide)) fun keys => ?_
  rw [joinQueue, wakeTranslator_keys]
  refine ⟨?_, keys.2⟩
  by_cases idle : s.translator = .idle <;> simp [desk, idle]

theorem offerPress_keepsDesk (e : KeyEvent) : KeepsDesk s (offerPress e s) :=
  .ite (fun _ => joinQueue_keepsDesk s e) fun _ => (requestSound_keepsDesk _ _).from_eq (desk_setKeyLost s)

theorem offerRepeat_keepsDesk (e : KeyEvent) : KeepsDesk s (offerRepeat e s) :=
  .ite (fun _ => joinQueue_keepsDesk s e) fun _ => .refl s

theorem finishEvent_keepsDesk : KeepsDesk s (finishEvent s) := by
  refine .of_keys (finishEvent_frame s .tones (by decide)) fun keys => ?_
  rw [finishEvent, wakeTranslator_keys]
  refine ⟨?_, keys.2⟩
  by_cases last : s.keyboard.queue.tail = [] <;> simp [desk, last]

/-- R38: the translator works on the event at the head of the queue, so it is not IDLE. -/
theorem onTranslator_keepsDesk {next : Translator} (busy : next ≠ .idle) (event : s.keyboard.queue ≠ []) :
    KeepsDesk s (s.onTranslator fun _ => next) :=
  .of_keys rfl fun keys => ⟨by simp [desk, busy, event], keys.2⟩

theorem restartKeyboard_keepsDesk : KeepsDesk s (restartKeyboard s) := by
  let emptied := (s.onKeyboard fun k => { k with queue := [] }).onTranslator fun _ => .idle
  have discards : desk (restartKeyboard s) = desk emptied := by
    unfold restartKeyboard discardTranslation
    split <;> rfl
  have empties : KeepsDesk s emptied := .of_keys rfl fun keys => ⟨iff_of_true rfl rfl, keys.2⟩
  exact empties.then_eq discards

/-! ### Repeat (R35 to R37) -/

theorem endRepeat_keepsDesk : KeepsDesk s (endRepeat s) :=
  .of_keys rfl fun keys => ⟨keys.1, iff_of_true rfl rfl, fun off => ⟨rfl, (keys.2.2 off).2⟩⟩

theorem judgeRepeatKey_keepsDesk : KeepsDesk s (judgeRepeatKey s) := by
  unfold judgeRepeatKey
  split
  · exact .refl s
  · exact .ite (fun _ => endRepeat_keepsDesk s) fun _ => .refl s

/-- R37: discarding more reads and dropping eligible positions leaves a barren pass barren. -/
theorem EligibilityPass.barren_dropModifiers {e : EligibilityPass} (h : e.barren) (up modifier : Position → Bool) :
    ((e.discardPosition up).dropModifiers modifier).barren := by
  obtain ⟨none_eligible, discarded⟩ := h
  refine ⟨by simp [dropModifiers, discardPosition, none_eligible], fun r hr => ?_⟩
  simp only [dropModifiers, discardPosition, List.map_map, List.mem_map, Function.comp] at hr
  obtain ⟨read, mem, rfl⟩ := hr
  simp [discarded read mem]

theorem EligibilityPass.barren_discardAll (e : EligibilityPass) : e.discardAll.barren := by
  simp [EligibilityPass.barren, EligibilityPass.discardAll]

/-- R35, R37: a read that completes in a barren pass leaves it barren. -/
theorem completeEligibility_barren (p : Position) (code : Byte) (passes : List EligibilityPass)
    (h : ∀ e ∈ passes, e.barren) : ∀ e ∈ completeEligibility p code passes, e.barren := by
  induction passes with
  | nil => exact h
  | cons pass rest ih =>
    obtain ⟨barren, others⟩ := List.forall_mem_cons.1 h
    unfold completeEligibility
    split
    · exact List.forall_mem_cons.2 ⟨barren, ih others⟩
    · next r found =>
      have discarded : r.discarded = true := barren.2 r (List.mem_of_find?_eq_some found)
      refine List.forall_mem_cons.2 ⟨⟨by simp [discarded, barren.1], fun r' hr' => ?_⟩, others⟩
      exact barren.2 r' (List.mem_of_mem_eraseP hr')

/-- R35, R36: of a barren pass no repeat key is chosen. -/
theorem chooseRepeat_keepsDesk : KeepsDesk s (chooseRepeat s) := by
  refine .of_keys (chooseRepeat_frame s .tones (by decide)) fun keys => ?_
  obtain ⟨serves, runs, off⟩ := keys
  unfold chooseRepeat
  split
  · exact ⟨serves, runs, off⟩
  · next e rest passes =>
    have barren : s.keyboard.repeatEnable = false → e.barren ∧ ∀ e' ∈ rest, e'.barren := fun disabled => by
      have := (off disabled).2
      rwa [show (desk s).eligibility = e :: rest from passes, List.forall_mem_cons] at this
    split
    · split
      · exact ⟨serves, runs, fun disabled => ⟨(off disabled).1, (barren disabled).2⟩⟩
      · next p chosen =>
        refine ⟨serves, iff_of_false nofun nofun, fun disabled => ?_⟩
        rw [(barren disabled).1.1] at chosen
        cases chosen
    · exact ⟨serves, runs, off⟩

/-- R35: the completed read enters the count of its pass. -/
theorem completeRead_keepsDesk (p : Position) (code : Byte) :
    KeepsDesk s (s.onKeyboard fun k => { k with eligibility := completeEligibility p code k.eligibility }) :=
  .of_keys rfl fun keys => ⟨keys.1, keys.2.1, fun off =>
    ⟨(keys.2.2 off).1, completeEligibility_barren p code _ (keys.2.2 off).2⟩⟩

/-- R36: the timer runs, so that there is a repeat key, and it restarts. -/
theorem repeatExpiry_keepsDesk (running : s.keyboard.repeatTimer.isSome = true) : KeepsDesk s (repeatExpiry s) := by
  let offered := match s.keyboard.repeatKey with
    | some p => if s.keyboard.positions[p] = KeyState.down then offerRepeat (eventOf p s.keyboard) s else s
    | none => s
  have offers : KeepsDesk s offered ∧ offered.keyboard.repeatKey = s.keyboard.repeatKey := by
    have joins : ∀ e, (offerRepeat e s).keyboard.repeatKey = s.keyboard.repeatKey := fun e => by
      unfold offerRepeat
      split
      · exact congrArg Desk.repeatKey (wakeTranslator_keys _)
      · rfl
    unfold offered
    split
    · split
      · exact ⟨offerRepeat_keepsDesk s _, joins _⟩
      · exact ⟨.refl s, rfl⟩
    · exact ⟨.refl s, rfl⟩
  have restarts : repeatExpiry s =
      offered.onKeyboard fun k => { k with repeatTimer := some (repeatInterval k.rateCode) } := rfl
  rw [restarts]
  refine ⟨fun keys => ?_, offers.1.2⟩
  have key : s.keyboard.repeatKey ≠ none := fun absent => by
    have stopped : s.keyboard.repeatTimer = none := keys.2.1.2 absent
    simp [stopped] at running
  obtain ⟨serves, _, off⟩ := offers.1.1 keys
  exact ⟨serves, iff_of_false nofun (by rw [← offers.2] at key; exact key), off⟩

/-- R35: a read is asked for each press. -/
theorem desk_requestEligibility (positions : List Position) :
    desk (requestEligibility positions s) = { desk s with
      eligibility := s.keyboard.eligibility ++
        (if positions = [] then [] else [⟨positions.map fun p => ⟨p, false⟩, []⟩]) } := by
  have asked : ∀ (ps : List Position) (t : State),
      desk (ps.foldl (fun acc p => enqueueKeymap (.eligibility p) acc) t) = desk t := by
    intro ps
    induction ps with
    | nil => exact fun _ => rfl
    | cons p ps ih => exact fun t => ih (enqueueKeymap (.eligibility p) t)
  unfold requestEligibility
  split
  · simp [desk]
  · exact asked positions _

theorem offerPresses_keepsDesk (event : Position → KeyEvent) (pressed : List Position) :
    ∀ t : State, KeepsDesk t (pressed.foldl (fun acc p => offerPress (event p) acc) t) := by
  induction pressed with
  | nil => exact .refl
  | cons p ps ih => exact fun t => (offerPress_keepsDesk t _).trans (ih _)

/-- The offer of a press, and so of all of a pass, leaves repeat enable as it is. -/
theorem offerPresses_repeatEnable (event : Position → KeyEvent) (pressed : List Position) :
    ∀ t : State, (pressed.foldl (fun acc p => offerPress (event p) acc) t).keyboard.repeatEnable =
      t.keyboard.repeatEnable := by
  have one : ∀ (e : KeyEvent) (t : State), (offerPress e t).keyboard.repeatEnable = t.keyboard.repeatEnable := by
    intro e t
    unfold offerPress
    split
    · exact congrArg Desk.repeatEnable (wakeTranslator_keys _)
    · rw [requestSound_frame _ _ .keyboard (by decide), setKeyLost_frame t .keyboard (by decide)]
  induction pressed with
  | nil => exact fun _ => rfl
  | cons p ps ih => exact fun t => (ih _).trans (one _ t)

theorem judgeRepeatKey_repeatEnable : (judgeRepeatKey s).keyboard.repeatEnable = s.keyboard.repeatEnable := by
  unfold judgeRepeatKey
  split
  · rfl
  · split <;> rfl

/-- R37: reads are asked for only with repeat enabled, and then nothing is promised of them. -/
theorem requestEligibility_keepsDesk (positions : List Position) (enabled : s.keyboard.repeatEnable = true) :
    KeepsDesk s (requestEligibility positions s) := by
  rw [KeepsDesk, desk_requestEligibility]
  refine ⟨fun keys => ⟨keys.1, keys.2.1, fun off => ?_⟩, id⟩
  exact absurd (enabled.symm.trans off) Bool.noConfusion

theorem scanDecided_keepsDesk (after : Vector KeyState 64) : KeepsDesk s (scanDecided after s) := by
  refine .of_keys rfl fun keys => ⟨keys.1, keys.2.1, fun off => ⟨(keys.2.2 off).1, fun e mem => ?_⟩⟩
  obtain ⟨pass, was, rfl⟩ := List.mem_map.1 mem
  exact EligibilityPass.barren_dropModifiers ((keys.2.2 off).2 pass was) _ _

theorem scanEnded_keepsDesk (after : Vector KeyState 64) : KeepsDesk s (scanEnded after s) := by
  have offers : KeepsDesk s (scanOffered after s) :=
    (scanDecided_keepsDesk s after).trans (offerPresses_keepsDesk _ _ _)
  have judges := offers.trans (judgeRepeatKey_keepsDesk _)
  refine .ite (fun enabled => judges.trans (requestEligibility_keepsDesk _ _ ?_)) fun _ => judges
  rw [judgeRepeatKey_repeatEnable, scanOffered, offerPresses_repeatEnable]
  exact enabled

/-! ### Translation and the local functions (R39 to R46) -/

theorem breakFunction_keepsDesk : KeepsDesk s (breakFunction s) :=
  .ite (fun _ => .of_eq rfl) fun _ => requestSound_keepsDesk s _

theorem hereIsFunction_keepsDesk : KeepsDesk s (hereIsFunction s) :=
  .ite (fun _ => .of_eq (by simp)) fun _ => requestSound_keepsDesk s _

theorem tabSetFunction_keepsDesk : KeepsDesk s (tabSetFunction s) := by
  unfold tabSetFunction
  split
  · exact .ite (fun _ => .of_eq rfl) fun _ => requestSound_keepsDesk s _
  · exact requestSound_keepsDesk s _

theorem tabClearFunction_keepsDesk : KeepsDesk s (tabClearFunction s) :=
  .of_frame (tabClearFunction_frame s) (by decide)

theorem appendFeed_keepsDesk : KeepsDesk s (appendFeed s) :=
  ((requestClick_keepsDesk _).from_eq (by simp)).trans (finishEvent_keepsDesk _)

/-- A local function records itself, acts, and its event leaves the key queue. -/
theorem localFunction_keepsDesk (code : Byte) {act : State → State} (acts : ∀ t, KeepsDesk t (act t)) :
    KeepsDesk s (finishEvent (act (recordFunction code s))) :=
  ((acts _).from_eq (desk_recordFunction s code)).trans (finishEvent_keepsDesk _)

theorem actOnCode_keepsDesk (code : Byte) (event : s.keyboard.queue ≠ []) : KeepsDesk s (actOnCode code s) := by
  unfold actOnCode
  split
  · exact finishEvent_keepsDesk s
  · exact onTranslator_keepsDesk s nofun event
  · exact localFunction_keepsDesk s code breakFunction_keepsDesk
  · exact localFunction_keepsDesk s code fun t => .of_eq (desk_lineLocalFunction t)
  · exact localFunction_keepsDesk s code hereIsFunction_keepsDesk
  · exact localFunction_keepsDesk s code tabSetFunction_keepsDesk
  · exact localFunction_keepsDesk s code tabClearFunction_keepsDesk
  · exact localFunction_keepsDesk s code fun _ => .of_eq rfl
  · exact .ite (fun _ => appendFeed_keepsDesk s) fun _ => onTranslator_keepsDesk s nofun event
  · exact localFunction_keepsDesk s code fun t => .of_eq (desk_duplexFunction t)
  · exact localFunction_keepsDesk s code fun _ => .of_eq rfl

theorem translate_keepsDesk (data : Byte) : KeepsDesk s (translate data s) := by
  unfold translate
  split
  · exact .refl s
  · next queue => exact actOnCode_keepsDesk s _ (by rw [queue]; nofun)

/-! ### Setup and commands -/

theorem writeKeyboardOptions_keepsDesk (data : Byte) : KeepsDesk s (writeKeyboardOptions data s) := by
  refine .ite (fun enabled => .of_keys rfl fun keys => ⟨keys.1, keys.2.1, fun off => ?_⟩) fun _ =>
    .of_keys rfl fun keys => ⟨keys.1, iff_of_true rfl rfl, fun _ => ⟨rfl, fun e mem => ?_⟩⟩
  · exact absurd (enabled.symm.trans off) Bool.noConfusion
  · obtain ⟨pass, _, rfl⟩ := List.mem_map.1 mem
    exact EligibilityPass.barren_discardAll pass

theorem restartEffect_keepsDesk : KeepsDesk s (restartEffect s) := by
  have rings : ∀ t, desk (restartRings t) = desk t := fun t =>
    (desk_of_frame (dropRequest_frame _ _) (by decide)).trans
      ((desk_of_frame (dropRequest_frame _ _) (by decide)).trans rfl)
  have firing : ∀ t, desk (restartFiring t) = desk t := fun t =>
    (desk_of_frame (restartDot_frame _) (by decide)).trans (desk_of_frame (dropRequest_frame _ _) (by decide))
  have idle : desk (restartRings (abortAnswerback (enterIdle (startCommand .restart s)))) = desk s := by
    rw [rings, desk_abortAnswerback, desk_enterIdle]
    rfl
  have silent := ((restartKeyboard_keepsDesk _).from_eq idle).trans (endSound_keepsDesk _)
  exact silent.then_eq ((firing _).trans rfl)

theorem lineOnEffect_keepsDesk (channel : Channel) : KeepsDesk s (lineOnEffect channel s) :=
  .ite (fun _ => .of_eq (desk_enterListen _)) fun _ => .of_eq rfl

theorem lineOffEffect_keepsDesk : KeepsDesk s (lineOffEffect s) :=
  (KeepsDesk.ite (fun _ => .refl s) fun _ => .of_eq (desk_enterIdle s)).then_eq (desk_setResult _ _)

theorem sendBreakEffect_keepsDesk : KeepsDesk s (sendBreakEffect s) := by
  unfold sendBreakEffect; split <;> exact .of_eq rfl

theorem sendAnswerbackEffect_keepsDesk : KeepsDesk s (sendAnswerbackEffect s) := by
  unfold sendAnswerbackEffect
  split
  · exact .of_eq (desk_triggerAnswerback s)
  · exact .of_eq rfl
  · exact .of_eq rfl

theorem setModeEffect_keepsDesk : KeepsDesk s (setModeEffect s) := by
  unfold setModeEffect
  split
  · exact .of_eq (desk_applyPreset s _)
  · exact .of_eq rfl

theorem flushPrintEffect_keepsDesk : KeepsDesk s (flushPrintEffect s) :=
  (KeepsDesk.of_frame (flushPrintQueue_frame s) (by decide)).then_eq (desk_setResult _ _)

theorem feedLineEffect_keepsDesk : KeepsDesk s (feedLineEffect s) :=
  .ite (fun _ => .of_eq (desk_appendPrint s _)) fun _ => .of_eq rfl

theorem setTabEffect_keepsDesk : KeepsDesk s (setTabEffect s) :=
  .ite (fun _ => .ite (fun _ => .of_eq rfl) fun _ => .of_eq rfl) fun _ => .of_eq rfl

theorem clearTabEffect_keepsDesk : KeepsDesk s (clearTabEffect s) := .ite (fun _ => .of_eq rfl) fun _ => .of_eq rfl

/-- R176: of the commands RESTART alone moves the keyboard and the sounder. -/
theorem takeCommand_keepsDesk (code : Byte) : KeepsDesk s (takeCommand code s) := by
  refine KeepsDesk.from_eq (t := s.onCommand fun c => { c with last := code }) ?_ rfl
  unfold takeCommand
  dsimp only
  split
  · exact lineOnEffect_keepsDesk _ _
  · exact lineOnEffect_keepsDesk _ _
  · exact lineOffEffect_keepsDesk _
  · exact sendBreakEffect_keepsDesk _
  · exact sendAnswerbackEffect_keepsDesk _
  · exact setModeEffect_keepsDesk _
  · exact flushPrintEffect_keepsDesk _
  · exact feedLineEffect_keepsDesk _
  · exact setTabEffect_keepsDesk _
  · exact clearTabEffect_keepsDesk _
  · exact .of_eq rfl
  · exact restartEffect_keepsDesk _
  · exact .of_eq rfl

theorem writeAnswerbackSetup_frame (byte : AnswerbackByte) (data : Byte) :
    changesOnly [.answerback, .status] s (writeAnswerbackSetup byte data s) := by
  unfold writeAnswerbackSetup
  split
  · exact (onStatus_frame s _).mono (by decide)
  · cases byte <;> exact (onAnswerback_frame s _).mono (by decide)

theorem writeControl_keepsDesk (offset : Offset) (data : Byte) : KeepsDesk s (writeControl offset data s) := by
  unfold writeControl
  split
  case h_1 => exact takeCommand_keepsDesk s data
  case h_9 | h_10 => exact .ite (fun _ => .of_eq rfl) fun _ => .of_eq rfl
  case h_21 | h_22 | h_23 | h_24 => exact .of_frame (setRow_frame _ _ s) (by decide)
  case h_25 | h_26 | h_27 | h_30 | h_31 | h_32 => exact .of_frame (writeRingPlacement_frame _ data s) (by decide)
  case h_34 | h_35 => exact .of_eq ((desk_of_frame (requestHeaderLoad_frame _) (by decide)).trans rfl)
  case h_37 => exact writeKeyboardOptions_keepsDesk s data
  case h_42 | h_43 | h_44 => exact .of_frame (writeAnswerbackSetup_frame s _ data) (by decide)
  all_goals exact .of_eq rfl

/-! ### Host cycles and grants -/

theorem passCycle_keepsDesk (c : HostCycle) : KeepsDesk s (passCycle c s) := by
  cases c with
  | read address data outcome =>
    cases outcome with
    | control offset =>
      exact .ite (fun _ => .of_eq ((desk_of_frame (takeAttention_frame _) (by decide)).trans rfl)) fun _ => .of_eq rfl
    | passed consume =>
      refine .ite (fun _ => .of_eq ?_) fun _ => .of_eq rfl
      rw [desk_settle, desk_of_frame (consumeRecord_frame _) (by decide)]
      rfl
  | write address data outcome =>
    cases outcome with
    | commandBusy => exact .of_eq rfl
    | withheld cause => exact .of_eq rfl
    | control offset =>
      refine KeepsDesk.then_eq ?_ (desk_settle _)
      exact (writeControl_keepsDesk (driveMemory [.write address data] s) offset data).from_eq rfl
    | passed head entry =>
      have captured : ∀ t, desk (captureHead t) = desk t := fun t => desk_of_frame (captureHead_frame t) (by decide)
      have headers : ∀ t, desk (reportWrite head entry data t) = desk (if head then captureHead t else t) := fun t => by
        cases entry <;> rfl
      refine .of_eq ((headers _).trans ?_)
      split
      · rw [captured]; rfl
      · rfl

theorem runCycle_keepsDesk (c : HostCycle) : KeepsDesk s (runCycle c s) :=
  .ite (fun _ => .of_eq rfl) fun _ =>
    .ite (fun _ => .of_eq ((desk_of_frame (startNextGrant_frame _) (by decide)).trans rfl)) fun _ => passCycle_keepsDesk s c

theorem passHeld_keepsDesk : KeepsDesk s (passHeld s) := by
  unfold passHeld
  split
  · exact .refl s
  · next c _ =>
    refine KeepsDesk.then_eq ?_ rfl
    exact (passCycle_keepsDesk (s.onArbiter fun a => { a with held := none }) c).from_eq rfl

/-- R171: a grant ends with its owner's action on the data. -/
theorem finishGrant_keepsDesk (cycles : List MemCycle) {act : State → State} (h : ∀ t, KeepsDesk t (act t)) :
    KeepsDesk s (finishGrant cycles act s) := by
  have acted : KeepsDesk s (act (grantEnded cycles s)) := (h (grantEnded cycles s)).from_eq rfl
  exact (acted.then_eq (desk_settle _)).trans (passHeld_keepsDesk _)

theorem unlessDiscarded_keepsDesk {act : State → State} (h : ∀ t, KeepsDesk t (act t)) (discarded : Bool) (t : State) :
    KeepsDesk t (unlessDiscarded discarded act t) :=
  .ite (fun _ => .refl t) fun _ => h t

theorem deliver_keepsDesk (source : WaitingSource) (character : Byte) : KeepsDesk s (deliver source character s) := by
  have lined : ∀ t, desk (deliverLineOut source character t) = desk t := fun t =>
    desk_of_frame (deliverLineOut_frame t source character) (by decide)
  have offered : ∀ r t, desk (offerRecord r t) = desk t := fun r t => desk_of_frame (offerRecord_frame r t) (by decide)
  have sent : desk (if (s.switch.row source).lineOut then deliverLineOut source character s else s) = desk s := by
    split <;> simp [lined]
  unfold deliver
  refine .of_eq ?_
  dsimp only
  split
  · rw [offered]; split <;> simp [sent]
  · split <;> simp [sent]

theorem leaveSource_keepsDesk (source : WaitingSource) : KeepsDesk s (leaveSource source s) := by
  cases source with
  | keyboard => exact (requestClick_keepsDesk s).trans (finishEvent_keepsDesk _)
  | sendRing => exact .of_frame (advanceSendTail_blocks s).2.2.2 (by decide)
  | answerback =>
    refine .ite (fun _ => .of_eq ((desk_of_frame (completeAnswerback_frame _) (by decide)).trans rfl)) fun _ =>
      .of_eq ((desk_of_frame (requestAnswerbackRead_frame _) (by decide)).trans rfl)

/-! ### What each command does to the keyboard and the sounder -/

theorem KeepsDesk.next {s t u : State} (h : Host.Outcome.next (φ := Fault) (ρ := Refusal) u = .next t)
    (hu : KeepsDesk s u) : KeepsDesk s t := Host.Outcome.next.inj h ▸ hu

theorem KeepsDesk.ite_next {s t a b : State} {c : Prop} [Decidable c]
    (h : Host.Outcome.next (φ := Fault) (ρ := Refusal) (if c then a else b) = .next t)
    (ha : c → KeepsDesk s a) (hb : ¬ c → KeepsDesk s b) : KeepsDesk s t := .next h (.ite ha hb)

theorem reset_keepsDesk (t : State) (h : desk t = desk State.reset) : KeepsDesk s t := by
  rw [KeepsDesk, h]
  refine ⟨fun _ => ⟨iff_of_true rfl rfl, iff_of_true rfl rfl, nofun⟩, fun _ => ⟨?_, ?_⟩⟩ <;>
    exact iff_of_false (fun no => no rfl) nofun

theorem synthesisSample_keepsDesk : KeepsDesk s
    (s.onTones fun t => { t with line := t.line.sample t.lineLevel, sounder := t.sounder.sample t.sounderLevel }) :=
  .of_eq (by simp [desk, Voice.sample_sounding])

theorem exec_keepsDesk {t : State} (i : Instr) (h : exec i s = .next t) : KeepsDesk s t := by
  cases hc : hostCycleOf i s with
  | some c =>
    rw [exec_of_hostCycleOf s hc] at h
    exact .ite_next h (fun _ => runCycle_keepsDesk s c) fun _ => .refl s
  | none =>
    cases i with
    | pinReset => exact .next h (reset_keepsDesk s _ rfl)
    | scanPass readings =>
      refine .ite_next h (fun _ => ?_) fun _ => .refl s
      rw [scanPass_eq]
      exact (scanEnded_keepsDesk s _).then_eq (desk_settle _)
    | repeatTimerExpiry => exact .ite_next h (repeatExpiry_keepsDesk s) fun _ => .refl s
    | feedAppend => exact .ite_next h (fun _ => (appendFeed_keepsDesk s).then_eq (desk_settle _)) fun _ => .refl s
    | sounderTimerExpiry => exact .ite_next h (fun _ => endSound_keepsDesk s) fun _ => .refl s
    | synthesisSample => exact .ite_next h (fun _ => .refl s) fun _ => synthesisSample_keepsDesk s
    | headerLoad b0 b1 b2 b3 =>
      refine .next h ?_
      split
      · exact finishGrant_keepsDesk s _ (unlessDiscarded_keepsDesk (fun t => .of_eq (desk_loadHeader t _ _ _ _)) _)
      · exact .refl s
    | eligibilityRead data =>
      refine .next h ?_
      split
      · exact finishGrant_keepsDesk s _ fun t => (completeRead_keepsDesk t _ data).trans (chooseRepeat_keepsDesk _)
      · exact .refl s
    | translationRead data =>
      refine .next h ?_
      split
      · exact finishGrant_keepsDesk s _ (unlessDiscarded_keepsDesk (fun t => translate_keepsDesk t data) _)
      · exact .refl s
    | glyphFetch c1 c2 c3 c4 c5 =>
      refine .next h ?_
      split
      · exact finishGrant_keepsDesk s _ (unlessDiscarded_keepsDesk (fun t => .of_eq (desk_holdGlyph t _ _ _ _ _)) _)
      · exact .refl s
    | receivePlacement =>
      refine .next h ?_
      split
      · exact finishGrant_keepsDesk s _
          (unlessDiscarded_keepsDesk (fun t => .of_frame (advanceReceiveHead_blocks t).2.2.2 (by decide)) _)
      · exact .refl s
    | sendFetch data =>
      refine .next h ?_
      split
      · exact finishGrant_keepsDesk s _ (unlessDiscarded_keepsDesk (fun t => .of_frame (onRings_frame t _) (by decide)) _)
      · exact .refl s
    | answerbackRead data =>
      refine .next h ?_
      split
      · exact finishGrant_keepsDesk s _
          (unlessDiscarded_keepsDesk (fun t => .of_frame (onAnswerback_frame t _) (by decide)) _)
      · exact .refl s
    | startUpFetch o0 o1 mv md =>
      exact .ite_next h (fun _ => finishGrant_keepsDesk s _ fun t => .of_eq ((desk_beginBlocks _ mv md).trans rfl))
        fun _ => .refl s
    | rstiRelease =>
      exact .ite_next h (fun _ => .of_eq ((desk_of_frame (requestGrant_frame _ _) (by decide)).trans rfl)) fun _ => .refl s
    | take source =>
      refine .next h ?_
      split
      · refine .ite (fun _ => KeepsDesk.then_eq ?_ (desk_settle _)) fun _ => .refl s
        exact (deliver_keepsDesk s source _).trans (leaveSource_keepsDesk _ source)
      · exact .refl s
    | carrierPresent low high | carrierAbsent low high | frameReceived low high | receivedBreak low high =>
      exact .ite_next h (fun _ => .of_eq (desk_sampleLine s _)) fun _ => .refl s
    | lineSample low high => exact .next h (.of_eq (desk_sampleLine s _))
    | listenExpiry | fadeExpiry | qualifyExpiry => exact .ite_next h (fun _ => .of_eq (by simp)) fun _ => .refl s
    | frameStart | frameEnd | breakStart | postBreakEnd =>
      exact .ite_next h (fun _ => .of_eq (desk_bitBoundary s)) fun _ => .refl s
    | bitBoundary => exact .next h (.of_eq (desk_bitBoundary s))
    | flowCodePlaced =>
      refine .next h ?_
      split
      · exact .ite (fun _ => .of_eq (desk_settle _)) fun _ => .refl s
      · exact .refl s
    | entryHandling =>
      refine .next h ?_
      split
      · exact .refl s
      · next e rest _ =>
        refine .ite (fun _ => KeepsDesk.then_eq ?_ (desk_settle _)) fun _ => .refl s
        exact (handleEntry_keepsDesk (consumeEntry rest s) e).from_eq rfl
    | backStep =>
      refine .next h ?_
      split
      · exact .of_eq (desk_completeBackStep s _)
      · exact .refl s
    | paperOut =>
      exact .ite_next h (fun _ => .ite (fun _ => .of_eq (by simp)) fun _ => .of_eq rfl) fun _ => .refl s
    | paperPresent => exact .ite_next h (fun _ => .refl s) fun _ => .of_eq rfl
    | grantStart => exact .ite_next h (fun _ => .of_frame (startNextGrant_frame s) (by decide)) fun _ => .refl s
    | breakTimerExpiry | remotePauseTimerExpiry | homeSeekStart | waitTimerExpiry r =>
      exact .ite_next h (fun _ => .of_eq rfl) fun _ => .refl s
    | motionEnd | returnEnd | feedEnd | paperTimerExpiry | homeFound | seekTimerExpiry | settleExpiry | strobeRelease
    | groupStart | columnTimerExpiry | sensorReading =>
      exact .ite_next h (fun _ => .of_eq (by simp)) fun _ => .refl s
    | maskWrite byte data | joinRowWrite byte data | ringPlacementWrite byte data | keymapBaseWrite byte data
    | answerbackSetupWrite byte data | headerCapture byte data => cases byte <;> cases hc
    | _ => cases hc

end

/-- A step keeps the invariants of the keyboard and the sounder. -/
theorem step_keepsDesk {s t : State} (h : step s = .next t) : KeepsDesk s t := by
  unfold step at h
  split at h
  · exact .next h (.refl s)
  · next command rest _ => exact (exec_keepsDesk { s with pending := rest } command h).from_eq rfl

/-- Settles O58: every operation that moves the desk keeps what the keyboard and the sounder promise of it. -/
theorem keyboardInvariant : Obligations.KeyboardInvariant :=
  ⟨fun _ _ sound h => (step_keepsDesk h).1 sound, fun _ _ sound h => (step_keepsDesk h).2 sound⟩

end Sys2Proof.Machine

namespace Sys2Proof.Machine

/-! ## The start of a grant (R38, R171 to R173) -/

/-- R172: the order in which the arbiter serves the requests that wait. -/
theorem firstWaiting_eq (a : Arbiter) :
    firstWaiting a =
      if a.startUp ≠ .absent then some .startUp
      else if a.receiveWriter ≠ .absent then some .receiveWriter
      else if a.font ≠ .absent then some .font
      else if a.keymap ≠ .absent then some .keymap
      else if a.answerback ≠ .absent then some .answerback
      else if a.sendRing ≠ .absent then some .sendRing
      else none := by
  have first : ∀ (p : Requester → Bool) (r : Requester) (rest : List Requester),
      (r :: rest).find? p = if p r = true then some r else rest.find? p := fun p r rest => by
    rw [List.find?_cons]
    cases p r <;> rfl
  simp only [firstWaiting, first, decide_eq_true_eq]
  rfl

/-- R31, R35, R38: the address of a key-map read, from the base in force as its grant starts. -/
theorem keymapGrant_eq (read : KeymapRead) (s : State) :
    (let base := s.keyboard.keymapBase
     match read with
      | .headerLoad => keymapGrant read s = .headerLoad base false
      | .eligibility p => keymapGrant read s = .eligibility p (base + BitVec.ofNat 16 (4 + p.val))
      | .translation =>
        ∀ e ∈ s.keyboard.queue.head?,
          (let layer := if e.control then 2 else if e.shift then 1 else 0
           keymapGrant read s = .translation (base + BitVec.ofNat 16 (4 + layer * 64 + e.position.val)) false)) := by
  cases read with
  | headerLoad => rfl
  | eligibility p => rfl
  | translation =>
    intro base e head
    simp only [keymapGrant, show s.keyboard.queue.head? = some e from head]
    rfl

/-- R38, R173: the grant of the read at the front of the key-map queue. -/
theorem beginKeymapGrant_of_cons {s : State} {read : KeymapRead} {rest : List KeymapRead}
    (queue : s.arbiter.keymapQueue = read :: rest) :
    (beginKeymapGrant s).arbiter = { s.arbiter with
      keymapQueue := rest, grant := some (keymapGrant read s), keymap := if rest = [] then .absent else .waiting } := by
  simp only [beginKeymapGrant, queue]
  rfl

theorem setWait_wait (a : Arbiter) (r other : Requester) (w : Wait) :
    (a.setWait r w).wait other = if other = r then w else a.wait other := by
  cases r <;> cases other <;> rfl

theorem setWait_rest (a : Arbiter) (r : Requester) (w : Wait) :
    (a.setWait r w).keymapQueue = a.keymapQueue ∧ (a.setWait r w).grant = a.grant ∧ (a.setWait r w).held = a.held := by
  cases r <;> exact ⟨rfl, rfl, rfl⟩

/-- Settles O51: the requests that wait are served in the order of `firstWaiting`, each at its owner's address. -/
theorem grantStart : Obligations.GrantStart := by
  refine ⟨fun s idle held _ staged queued => ?_, fun s r waiting => ?_⟩
  · refine ⟨startNextGrant s, ?_, startNextGrant_frame s, ?_⟩
    · simp only [exec, execGrantStart, idle, held, and_self, if_true]
    · have order := firstWaiting_eq s.arbiter
      unfold startNextGrant
      dsimp only
      split <;> rename_i startUp
      · rw [order, if_pos startUp]
        rfl
      rw [if_neg startUp] at order
      split <;> rename_i receiveWriter
      · obtain ⟨record, rest, oldest⟩ := List.exists_cons_of_ne_nil (staged receiveWriter)
        rw [order, if_pos receiveWriter, oldest]
        rintro _ ⟨⟩
        rfl
      rw [if_neg receiveWriter] at order
      split <;> rename_i font
      · rw [order, if_pos font]
        rfl
      rw [if_neg font] at order
      split <;> rename_i keymap
      · obtain ⟨read, rest, queue⟩ := List.exists_cons_of_ne_nil (queued keymap)
        have address := keymapGrant_eq read s
        rw [order, if_pos keymap, queue]
        refine ⟨keymapGrant read s, beginKeymapGrant_of_cons queue, ?_⟩
        cases read <;> exact address
      rw [if_neg keymap] at order
      split <;> rename_i answerback
      · rw [order, if_pos answerback]
        rfl
      rw [if_neg answerback] at order
      split <;> rename_i sendRing
      · rw [order, if_pos sendRing]
        rfl
      · rw [order, if_neg sendRing]
  · have expires : exec (.waitTimerExpiry r) s = .next (s.onArbiter fun a => a.setWait r .overdue) := by
      simp only [exec, execWaitTimerExpiry, waiting, if_true]
    obtain ⟨queue, grant, held⟩ := setWait_rest s.arbiter r .overdue
    refine ⟨_, expires, ?_, fun other ne => ?_, queue, grant, held, onArbiter_frame s _⟩
    · exact (setWait_wait _ _ _ _).trans (if_pos rfl)
    · exact (setWait_wait _ _ _ _).trans (if_neg ne)

/-! ## Setup writes of the keyboard, the Flow Controller and the Answerback Unit (R31, R37, R47, R98, R108, R115) -/

/-- R31, R172: with no grant running a header load joins the key-map queue unless one waits there. -/
theorem requestHeaderLoad_of_noGrant {s : State} (free : s.arbiter.grant = none) :
    requestHeaderLoad s = s.onArbiter fun a =>
      { a with
        keymapQueue :=
          if KeymapRead.headerLoad ∈ a.keymapQueue then a.keymapQueue else a.keymapQueue ++ [.headerLoad]
        keymap := if a.keymapQueue = [] then .waiting else a.keymap } := by
  unfold requestHeaderLoad
  simp only [free, List.contains_eq_mem, decide_eq_true_eq]
  by_cases waits : KeymapRead.headerLoad ∈ s.arbiter.keymapQueue
  · have busy : s.arbiter.keymapQueue ≠ [] := List.ne_nil_of_mem waits
    simp [waits, busy, State.onArbiter]
  · simp [waits, enqueueKeymap, State.onArbiter]

/-- The memory side carries the host's write to an offset of the control block. -/
def hostDriven (offset : Offset) (data : Byte) (s : State) : State :=
  driveMemory [.write (controlAddress s.passage.page offset) data] s

theorem hostDriven_frame (offset : Offset) (data : Byte) (s : State) : changesOnly [.pins] s (hostDriven offset data s) :=
  driveMemory_frame _ s

/-- A setup write through a free port: its owner takes the byte, and the event settles. -/
theorem setupWrite_settles {s : State} {offset : Offset} {data : Byte} {blocks : List Block} (free : portFree s)
    (setup : offset ≠ 0#6) {u : State} (hu : u = writeControl offset data (hostDriven offset data s))
    (frame : changesOnly blocks (hostDriven offset data s) u) (hb : .pins ∉ blocks) :
    writeAt offset data s = settle u ∧ hostWrote offset data s (settle u) ∧ changesOnly (.pins :: blocks) s u := by
  refine ⟨?_, ?_, ?_⟩
  · rw [writeAt_of_portFree free data fun command => absurd command setup, hu]
    rfl
  · rw [hostWrote, settle_pins, show u.pins = _ from frame .pins hb]
    rfl
  · exact frame.after (fun _ mem => List.mem_cons_of_mem _ mem) ((hostDriven_frame offset data s).mono (by simp))

/-- R37, R47: the options are taken; clearing repeat enable ends repeat and discards the eligibility reads. -/
theorem writeKeyboardOptions_keyboard (data : Byte) (s : State) :
    (writeKeyboardOptions data s).keyboard = { s.keyboard with
      click := data.getLsbD 0, repeatEnable := data.getLsbD 1
      onlinePreset := if data.getLsbD 2 then .half else .full
      repeatKey := if data.getLsbD 1 then s.keyboard.repeatKey else none
      repeatTimer := if data.getLsbD 1 then s.keyboard.repeatTimer else none
      eligibility := if data.getLsbD 1 then s.keyboard.eligibility
        else s.keyboard.eligibility.map EligibilityPass.discardAll } := by
  unfold writeKeyboardOptions
  cases data.getLsbD 1 <;> rfl

/-- R108, R115: a setup byte is refused while the lock holds the setup, and taken otherwise. -/
theorem writeAnswerbackSetup_takes (byte : AnswerbackByte) (data : Byte) (s : State) :
    if s.passage.answerbackLock = true ∧ s.answerback.length ≠ 0 then
      (writeAnswerbackSetup byte data s).answerback = s.answerback ∧
        (writeAnswerbackSetup byte data s).status = { s.status with setupRefused := true }
    else
      (writeAnswerbackSetup byte data s).status = s.status ∧
        (writeAnswerbackSetup byte data s).answerback = (match byte with
          | .baseLow => { s.answerback with base := s.answerback.base.extractLsb' 8 8 ++ data }
          | .baseHigh => { s.answerback with base := data ++ s.answerback.base.extractLsb' 0 8 }
          | .length => { s.answerback with length := min data.toNat 32 }) := by
  have fixed : answerbackFixed s = true ↔ s.passage.answerbackLock = true ∧ s.answerback.length ≠ 0 := by
    rw [answerbackFixed, Bool.and_eq_true, decide_eq_true_iff]
  unfold writeAnswerbackSetup
  simp only [fixed]
  split
  · exact ⟨rfl, rfl⟩
  · cases byte with
    | baseLow | baseHigh => exact ⟨rfl, rfl⟩
    | length => rw [clamp_zero]; exact ⟨rfl, rfl⟩

/-- Settles O10: each byte reaches its owner, and the event settles. -/
theorem ownedSetupWrites : Obligations.OwnedSetupWrites := by
  refine ⟨fun s half data free => ?_, fun s data free => ?_, fun s data free => ?_, fun s byte data free => ?_⟩
  · let u := writeKeymapBase half data (hostDriven (keymapBaseOffset half) data s)
    have frame : changesOnly [.keyboard, .arbiter] (hostDriven (keymapBaseOffset half) data s) u :=
      (requestHeaderLoad_frame _).after (by decide) ((onKeyboard_frame _ _).mono (by decide))
    obtain ⟨writes, wrote, toU⟩ := setupWrite_settles (offset := keymapBaseOffset half) free (by cases half <;> decide)
      (u := u) (by cases half <;> rfl) frame (by decide)
    have requests : u = _ := requestHeaderLoad_of_noGrant free.2.2.1
    refine ⟨settle u, ?_, ?_, ?_, ?_, ?_, ?_⟩
    · simp only [exec, execKeymapBaseWrite, writes]
    · rw [settle_keyboard, requests]
      cases half <;> rfl
    · rw [settle_arbiter, requests]
      rfl
    · have waits : (settle u).arbiter.keymapQueue ≠ [] := by
        rw [settle_arbiter]
        exact List.ne_nil_of_mem (requestHeaderLoad_queued _)
      simp only [keymapWait, waits, not_false_eq_true, and_true, ne_eq]
      rw [settle_arbiter, requests]
      rfl
    · cases half <;> exact wrote
    · exact settlesOnly_of_settle (toU.mono (by decide)) (by decide)
  · let u := writeKeyboardOptions data (hostDriven 0x2E#6 data s)
    have frame : changesOnly [.keyboard] (hostDriven 0x2E#6 data s) u := by
      show changesOnly _ _ (ite _ _ _)
      split
      · exact onKeyboard_frame _ _
      · exact (disableRepeat_frame _).after (by decide) (onKeyboard_frame _ _)
    obtain ⟨writes, wrote, toU⟩ := setupWrite_settles (offset := 0x2E#6) free (by decide) (u := u) rfl frame (by decide)
    refine ⟨settle u, ?_, ?_⟩
    · simp only [exec, execKeyboardOptionsWrite, writes]
    have keyboard : u.keyboard = _ := writeKeyboardOptions_keyboard data _
    rw [settle_keyboard, keyboard]
    refine ⟨rfl, rfl, rfl, fun disabled => ?_, fun enabled => ?_, rfl, wrote,
      settlesOnly_of_settle (toU.mono (by decide)) (by decide)⟩
    · simp only [disabled, Bool.false_eq_true, if_false, true_and]
      intro e mem
      obtain ⟨pass, _, rfl⟩ := List.mem_map.1 mem
      exact EligibilityPass.barren_discardAll pass
    · simp only [enabled, if_true]
      rfl
  · let u := writeRingPauseLevel data (hostDriven 0x22#6 data s)
    have frame : changesOnly [.flow] (hostDriven 0x22#6 data s) u := onFlow_frame _ _
    obtain ⟨writes, wrote, toU⟩ := setupWrite_settles (offset := 0x22#6) free (by decide) (u := u) rfl frame (by decide)
    have level : (settle u).flow.ringPauseLevel = max 1 (min data.toNat 126) := by
      rw [(settle_touches u).2.1]
      rfl
    refine ⟨settle u, ?_, level, wrote, ?_, ?_⟩
    · simp only [exec, execRingPauseLevelWrite, writes]
    · exact (settle_changesOnly u).after (by decide) (toU.mono (by decide))
    · refine onlySettles_of_settle (toU .switch (by decide)) ?_ (toU .transmitter (by decide))
      rw [level]
      rfl
  · let u := writeAnswerbackSetup byte data (hostDriven (answerbackByteOffset byte) data s)
    have frame : changesOnly [.answerback, .status] (hostDriven (answerbackByteOffset byte) data s) u :=
      writeAnswerbackSetup_frame _ byte data
    obtain ⟨writes, wrote, toU⟩ := setupWrite_settles (offset := answerbackByteOffset byte) free
      (by cases byte <;> decide) (u := u) (by cases byte <;> rfl) frame (by decide)
    refine ⟨settle u, ?_, ?_, ?_, ?_⟩
    · simp only [exec, execAnswerbackSetupWrite, writes]
    · rw [settle_answerback, settle_status]
      exact writeAnswerbackSetup_takes byte data (hostDriven (answerbackByteOffset byte) data s)
    · cases byte <;> exact wrote
    · exact settlesOnly_of_settle (toU.mono (by decide)) (by decide)

end Sys2Proof.Machine

namespace Sys2Proof.Machine

/-! ## The key-map reads (R29, R31, R35, R36) -/

/-- R31, R35, R39: a completed key-map read, with no host cycle held: its owner acts on the data, and the event settles. -/
theorem keymapRead_settles {s : State} {cycles : List MemCycle} {act : State → State} {blocks : List Block}
    (acts : ∀ (g : Option HostCycle) (t : State), act (t.withHeld g) = (act t).withHeld g)
    (held : s.arbiter.held = none) (frame : changesOnly blocks (grantEnded cycles s) (act (grantEnded cycles s)))
    (hb : ∀ b ∈ [Block.switch, .flow, .transmitter], b ∉ .pins :: .arbiter :: blocks) :
    finishGrant cycles act s = settle (act (grantEnded cycles s)) ∧
      settlesOnly (.pins :: .arbiter :: blocks) s (settle (act (grantEnded cycles s))) := by
  refine ⟨finishGrant_of_released acts held, settlesOnly_of_settle ?_ hb⟩
  exact frame.after (fun b mem => List.mem_cons_of_mem _ (List.mem_cons_of_mem _ mem))
    ((grantEnded_frame cycles s).mono (by simp))

/-- R35: the positions that are eligible after a read of the plain-layer code of `p`. -/
def eligibleAfter (p : Position) (discarded : Bool) (data : Byte) (eligible : List Position) : List Position :=
  if discarded = false ∧ ((1 ≤ data.toNat ∧ data.toNat ≤ 127) ∨ data = 0x86#8) then eligible ++ [p] else eligible

theorem isRepeatCode_iff (code : Byte) :
    isRepeatCode code = true ↔ (1 ≤ code.toNat ∧ code.toNat ≤ 127) ∨ code = 0x86#8 := by
  simp [isRepeatCode]

/-- R35: the read at the front of the first pass completes. -/
theorem completeEligibility_front (p : Position) (discarded : Bool) (data : Byte) (others : List EligibilityPending)
    (eligible : List Position) (later : List EligibilityPass) :
    completeEligibility p data (⟨⟨p, discarded⟩ :: others, eligible⟩ :: later) =
      ⟨others, eligibleAfter p discarded data eligible⟩ :: later := by
  have counts : (!discarded && isRepeatCode data) = true ↔
      discarded = false ∧ ((1 ≤ data.toNat ∧ data.toNat ≤ 127) ∨ data = 0x86#8) := by
    rw [Bool.and_eq_true, isRepeatCode_iff, Bool.not_eq_true']
  simp [completeEligibility, eligibleAfter, counts]

theorem highestPosition_eq_max? (positions : List Position) : highestPosition positions = positions.max? := by
  have along : ∀ (rest : List Position) (b : Position),
      rest.foldl (fun best p => match best with
        | none => some p
        | some b => if b.val < p.val then some p else some b) (some b) = some (rest.foldl max b) := by
    intro rest
    induction rest with
    | nil => exact fun _ => rfl
    | cons p rest ih =>
      intro b
      rw [List.foldl_cons, List.foldl_cons, ← ih]
      by_cases above : b.val < p.val
      · rw [max_eq_right (Fin.le_of_lt above)]
        simp only [above, if_true]
      · rw [max_eq_left (Fin.not_lt.1 above)]
        simp only [above, if_false]
  cases positions with
  | nil => rfl
  | cons p rest => exact (along rest p).trans List.max?_cons'.symm

/-- R35, R36: with its last read complete the first pass leaves the repeat key, or none. -/
theorem chooseRepeat_last {s : State} {chosen : List Position} {later : List EligibilityPass}
    (passes : s.keyboard.eligibility = ⟨[], chosen⟩ :: later) :
    (chooseRepeat s).keyboard =
      (match highestPosition chosen with
      | none => { s.keyboard with eligibility := later }
      | some p => { s.keyboard with
          eligibility := later, repeatKey := some p, repeatTimer := some (repeatDelay s.keyboard.delayCode) }) := by
  unfold chooseRepeat
  rw [passes]
  simp only [if_true]
  cases highestPosition chosen <;> rfl

theorem chooseRepeat_waits {s : State} {e : EligibilityPass} {later : List EligibilityPass}
    (passes : s.keyboard.eligibility = e :: later) (more : e.outstanding ≠ []) : chooseRepeat s = s := by
  unfold chooseRepeat
  rw [passes]
  simp only [more, if_false]

/-- Settles O22: the bytes of a load replace the header copy; a completed read enters the count of its pass. -/
theorem keymapReadsComplete : Obligations.KeymapReadsComplete := by
  refine ⟨fun s address discarded b0 b1 b2 b3 grant held => ?_,
    fun s p address data discarded others eligible later grant held passes => ?_⟩
  · let cycles := [MemCycle.read address b0, .read (address + 1) b1, .read (address + 2) b2, .read (address + 3) b3]
    let ended := grantEnded cycles s
    let u := unlessDiscarded discarded (loadHeader b0 b1 b2 b3) ended
    have frame : changesOnly [.keyboard] ended u := by
      cases discarded with
      | false => exact onKeyboard_frame _ _
      | true => exact changesOnly_refl _ _
    obtain ⟨ends, settles⟩ := keymapRead_settles
      (unlessDiscarded_withHeld (fun g t => loadHeader_withHeld g t b0 b1 b2 b3) discarded) held frame (by decide)
    refine ⟨settle u, ?_, ?_, ?_, ?_, ?_⟩
    · simp only [exec, execHeaderLoad, grant]
      exact congrArg _ ends
    · rw [settle_keyboard]
      cases discarded <;> rfl
    · rw [settle_arbiter]
      cases discarded <;> rfl
    · rw [settle_pins]
      cases discarded <;> rfl
    · exact ⟨settles.1.mono (by decide), settles.2⟩
  · let chosen := eligibleAfter p discarded data eligible
    let ended := grantEnded [.read address data] s
    let counted := ended.onKeyboard fun k => { k with eligibility := completeEligibility p data k.eligibility }
    let u := chooseRepeat counted
    have counts : counted.keyboard.eligibility = ⟨others, chosen⟩ :: later := by
      rw [← completeEligibility_front, ← passes]
      rfl
    have kept : counted.keyboard = { s.keyboard with eligibility := ⟨others, chosen⟩ :: later } := by
      rw [← counts]
      rfl
    have frame : changesOnly [.keyboard] ended u := (chooseRepeat_frame _).after (by decide) (onKeyboard_frame _ _)
    obtain ⟨ends, settles⟩ := keymapRead_settles (blocks := [.keyboard]) (cycles := [.read address data])
      (act := fun t => chooseRepeat (t.onKeyboard fun k => { k with eligibility := completeEligibility p data k.eligibility }))
      (fun g t => by simp only [onKeyboard_withHeld, chooseRepeat_withHeld]) held frame (by decide)
    refine ⟨settle u, ?_, ?_, ?_, ?_, ?_⟩
    · simp only [exec, execEligibilityRead, grant]
      exact congrArg _ ends
    · rw [settle_keyboard]
      show if others ≠ [] then _ else if chosen = [] then _ else _
      split
      · next more =>
        rw [show u = counted from chooseRepeat_waits counts more, kept]
        rfl
      · next last =>
        rw [ne_eq, not_not] at last
        rw [last] at counts
        have choice := chooseRepeat_last counts
        cases top : highestPosition chosen with
        | none =>
          rw [if_pos (List.max?_eq_none_iff.1 (highestPosition_eq_max? chosen ▸ top)), choice, top, kept]
        | some q =>
          obtain ⟨mem, above⟩ := List.max?_eq_some_iff.1 (highestPosition_eq_max? chosen ▸ top)
          rw [if_neg (List.ne_nil_of_mem mem), choice, top, kept]
          refine ⟨⟨q, mem, above, rfl⟩, ?_⟩
          rfl
    · rw [settle_arbiter, show u.arbiter = ended.arbiter from frame .arbiter (by decide)]
      rfl
    · rw [settle_pins, show u.pins = ended.pins from frame .pins (by decide)]
      rfl
    · exact ⟨settles.1.mono (by decide), settles.2⟩

end Sys2Proof.Machine

namespace Sys2Proof.Machine

/-! ## Translation (R38, R39, R48, R174) -/

theorem classify_of_character {code : Byte} (h : 1 ≤ code.toNat ∧ code.toNat < 0x80) :
    classify code = .character code := by
  unfold classify
  split
  case h_10 => exact if_pos (by omega)
  all_goals omega

theorem classify_of_blank {code : Byte} (h : code.toNat = 0 ∨ 0x89 ≤ code.toNat) : classify code = .blank := by
  unfold classify
  split
  case h_10 => exact if_neg (by omega)
  all_goals omega

/-- R38: layer 0 is that of an event with neither control nor shift. -/
theorem KeyEvent.layer_eq_zero_iff (e : KeyEvent) : e.layer = 0 ↔ e.control = false ∧ e.shift = false := by
  unfold KeyEvent.layer
  cases e.control <;> cases e.shift <;> decide

/-- R39: the lock turns 61h to 7Ah of layer 0 into 41h to 5Ah. -/
theorem lockAdjusted_eq (e : KeyEvent) (data : Byte) :
    lockAdjusted e data =
      if e.lock = true ∧ e.control = false ∧ e.shift = false ∧ 0x61 ≤ data.toNat ∧ data.toNat ≤ 0x7A then data - 0x20#8
      else data := by
  unfold lockAdjusted
  simp only [KeyEvent.layer_eq_zero_iff, and_assoc]

/-- R39: the lock leaves every code above 7Fh, and 00h, as it is. -/
theorem lockAdjusted_of_not_character {e : KeyEvent} {data : Byte} (h : data.toNat = 0 ∨ 0x80 ≤ data.toNat) :
    lockAdjusted e data = data :=
  if_neg fun adjusted => by omega

/-- R39: the lock makes a character of a character. -/
theorem lockAdjusted_character {e : KeyEvent} {data : Byte} (h : 1 ≤ data.toNat ∧ data.toNat < 0x80) :
    1 ≤ (lockAdjusted e data).toNat ∧ (lockAdjusted e data).toNat < 0x80 := by
  unfold lockAdjusted
  split
  · next adjusted =>
    obtain ⟨_, _, low, high⟩ := adjusted
    bv_omega
  · exact h

/-- R39: a completed translation read, with no host cycle held, acts on the event at the head of the key queue. -/
theorem translationRead_settles {s : State} {address : Addr} {e : KeyEvent} {rest : List KeyEvent} {data : Byte}
    (grant : s.arbiter.grant = some (.translation address false)) (held : s.arbiter.held = none)
    (queue : s.keyboard.queue = e :: rest) :
    exec (.translationRead data) s =
      .next (settle (actOnCode (lockAdjusted e data) (grantEnded [.read address data] s))) := by
  have acts : translate data (grantEnded [.read address data] s) =
      actOnCode (lockAdjusted e data) (grantEnded [.read address data] s) := by
    unfold translate
    rw [show (grantEnded [.read address data] s).keyboard.queue = e :: rest from queue]
  rw [← acts]
  simp only [exec, execTranslationRead, grant]
  exact congrArg _ (finishGrant_of_released (unlessDiscarded_withHeld (fun g t => translate_withHeld g t data) false) held)

/-- Settles O24: by the class of the byte used, and by the discarding of the grant. -/
theorem translationClassifies : Obligations.TranslationClassifies := by
  refine ⟨fun s address e rest data grant held queue => ?_, fun s address data grant held => ?_⟩
  · intro used plain
    let ended := grantEnded [.read address data] s
    have toEnded : changesOnly [.pins, .arbiter] s ended := grantEnded_frame _ s
    have uses : lockAdjusted e data = used := lockAdjusted_eq e data
    by_cases character : 1 ≤ data.toNat ∧ data.toNat < 0x80
    · let u := ended.onTranslator fun _ => .offering used
      have acts : actOnCode (lockAdjusted e data) ended = u := by
        rw [actOnCode, classify_of_character (lockAdjusted_character character), uses]
      have frame : changesOnly [.translator, .keyboard, .arbiter, .pins] s u :=
        (onTranslator_frame _ _).after (by decide) (toEnded.mono (by decide))
      refine ⟨settle u, ?_, ?_, ?_, ?_, settlesOnly_of_settle frame (by decide)⟩
      · rw [translationRead_settles grant held queue, acts]
      · rw [if_pos character, settle_translator, settle_keyboard, settle_arbiter]
        exact ⟨rfl, rfl, rfl⟩
      · rw [settle_arbiter]
        rfl
      · rw [settle_pins]
        rfl
    · have blank : data.toNat = 0 ∨ 0x89 ≤ data.toNat := by omega
      let u := finishEvent ended
      have acts : actOnCode (lockAdjusted e data) ended = u := by
        rw [actOnCode, lockAdjusted_of_not_character (by omega), classify_of_blank blank]
      have toU : changesOnly [.keyboard, .translator, .arbiter] ended u := finishEvent_frame ended
      obtain ⟨keyboard, _, arbiter⟩ := finishEvent_blocks ended
      refine ⟨settle u, ?_, ?_, ?_, ?_, settlesOnly_of_settle (toU.after (by decide) (toEnded.mono (by decide))) (by decide)⟩
      · rw [translationRead_settles grant held queue, acts]
      · rw [if_neg character]
        refine ⟨eventLeft_finishEvent s rfl rfl rfl, ?_, ?_⟩
        · rw [settle_keyboard, keyboard, show ended.keyboard = s.keyboard from rfl, queue]
          rfl
        · rw [settle_arbiter, arbiter]
          rfl
      · rw [settle_arbiter, arbiter]
        rfl
      · rw [settle_pins, show u.pins = ended.pins from toU .pins (by decide)]
        rfl
  · have discards : exec (.translationRead data) s = .next (settle (grantEnded [.read address data] s)) := by
      simp only [exec, execTranslationRead, grant]
      exact congrArg _
        (finishGrant_of_released (unlessDiscarded_withHeld (fun g t => translate_withHeld g t data) true) held)
    refine ⟨_, discards, ?_, ?_, settlesOnly_of_settle ((grantEnded_frame _ s).mono (by decide)) (by decide)⟩
    · rw [settle_arbiter]
      rfl
    · rw [settle_pins]
      rfl

end Sys2Proof.Machine

namespace Sys2Proof.Machine

/-! ## Key events that join the queue, and FEED (R34, R36, R38, R45) -/

section
variable (s : State)

/-- R34, R38: an event that joins the queue of an IDLE translator starts its fetch. -/
theorem joinQueue_blocks (e : KeyEvent) :
    (joinQueue e s).keyboard = { s.keyboard with queue := s.keyboard.queue ++ [e] } ∧
    (joinQueue e s).translator = (if s.translator = .idle then .fetching else s.translator) ∧
    (joinQueue e s).arbiter = { s.arbiter with
      keymapQueue := s.arbiter.keymapQueue ++ (if s.translator = .idle then [.translation] else [])
      keymap := if s.arbiter.keymapQueue = [] ∧ s.translator = .idle then .waiting else s.arbiter.keymap } := by
  unfold joinQueue wakeTranslator
  by_cases idle : s.translator = .idle
  · by_cases empty : s.arbiter.keymapQueue = [] <;> simp [idle, enqueueKeymap, empty]
  · simp [idle]

/-- R45: a FEED with room in the print queue: its record, the entry, the CLICK and the end of the key event. -/
theorem appendFeed_blocks (room : s.carriage.queue.length < 48) :
    (let joined := joinedRing s.switch.keyboard s
     (appendFeed s).carriage = { s.carriage with queue := s.carriage.queue ++ [.feed] } ∧
     eventLeft s (settle (appendFeed s)) ∧
     (appendFeed s).keyboard = { s.keyboard with queue := s.keyboard.queue.tail } ∧
     (appendFeed s).tones = tonesAfterClick s ∧
     (appendFeed s).arbiter = { s.arbiter with
      keymapQueue := (appendFeed s).arbiter.keymapQueue, keymap := (appendFeed s).arbiter.keymap
      receiveWriter := waitAfterRequest (joined && recordFits s) .receiveWriter s } ∧
     (appendFeed s).rings = ringsAfterOffer joined (plainRecord .keyboardFunction 0x86#8) s ∧
     (appendFeed s).status = { s.status with ringLoss := s.status.ringLoss || losesRecord joined s } ∧
     (appendFeed s).attention = { s.attention with
      flags := s.attention.flags ||| flagIf (losesRecord joined s && !s.status.ringLoss) .loss } ∧
     (appendFeed s).switch = { s.switch with freedPlace := false }) := by
  let joined := joinedRing s.switch.keyboard s
  let o := recordFunction 0x86#8 s
  let a := appendPrint .feed o
  let c := requestClick a
  obtain ⟨rings, arbiter, status, attention, records⟩ :=
    offerIf_blocks s joined (plainRecord .keyboardFunction 0x86#8) (t := o) rfl
  have oCarriage : o.carriage = s.carriage := records .carriage (by decide)
  have oSwitch : o.switch = s.switch := records .switch (by decide)
  have appends : a = (o.onCarriage fun c => { c with queue := c.queue ++ [.feed] }).onSwitch fun c =>
      { c with freedPlace := false } := by
    rcases appendPrint_cases .feed o with ⟨_, h⟩ | ⟨full, _⟩
    · exact h
    · rw [oCarriage] at full
      exact absurd room (Nat.not_lt.2 full)
  have toA : changesOnly [.carriage, .switch] o a := appendPrint_frame _ o
  have toC : changesOnly [.tones] a c := requestClick_frame a
  have toU : changesOnly [.keyboard, .translator, .arbiter] c (appendFeed s) := finishEvent_frame c
  obtain ⟨uKeyboard, _, uArbiter⟩ := finishEvent_blocks c
  have aKeyboard : a.keyboard = s.keyboard := (toA .keyboard (by decide)).trans (records .keyboard (by decide))
  have aTones : a.tones = s.tones := (toA .tones (by decide)).trans (records .tones (by decide))
  have cKeyboard : c.keyboard = s.keyboard := (toC .keyboard (by decide)).trans aKeyboard
  have cArbiter : c.arbiter = o.arbiter := (toC .arbiter (by decide)).trans (toA .arbiter (by decide))
  have early : changesOnly [.tones, .carriage, .switch, .keyboard, .translator, .arbiter] o (appendFeed s) :=
    toU.after (by decide) (toC.after (by decide) (toA.mono (by decide)))
  have late : changesOnly [.tones, .keyboard, .translator, .arbiter] a (appendFeed s) :=
    toU.after (by decide) (toC.mono (by decide))
  refine ⟨?_, eventLeft_finishEvent s cKeyboard ?_ ?_, ?_, ?_, ?_, ?_, ?_, ?_, ?_⟩
  · rw [late .carriage (by decide), appends, ← oCarriage]
    rfl
  · rw [cArbiter, arbiter]
  · rw [cArbiter, arbiter]
  · rw [show (appendFeed s).keyboard = _ from uKeyboard, cKeyboard]
  · rw [toU .tones (by decide), requestClick_tones, tonesAfterClick, tonesAfterClick, aKeyboard, aTones]
  · rw [show (appendFeed s).arbiter = _ from uArbiter, cArbiter, arbiter]
  · rw [early .rings (by decide), rings]
  · rw [early .status (by decide), status]
  · rw [early .attention (by decide), attention]
  · rw [late .switch (by decide), appends, ← oSwitch]
    rfl

/-- R36: what is offered at the expiry of the repeat timer. -/
def repeatOffered (s : State) : State :=
  match s.keyboard.repeatKey with
  | some p => if s.keyboard.positions[p] = KeyState.down then offerRepeat (eventOf p s.keyboard) s else s
  | none => s

theorem repeatExpiry_eq :
    repeatExpiry s = (repeatOffered s).onKeyboard fun k =>
      { k with repeatTimer := some (repeatInterval k.rateCode) } := rfl

/-- R36: a DOWN repeat key joins the queue while there is room; nothing else does. -/
theorem repeatOffered_eq {p : Position} (key : s.keyboard.repeatKey = some p) :
    repeatOffered s =
      if s.keyboard.positions[p] = KeyState.down ∧ s.keyboard.queue.length < 8 then joinQueue (eventOf p s.keyboard) s
      else s := by
  unfold repeatOffered offerRepeat keyRoom
  simp only [key, decide_eq_true_eq]
  by_cases down : s.keyboard.positions[p] = KeyState.down
  · simp only [down, if_true, true_and]
    rfl
  · simp only [down, if_false, false_and]

end

/-- Settles O23: the event of the repeat key, and the FEED that waited. -/
theorem repeatAndFeedWait : Obligations.RepeatAndFeedWait := by
  refine ⟨fun s running sound => ?_, fun s waits room falls => ?_, fun s waits => ?_⟩
  · obtain ⟨serves, timer, _⟩ := sound
    have expires : exec .repeatTimerExpiry s = .next (repeatExpiry s) := by
      simp only [exec, execRepeatTimerExpiry, running, if_true]
    cases key : s.keyboard.repeatKey with
    | none =>
      rw [timer.2 key] at running
      cases running
    | some p =>
      have offered := repeatOffered_eq s key
      refine ⟨repeatExpiry s, expires, ?_⟩
      by_cases joins : s.keyboard.positions[p] = KeyState.down ∧ s.keyboard.queue.length < 8
      · rw [if_pos joins] at offered
        obtain ⟨keyboard, translator, arbiter⟩ := joinQueue_blocks s (eventOf p s.keyboard)
        rw [repeatExpiry_eq, offered]
        have queued : s.keyboard.queue ++ [eventOf p s.keyboard] ≠ [] := by simp
        refine ⟨?_, ?_, ?_, ?_, ?_⟩
        · rw [State.onKeyboard_keyboard, keyboard]
          rfl
        · rintro _ ⟨⟩
          rw [if_pos joins, State.onKeyboard_keyboard, keyboard]
          rfl
        · simp only [State.onKeyboard_keyboard, State.onKeyboard_translator, keyboard, translator, queued, ne_eq,
            not_false_eq_true, and_true]
        · simp only [State.onKeyboard_keyboard, State.onKeyboard_arbiter, keyboard, arbiter, keymapWait, queued, ne_eq,
            not_false_eq_true, and_true]
          by_cases idle : s.translator = .idle <;> simp [idle]
        · exact (onKeyboard_frame _ _).after (by decide) (joinQueue_frame _ s)
      · rw [if_neg joins] at offered
        rw [repeatExpiry_eq, offered]
        have calm : ¬ (s.translator = .idle ∧ s.keyboard.queue ≠ []) := fun wakes => wakes.2 (serves.1 wakes.1)
        refine ⟨rfl, ?_, ?_, ?_, (onKeyboard_frame s _).mono (by decide)⟩
        · rintro _ ⟨⟩
          rw [if_neg joins]
          rfl
        · exact (if_neg calm).symm
        · have unmoved : keymapWait s s = s.arbiter.keymap := if_neg fun joined => joined.2 joined.1
          show s.arbiter = { s.arbiter with
            keymapQueue := s.arbiter.keymapQueue ++
              (if s.translator = .idle ∧ s.keyboard.queue ≠ [] then [.translation] else [])
            keymap := keymapWait s s }
          rw [if_neg calm, unmoved, List.append_nil]
  · have appends : exec .feedAppend s = .next (settle (appendFeed s)) := by
      simp only [exec, execFeedAppend, waits, (printRoom_iff s).2 room, falls, and_self, if_true]
    obtain ⟨carriage, left, keyboard, tones, arbiter, rings, status, attention, switch⟩ := appendFeed_blocks s room
    have frame := appendFeed_frame s
    refine ⟨settle (appendFeed s), appends, ?_, left, ?_, ?_, ⟨?_, ?_, ?_, ?_⟩, ?_, ?_⟩
    · rw [settle_carriage, carriage]
    · rw [settle_keyboard, keyboard]
    · rw [settle_tones, tones]
    · rw [settle_arbiter]
      exact arbiter
    · rw [settle_rings, rings]
    · rw [settle_status, status]
    · rw [settle_attention, attention]
    · exact (settle_changesOnly _).after (by decide) (frame.mono (by decide))
    · exact onlySettles_of_settle switch (frame .flow (by decide)) (frame .transmitter (by decide))
  · have idle : ¬ (s.translator = .feedWait ∧ printRoom s = true ∧ placeFallsTo .feed s = true) := by
      rw [printRoom_iff, ← Bool.not_eq_false]
      rcases waits with other | full | kept
      · exact fun h => other h.1
      · exact fun h => absurd h.2.1 (Nat.not_lt.2 full)
      · exact fun h => h.2.2 kept
    simp only [exec, execFeedAppend, if_neg idle]

end Sys2Proof.Machine

namespace Sys2Proof.Machine

/-! ## What the local functions do (R41 to R46) -/

section
variable (s : State)

/-- R4, R5: a preset gives each sending row its cells, and the row of a running answerback is deferred. -/
theorem applyPreset_switch (p : Preset) :
    (applyPreset p s).switch = rowsPreset p.keyboardRow.lineOut p.keyboardRow.print s.answerback.running s.switch := by
  have rows : p.keyboardRow = ⟨p.keyboardRow.lineOut, p.keyboardRow.print, true⟩ ∧ p.lineInRow = ⟨false, true, true⟩ ∧
      p.sendRow = ⟨p.keyboardRow.lineOut, p.keyboardRow.print, false⟩ := by
    cases p <;> exact ⟨rfl, rfl, rfl⟩
  cases running : s.answerback.running <;> simpa [applyPreset, setRow, running, rowsPreset] using rows

/-- R80, R81: what a CHIRP does with the sounder. -/
theorem requestChirp_tones : (requestSound .chirp s).tones = tonesAfterChirp s := by
  unfold requestSound tonesAfterChirp
  rcases s.tones.request with _ | (_ | _ | _) <;> rfl

/-- R50: the Line Receiver, the transmitter and the line voice after an entry to LISTEN. -/
theorem enterListen_blocks :
    (enterListen s).receiver = { s.receiver with
      line := .listen, carrier := false, history := List.replicate 128 0, window := .acquisition, energy := 0
      listenTimer := some (s.receiver.listenCode * 5000) } ∧
    (enterListen s).transmitter = (if s.receiver.channel = .answer then
      { s.transmitter with state := .markIdle, bitClock := some 0, boundaryDue := false } else s.transmitter) ∧
    (enterListen s).tones = (if s.receiver.channel = .answer then
      { s.tones with line := { s.tones.line with sounding := true, accumulator := 0, increment := 2532 } }
      else s.tones) := by
  unfold enterListen
  cases channel : s.receiver.channel with
  | originate => exact ⟨rfl, rfl, rfl⟩
  | answer => simp [startTransmitter, channel, Voice.start, lineIncrement, Config.historyLength, listenPeriod]

/-! ### The entry to IDLE, block by block (R57, R93, R103, R113) -/

/-- R93: the entry ends a SEND-BREAK whose break is pending or under way. -/
theorem cutBreak_blocks :
    (cutBreak s).command = (if cutsCommandBreak s then { s.command with result := .refusedState, running := none }
      else s.command) ∧
    (cutBreak s).attention = { s.attention with
      flags := s.attention.flags ||| flagIf (cutsCommandBreak s) .commandEnd } := by
  unfold cutBreak cutsCommandBreak
  by_cases busy : s.transmitter.breakBusy = true ∧ s.transmitter.breakByCommand = true
  · obtain ⟨pending, asked⟩ := busy
    rcases endCommand_cases .sendBreak .refusedState s with ⟨runs, h⟩ | ⟨other, h⟩
    · simp [pending, asked, runs, h, raise, flagIf]
    · simp [pending, asked, other, h]
  · have uncut : (s.transmitter.breakBusy && s.transmitter.breakByCommand) = false := by
      rw [Bool.eq_false_iff, Ne, Bool.and_eq_true]
      exact busy
    simp [busy, uncut]

/-- R93: a character in the holding slot is discarded. -/
theorem discardSlot_blocks :
    (discardSlot s).status = { s.status with txDiscarded := s.status.txDiscarded || discardsCharacter s } ∧
    (discardSlot s).attention = { s.attention with
      flags := s.attention.flags ||| flagIf (discardsCharacter s && !s.status.txDiscarded) .loss } := by
  unfold discardSlot discardsCharacter
  cases s.transmitter.slot with
  | character code => simp [setTxDiscarded_eq]
  | empty | flow kind code => simp

/-- R113: an answerback that holds LINE-OUT is aborted. -/
theorem answerbackAtIdle_blocks :
    (answerbackAtIdle s).answerback = (if abortsAnswerback s then
      { s.answerback with running := false, prefetched := none, lastResult := .aborted } else s.answerback) ∧
    (answerbackAtIdle s).arbiter = (if abortsAnswerback s then arbiterAfterAbort s else s.arbiter) ∧
    (answerbackAtIdle s).switch = (if abortsAnswerback s then
      { s.switch with answerback := s.switch.deferred.getD s.switch.answerback, deferred := none } else s.switch) ∧
    (answerbackAtIdle s).attention = { s.attention with
      flags := s.attention.flags ||| flagIf (abortsAnswerback s) .answerbackEnd } := by
  have aborts := abortAnswerback_blocks s
  unfold answerbackAtIdle abortsAnswerback
  cases s.switch.answerback.lineOut with
  | true => simpa using aborts
  | false => simp

/-- R57: the entry to IDLE, block by block. -/
theorem enterIdle_blocks :
    (enterIdle s).receiver = idleReceiver s ∧ (enterIdle s).transmitter = idleTransmitter s ∧
    (enterIdle s).tones = idleTones s ∧ (enterIdle s).flow = idleFlow s ∧
    (enterIdle s).status = { s.status with txDiscarded := s.status.txDiscarded || discardsCharacter s } ∧
    (enterIdle s).attention = { s.attention with flags := s.attention.flags ||| idleRequests s } ∧
    (enterIdle s).command = (if cutsCommandBreak s then { s.command with result := .refusedState, running := none }
      else s.command) ∧
    (enterIdle s).answerback = (if abortsAnswerback s then
      { s.answerback with running := false, prefetched := none, lastResult := .aborted } else s.answerback) ∧
    (enterIdle s).arbiter = (if abortsAnswerback s then arbiterAfterAbort s else s.arbiter) ∧
    (enterIdle s).switch = (if abortsAnswerback s then
      { s.switch with answerback := s.switch.deferred.getD s.switch.answerback, deferred := none } else s.switch) := by
  let r := receiverToIdle s
  let c := cutBreak r
  let d := discardSlot c
  let f := flowToIdle (transmitterToOff r)
  obtain ⟨cCommand, cAttention⟩ := cutBreak_blocks r
  obtain ⟨dStatus, dAttention⟩ := discardSlot_blocks c
  obtain ⟨answerback, arbiter, switch, attention⟩ := answerbackAtIdle_blocks f
  have toC : changesOnly [.command, .attention] r c := cutBreak_frame r
  have toD : changesOnly [.status, .attention] c d := discardSlot_frame c
  have toF : changesOnly [.transmitter, .tones, .flow] d f := (flowToIdle_frame _).after (by decide)
    ((onTones_frame _ _).after (by decide) ((onTransmitter_frame d _).mono (by decide)))
  have toA : changesOnly [.answerback, .arbiter, .attention, .switch] f (enterIdle s) := answerbackAtIdle_frame f
  have early : changesOnly [.command, .status, .attention] r d := toD.after (by decide) (toC.mono (by decide))
  have late : changesOnly [.transmitter, .tones, .flow, .command, .status, .attention] r f :=
    toF.after (by decide) (early.mono (by decide))
  have slot : c.transmitter = s.transmitter := toC .transmitter (by decide)
  have sent : c.status = s.status := toC .status (by decide)
  have discards : discardsCharacter c = discardsCharacter s := by unfold discardsCharacter; rw [slot]
  have aborts : abortsAnswerback f = abortsAnswerback s := by
    unfold abortsAnswerback
    rw [show f.answerback = s.answerback from late .answerback (by decide),
      show f.switch = s.switch from late .switch (by decide)]
  have cuts : cutsCommandBreak r = cutsCommandBreak s := rfl
  refine ⟨?_, ?_, ?_, ?_, ?_, ?_, ?_, ?_, ?_, ?_⟩
  · exact (toA .receiver (by decide)).trans (late .receiver (by decide))
  · rw [toA .transmitter (by decide), idleTransmitter,
      ← show d.transmitter = s.transmitter from early .transmitter (by decide)]
    rfl
  · rw [toA .tones (by decide), idleTones, ← show d.tones = s.tones from early .tones (by decide)]
    rfl
  · rw [toA .flow (by decide), idleFlow, ← show d.flow = s.flow from early .flow (by decide)]
    rfl
  · rw [toA .status (by decide), show f.status = d.status from toF .status (by decide), dStatus, discards, sent]
  · rw [show (enterIdle s).attention = _ from attention, aborts, show f.attention = d.attention from
      toF .attention (by decide), dAttention, cAttention, discards, sent, cuts, idleRequests]
    have order : ∀ a b c d : BitVec 10, a ||| b ||| c ||| d = a ||| (c ||| d ||| b) := fun a b c d => by
      rw [BitVec.or_assoc, BitVec.or_assoc, BitVec.or_comm b]
    rw [order]
    rfl
  · rw [toA .command (by decide), toF .command (by decide), toD .command (by decide), cCommand, cuts]
    rfl
  · rw [show (enterIdle s).answerback = _ from answerback, aborts,
      show f.answerback = s.answerback from late .answerback (by decide)]
  · rw [show (enterIdle s).arbiter = _ from arbiter, aborts, arbiterAfterAbort, arbiterAfterAbort,
      show f.arbiter = s.arbiter from late .arbiter (by decide)]
  · rw [show (enterIdle s).switch = _ from switch, aborts, show f.switch = s.switch from late .switch (by decide)]

end

end Sys2Proof.Machine

namespace Sys2Proof.Machine

/-! ### What each local function does (R42 to R46) -/

/-- Two states that agree on every block are the same. -/
theorem eq_of_changesOnly_nil {s t : State} (h : changesOnly [] s t) : t = s := by
  have agree := fun b => h b List.not_mem_nil
  cases s
  cases t
  rw [State.mk.injEq]
  exact ⟨agree .passage, agree .status, agree .pins, agree .arbiter, agree .switch, agree .rings, agree .keyboard,
    agree .translator, agree .receiver, agree .transmitter, agree .tones, agree .flow, agree .answerback,
    agree .carriage, agree .dot, agree .sensor, agree .command, agree .attention, agree .pending⟩

/-- R41: the state in which a local function acts: the translation grant has ended and the record has been offered. -/
def functionRecorded (cycles : List MemCycle) (code : Byte) (s : State) : State :=
  let joined := joinedRing s.switch.keyboard s
  { s with
    rings := ringsAfterOffer joined (plainRecord .keyboardFunction code) s
    arbiter := { s.arbiter with
      grant := none, receiveWriter := waitAfterRequest (joined && recordFits s) .receiveWriter s }
    status := { s.status with ringLoss := s.status.ringLoss || losesRecord joined s }
    attention := { s.attention with
      flags := s.attention.flags ||| flagIf (losesRecord joined s && !s.status.ringLoss) .loss }
    pins := { s.pins with memory := cycles } }

/-- R172: the end of a translation grant matters to no other requester's request. -/
theorem waitAfterRequest_ended {s : State} {address : Addr} {discard : Bool} {r : Requester} {cycles : List MemCycle}
    (grant : s.arbiter.grant = some (.translation address discard)) (other : r ≠ .keymap) (requested : Bool) :
    waitAfterRequest requested r (grantEnded cycles s) = waitAfterRequest requested r s := by
  unfold waitAfterRequest grantLive
  rw [grant]
  cases r with
  | keymap => exact absurd rfl other
  | _ => rfl

theorem recordFunction_grantEnded {s : State} {address : Addr} {discard : Bool}
    (grant : s.arbiter.grant = some (.translation address discard)) (cycles : List MemCycle) (code : Byte) :
    recordFunction code (grantEnded cycles s) = functionRecorded cycles code s := by
  obtain ⟨rings, arbiter, status, attention, frame⟩ := offerIf_blocks (grantEnded cycles s)
    (joinedRing s.switch.keyboard s) (plainRecord .keyboardFunction code)
    (t := recordFunction code (grantEnded cycles s)) rfl
  have pins : (recordFunction code (grantEnded cycles s)).pins = _ := frame .pins (by decide)
  refine eq_of_changesOnly_nil fun b _ => ?_
  have kept := frame b
  cases b with
  | rings => exact rings
  | arbiter =>
    refine arbiter.trans ?_
    rw [waitAfterRequest_ended grant (by decide)]
    rfl
  | status => exact status
  | attention => exact attention
  | pins => exact pins
  | _ => exact kept (by decide)

/-- R43: the function of the code asks for the first byte of the answerback. -/
def functionAsksRead (code : Byte) (s : State) : Bool :=
  decide (code = 0x82#8 ∧ s.answerback.running = false ∧ s.answerback.length ≠ 0)

/-- R41 to R46: what the local function of `code` changes and leaves unchanged in `s`, where its record has been
offered: an entry to IDLE for LINE/LOCAL, and the units that are no function's own. -/
structure FunctionKeeps (code : Byte) (s v : State) : Prop where
  status : v.status = { s.status with
    txDiscarded := s.status.txDiscarded || (goesLocal code s && discardsCharacter s) }
  attention : v.attention = { s.attention with
    flags := s.attention.flags ||| (if goesLocal code s then idleRequests s ||| flagIf true .line else 0)
    lineCause := if goesLocal code s then .operatorOff else s.attention.lineCause
    severalChanges := s.attention.severalChanges || (goesLocal code s && s.attention.flags.getLsbD 0) }
  command : v.command = (if goesLocal code s && cutsCommandBreak s then
    { s.command with result := .refusedState, running := none } else s.command)
  flow : v.flow = (if goesLocal code s then idleFlow s else s.flow)
  receiver : code ≠ 0x81#8 → v.receiver = s.receiver
  switch : v.switch = switchAfterFunction code s
  transmitter : v.transmitter = transmitterAfterFunction code s
  answerback : code ≠ 0x82#8 → v.answerback = (if goesLocal code s && abortsAnswerback s then
    { s.answerback with running := false, prefetched := none, lastResult := .aborted } else s.answerback)
  arbiter : v.arbiter = { s.arbiter with
    answerback := if goesLocal code s && abortsAnswerback s then .absent
      else waitAfterRequest (functionAsksRead code s) .answerback s }
  keyboard : v.keyboard = { s.keyboard with click := v.keyboard.click, onlinePreset := v.keyboard.onlinePreset }
  preset : code ≠ 0x87#8 → v.keyboard.onlinePreset = s.keyboard.onlinePreset
  click : code ≠ 0x88#8 → v.keyboard.click = s.keyboard.click
  carriage : code ≠ 0x83#8 ∧ code ≠ 0x84#8 ∧ code ≠ 0x85#8 → v.carriage = s.carriage
  frame : changesOnly [.status, .attention, .command, .flow, .receiver, .switch, .transmitter, .answerback, .arbiter,
    .keyboard, .carriage, .tones] s v

/-- R42 to R46: what the local function of `code` does in `s`, with its own effect. -/
structure FunctionActs (code : Byte) (s v : State) : Prop extends FunctionKeeps code s v where
  onBreak : code = 0x80#8 →
    if (s.receiver.line = .data ∨ s.receiver.line = .fade) ∧ s.transmitter.breakBusy = false then
      v.transmitter.breakPending = true ∧ v.transmitter.breakByCommand = false ∧ v.tones = s.tones
    else v.transmitter.breakPending = s.transmitter.breakPending ∧ v.tones = tonesAfterChirp s := by
    exact fun code => absurd code (by decide)
  onLineLocal : code = 0x81#8 →
    if s.receiver.line = .idle then
      v.receiver = { s.receiver with
        line := .listen, carrier := false, history := List.replicate 128 0, window := .acquisition, energy := 0
        listenTimer := some (s.receiver.listenCode * 5000) } ∧
      v.tones = (if s.receiver.channel = .answer then
          { s.tones with line := { s.tones.line with sounding := true, accumulator := 0, increment := 2532 } }
        else s.tones)
    else v.receiver = idleReceiver s ∧ v.tones = idleTones s := by
    exact fun code => absurd code (by decide)
  onHereIs : code = 0x82#8 →
    if s.answerback.running = false ∧ s.answerback.length ≠ 0 then
      v.answerback = { s.answerback with
        running := true, pointer := s.answerback.base, remaining := s.answerback.length, prefetched := none
        lastResult := .noResult } ∧ v.tones = s.tones
    else v.answerback = s.answerback ∧ v.tones = tonesAfterChirp s := by
    exact fun code => absurd code (by decide)
  onTabSet : code = 0x83#8 →
    match s.carriage.position with
    | some cell =>
      if 1 ≤ cell ∧ cell ≤ 79 ∧ (cell ∈ s.carriage.tabStops ∨ s.carriage.tabStops.length < 16) then
        v.carriage = { s.carriage with tabStops := insertStop cell s.carriage.tabStops } ∧ v.tones = s.tones
      else v.carriage = s.carriage ∧ v.tones = tonesAfterChirp s
    | none => v.carriage = s.carriage ∧ v.tones = tonesAfterChirp s := by
    exact fun code => absurd code (by decide)
  onTabClear : code = 0x84#8 →
    v.tones = s.tones ∧
    match s.carriage.position with
    | some cell => v.carriage = { s.carriage with tabStops := s.carriage.tabStops.filter (· ≠ cell) }
    | none => v.carriage = s.carriage := by
    exact fun code => absurd code (by decide)
  onTabClearAll : code = 0x85#8 → v.carriage = { s.carriage with tabStops := [] } ∧ v.tones = s.tones := by
    exact fun code => absurd code (by decide)
  onDuplex : code = 0x87#8 →
    v.keyboard.onlinePreset = (if s.keyboard.onlinePreset = .full then .half else .full) ∧ v.tones = s.tones := by
    exact fun code => absurd code (by decide)
  onClick : code = 0x88#8 → v.keyboard.click = !s.keyboard.click ∧ v.tones = s.tones := by
    exact fun code => absurd code (by decide)

section
variable {code : Byte} {s v : State}

theorem goesLocal_of_ne (key : code ≠ 0x81#8) : goesLocal code s = false := by simp [goesLocal, key]

theorem switchAfterFunction_of_ne (key : code ≠ 0x81#8) (other : code ≠ 0x87#8) :
    switchAfterFunction code s = s.switch := by
  simp [switchAfterFunction, goesLocal_of_ne key, key, other]

theorem transmitterAfterFunction_of_ne (key : code ≠ 0x81#8) (other : code ≠ 0x80#8) :
    transmitterAfterFunction code s = s.transmitter := by
  simp [transmitterAfterFunction, goesLocal_of_ne key, key, other]

theorem functionAsksRead_of_ne (key : code ≠ 0x82#8) : functionAsksRead code s = false := by
  simp [functionAsksRead, key]

theorem waitAfterRequest_false (r : Requester) : waitAfterRequest false r s = s.arbiter.wait r :=
  if_neg fun asked => Bool.false_ne_true asked.1

/-- R42: every function but LINE/LOCAL leaves alone what an entry to IDLE would change. -/
theorem line_blocks_of_key (key : code ≠ 0x81#8)
    (frame : changesOnly [.switch, .transmitter, .answerback, .arbiter, .keyboard, .carriage, .tones] s v) :
    v.status = { s.status with
      txDiscarded := s.status.txDiscarded || (goesLocal code s && discardsCharacter s) } ∧
    v.attention = { s.attention with
      flags := s.attention.flags ||| (if goesLocal code s then idleRequests s ||| flagIf true .line else 0)
      lineCause := if goesLocal code s then .operatorOff else s.attention.lineCause
      severalChanges := s.attention.severalChanges || (goesLocal code s && s.attention.flags.getLsbD 0) } ∧
    v.command = (if goesLocal code s && cutsCommandBreak s then
      { s.command with result := .refusedState, running := none } else s.command) ∧
    v.flow = (if goesLocal code s then idleFlow s else s.flow) ∧ v.receiver = s.receiver := by
  rw [goesLocal_of_ne key, show v.status = s.status from frame .status (by decide),
    show v.attention = s.attention from frame .attention (by decide),
    show v.command = s.command from frame .command (by decide), show v.flow = s.flow from frame .flow (by decide)]
  refine ⟨?_, ?_, rfl, rfl, frame .receiver (by decide)⟩
  · simp
  · simp

/-- R42: what every function but LINE/LOCAL keeps, from the units that it may touch. -/
theorem FunctionKeeps.of_key (key : code ≠ 0x81#8)
    (frame : changesOnly [.switch, .transmitter, .answerback, .arbiter, .keyboard, .carriage, .tones] s v)
    (switch : v.switch = switchAfterFunction code s) (transmitter : v.transmitter = transmitterAfterFunction code s)
    (answerback : code ≠ 0x82#8 → v.answerback = s.answerback)
    (arbiter : v.arbiter = { s.arbiter with
      answerback := waitAfterRequest (functionAsksRead code s) .answerback s })
    (keyboard : v.keyboard = { s.keyboard with click := v.keyboard.click, onlinePreset := v.keyboard.onlinePreset })
    (preset : code ≠ 0x87#8 → v.keyboard.onlinePreset = s.keyboard.onlinePreset)
    (click : code ≠ 0x88#8 → v.keyboard.click = s.keyboard.click)
    (carriage : code ≠ 0x83#8 ∧ code ≠ 0x84#8 ∧ code ≠ 0x85#8 → v.carriage = s.carriage) :
    FunctionKeeps code s v := by
  have leaves : goesLocal code s = false := goesLocal_of_ne key
  obtain ⟨status, attention, command, flow, receiver⟩ := line_blocks_of_key key frame
  refine {
    status, attention, command, flow, switch, transmitter, keyboard, preset, click, carriage
    receiver := fun _ => receiver
    answerback := fun other => by rw [leaves]; exact answerback other
    arbiter := by rw [leaves]; exact arbiter
    frame := frame.mono (by decide) }

/-- R42, R44: what a function of the carriage and the sounder alone keeps. -/
theorem FunctionKeeps.of_tab (tab : code = 0x83#8 ∨ code = 0x84#8 ∨ code = 0x85#8)
    (frame : changesOnly [.carriage, .tones] s v) : FunctionKeeps code s v := by
  have other : code ≠ 0x80#8 ∧ code ≠ 0x81#8 ∧ code ≠ 0x82#8 ∧ code ≠ 0x87#8 := by
    rcases tab with rfl | rfl | rfl <;> decide
  obtain ⟨notBreak, notLocal, notHereIs, notDuplex⟩ := other
  have keyboard : v.keyboard = s.keyboard := frame .keyboard (by decide)
  refine .of_key notLocal (frame.mono (by decide)) ?_ ?_ (fun _ => frame .answerback (by decide)) ?_
    (by rw [keyboard]) (fun _ => by rw [keyboard]) (fun _ => by rw [keyboard]) fun ⟨set, clear, all⟩ => ?_
  · rw [switchAfterFunction_of_ne notLocal notDuplex, show v.switch = s.switch from frame .switch (by decide)]
  · rw [transmitterAfterFunction_of_ne notLocal notBreak,
      show v.transmitter = s.transmitter from frame .transmitter (by decide)]
  · rw [functionAsksRead_of_ne notHereIs, waitAfterRequest_false,
      show v.arbiter = s.arbiter from frame .arbiter (by decide)]
    rfl
  · rcases tab with h | h | h
    · exact absurd h set
    · exact absurd h clear
    · exact absurd h all

end

section
variable (s : State)

/-- R187: a source other than LINE does not touch the LINE bit. -/
theorem flagIf_line {source : AttentionSource} (other : source ≠ .line) (b : Bool) :
    (flagIf b source).getLsbD 0 = false := by
  cases b
  · exact BitVec.getLsbD_zero
  · rw [flagIf, if_pos rfl]
    cases source with
    | line => exact absurd rfl other
    | _ => rfl

theorem idleRequests_line : (idleRequests s)[0] = false := by
  rw [← BitVec.getLsbD_eq_getElem, idleRequests, BitVec.getLsbD_or, BitVec.getLsbD_or, flagIf_line (by decide),
    flagIf_line (by decide), flagIf_line (by decide)]
  rfl

/-- R42: BREAK. -/
theorem breakFunction_acts : FunctionActs 0x80#8 s (breakFunction s) := by
  have frame := breakFunction_frame s
  have keyboard : (breakFunction s).keyboard = s.keyboard := frame .keyboard (by decide)
  have common : (breakFunction s).transmitter = transmitterAfterFunction 0x80#8 s ∧
      if (s.receiver.line = .data ∨ s.receiver.line = .fade) ∧ s.transmitter.breakBusy = false then
        (breakFunction s).transmitter.breakPending = true ∧ (breakFunction s).transmitter.breakByCommand = false ∧
          (breakFunction s).tones = s.tones
      else (breakFunction s).transmitter.breakPending = s.transmitter.breakPending ∧
        (breakFunction s).tones = tonesAfterChirp s := by
    by_cases taken : (s.receiver.line = .data ∨ s.receiver.line = .fade) ∧ s.transmitter.breakBusy = false
    · have asks : breakFunction s = requestBreak false s :=
        if_pos (by simp [judgeBreak, LineState.onCall_iff, taken])
      rw [if_pos taken, asks, requestBreak]
      simp [transmitterAfterFunction, goesLocal, taken]
    · have chirps : breakFunction s = requestSound .chirp s := if_neg fun judged => taken (by
        unfold judgeBreak at judged
        grind [LineState.onCall_iff])
      have kept : (requestSound .chirp s).transmitter = s.transmitter :=
        requestSound_frame .chirp s .transmitter (by decide)
      rw [if_neg taken, chirps, requestChirp_tones, kept]
      simp [transmitterAfterFunction, goesLocal, taken]
  obtain ⟨transmitter, sends⟩ := common
  exact {
    toFunctionKeeps := .of_key (by decide) (frame.mono (by decide))
      ((frame .switch (by decide)).trans (switchAfterFunction_of_ne (by decide) (by decide)).symm) transmitter
      (fun _ => frame .answerback (by decide)) (frame .arbiter (by decide)) (by rw [keyboard])
      (fun _ => by rw [keyboard]) (fun _ => by rw [keyboard]) (fun _ => frame .carriage (by decide))
    onBreak := fun _ => sends }

/-- R42: LINE/LOCAL. -/
theorem lineLocalFunction_acts (free : s.arbiter.grant = none) : FunctionActs 0x81#8 s (lineLocalFunction s) := by
  have frame := lineLocalFunction_frame s
  have keyboard : (lineLocalFunction s).keyboard = s.keyboard := frame .keyboard (by decide)
  by_cases idle : s.receiver.line = .idle
  · have acts : lineLocalFunction s = applyPreset s.keyboard.onlinePreset.toPreset (enterListen s) := if_pos idle
    have leaves : goesLocal 0x81#8 s = false := by simp [goesLocal, idle]
    have asks : functionAsksRead 0x81#8 s = false := functionAsksRead_of_ne (by decide)
    have toListen := enterListen_frame s
    have toPreset : changesOnly [.switch] (enterListen s) (lineLocalFunction s) := acts ▸ applyPreset_frame _ _
    have all : changesOnly [.switch, .receiver, .transmitter, .tones] s (lineLocalFunction s) :=
      toPreset.after (by decide) (toListen.mono (by decide))
    obtain ⟨receiver, transmitter, tones⟩ := enterListen_blocks s
    have status : (lineLocalFunction s).status = s.status := all .status (by decide)
    have attention : (lineLocalFunction s).attention = s.attention := all .attention (by decide)
    have arbiter : (lineLocalFunction s).arbiter = s.arbiter := all .arbiter (by decide)
    refine {
      frame := frame.mono (by decide)
      status := by rw [status, leaves]; simp
      attention := by rw [attention, leaves]; simp
      command := by rw [leaves]; exact all .command (by decide)
      flow := by rw [leaves]; exact all .flow (by decide)
      receiver := fun other => absurd rfl other
      switch := ?_
      transmitter := ?_
      answerback := fun _ => by rw [leaves]; exact all .answerback (by decide)
      arbiter := by rw [arbiter, leaves, asks, waitAfterRequest_false]; rfl
      keyboard := by rw [keyboard]
      preset := fun _ => by rw [keyboard]
      click := fun _ => by rw [keyboard]
      carriage := fun _ => frame .carriage (by decide)
      onLineLocal := fun _ => ?_ }
    · rw [acts, applyPreset_switch, show (enterListen s).switch = s.switch from toListen .switch (by decide),
        show (enterListen s).answerback = s.answerback from toListen .answerback (by decide)]
      cases preset : s.keyboard.onlinePreset <;>
        simp [switchAfterFunction, leaves, preset, OnlinePreset.toPreset, Preset.keyboardRow]
    · rw [show (lineLocalFunction s).transmitter = _ from toPreset .transmitter (by decide), transmitter]
      simp [transmitterAfterFunction, leaves]
    · rw [if_pos idle, show (lineLocalFunction s).receiver = _ from toPreset .receiver (by decide), receiver,
        show (lineLocalFunction s).tones = _ from toPreset .tones (by decide), tones]
      exact ⟨rfl, rfl⟩
  · have acts : lineLocalFunction s = applyPreset .localMode (raiseLine .operatorOff (enterIdle s)) := if_neg idle
    have leaves : goesLocal 0x81#8 s = true := by simp [goesLocal, idle]
    have asks : functionAsksRead 0x81#8 s = false := functionAsksRead_of_ne (by decide)
    have toRaise := raiseLine_frame .operatorOff (enterIdle s)
    have toPreset : changesOnly [.switch] (raiseLine .operatorOff (enterIdle s)) (lineLocalFunction s) :=
      acts ▸ applyPreset_frame _ _
    have late : changesOnly [.switch, .attention] (enterIdle s) (lineLocalFunction s) :=
      toPreset.after (by decide) (toRaise.mono (by decide))
    obtain ⟨receiver, transmitter, tones, flow, status, attention, command, answerback, arbiter, switch⟩ :=
      enterIdle_blocks s
    refine {
      frame := frame.mono (by decide)
      status := ?_
      attention := ?_
      command := by rw [leaves]; exact (late .command (by decide)).trans command
      flow := by rw [leaves]; exact (late .flow (by decide)).trans flow
      receiver := fun other => absurd rfl other
      switch := ?_
      transmitter := ?_
      answerback := fun _ => by rw [leaves]; exact (late .answerback (by decide)).trans answerback
      arbiter := ?_
      keyboard := by rw [keyboard]
      preset := fun _ => by rw [keyboard]
      click := fun _ => by rw [keyboard]
      carriage := fun _ => frame .carriage (by decide)
      onLineLocal := fun _ => ?_ }
    · rw [leaves]
      exact (late .status (by decide)).trans status
    · rw [leaves, show (lineLocalFunction s).attention = _ from toPreset .attention (by decide)]
      simp [raiseLine, attention, BitVec.or_assoc, flagIf, idleRequests_line, AttentionSource.bit]
    · rw [acts, applyPreset_switch, show (raiseLine .operatorOff (enterIdle s)).switch = _ from
        toRaise .switch (by decide), show (raiseLine .operatorOff (enterIdle s)).answerback = _ from
        toRaise .answerback (by decide), switch, answerback, switchAfterFunction, leaves]
      cases abortsAnswerback s <;> rfl
    · rw [show (lineLocalFunction s).transmitter = _ from late .transmitter (by decide), transmitter,
        transmitterAfterFunction, leaves]
      rfl
    · rw [show (lineLocalFunction s).arbiter = _ from late .arbiter (by decide), arbiter, leaves, asks,
        waitAfterRequest_false]
      cases abortsAnswerback s
      · rfl
      · simp [arbiterAfterAbort, free]
    · rw [if_neg idle, show (lineLocalFunction s).receiver = _ from late .receiver (by decide), receiver,
        show (lineLocalFunction s).tones = _ from late .tones (by decide), tones]
      exact ⟨rfl, rfl⟩

/-- R43: HERE-IS. -/
theorem hereIsFunction_acts : FunctionActs 0x82#8 s (hereIsFunction s) := by
  have frame := hereIsFunction_frame s
  have keyboard : (hereIsFunction s).keyboard = s.keyboard := frame .keyboard (by decide)
  have common : (hereIsFunction s).arbiter = { s.arbiter with
        answerback := waitAfterRequest (functionAsksRead 0x82#8 s) .answerback s } ∧
      if s.answerback.running = false ∧ s.answerback.length ≠ 0 then
        (hereIsFunction s).answerback = { s.answerback with
          running := true, pointer := s.answerback.base, remaining := s.answerback.length, prefetched := none
          lastResult := .noResult } ∧ (hereIsFunction s).tones = s.tones
      else (hereIsFunction s).answerback = s.answerback ∧ (hereIsFunction s).tones = tonesAfterChirp s := by
    by_cases startable : s.answerback.running = false ∧ s.answerback.length ≠ 0
    · have taken : judgeTrigger s = .taken := by simp [judgeTrigger, startable]
      have asks : functionAsksRead 0x82#8 s = true := by simp [functionAsksRead, startable]
      let started := s.onAnswerback fun a =>
        { a with running := true, pointer := a.base, remaining := a.length, prefetched := none, lastResult := .noResult }
      have starts : hereIsFunction s = requestAnswerbackRead started := by
        rw [hereIsFunction, if_pos taken, triggerAnswerback, if_pos taken]
      have asked := requestAnswerbackRead_frame started
      rw [if_pos startable, starts, asks, requestAnswerbackRead_arbiter]
      refine ⟨?_, asked .answerback (by decide), asked .tones (by decide)⟩
      simp [started, waitAfterRequest, grantLive, Nat.pos_iff_ne_zero, startable.2]
    · have refused : ¬ judgeTrigger s = .taken := fun taken => startable (by
        unfold judgeTrigger at taken
        grind)
      have asks : functionAsksRead 0x82#8 s = false := by simpa [functionAsksRead] using startable
      have chirps : hereIsFunction s = requestSound .chirp s := if_neg refused
      have sounds := requestSound_frame .chirp s
      rw [if_neg startable, chirps, asks, waitAfterRequest_false, requestChirp_tones]
      exact ⟨sounds .arbiter (by decide), sounds .answerback (by decide), rfl⟩
  obtain ⟨arbiter, sends⟩ := common
  exact {
    toFunctionKeeps := .of_key (by decide) (frame.mono (by decide))
      ((frame .switch (by decide)).trans (switchAfterFunction_of_ne (by decide) (by decide)).symm)
      ((frame .transmitter (by decide)).trans (transmitterAfterFunction_of_ne (by decide) (by decide)).symm)
      (fun other => absurd rfl other) arbiter (by rw [keyboard]) (fun _ => by rw [keyboard])
      (fun _ => by rw [keyboard]) (fun _ => frame .carriage (by decide))
    onHereIs := fun _ => sends }

/-- R44: what TAB SET does. -/
theorem tabSetFunction_blocks :
    match s.carriage.position with
    | some cell =>
      if 1 ≤ cell ∧ cell ≤ 79 ∧ (cell ∈ s.carriage.tabStops ∨ s.carriage.tabStops.length < 16) then
        (tabSetFunction s).carriage = { s.carriage with tabStops := insertStop cell s.carriage.tabStops } ∧
          (tabSetFunction s).tones = s.tones
      else (tabSetFunction s).carriage = s.carriage ∧ (tabSetFunction s).tones = tonesAfterChirp s
    | none => (tabSetFunction s).carriage = s.carriage ∧ (tabSetFunction s).tones = tonesAfterChirp s := by
  have refused : (requestSound .chirp s).carriage = s.carriage ∧ (requestSound .chirp s).tones = tonesAfterChirp s :=
    ⟨requestSound_frame .chirp s .carriage (by decide), requestChirp_tones s⟩
  unfold tabSetFunction
  cases s.carriage.position with
  | none => exact refused
  | some cell =>
    have may : (isTabCell cell && stopFits cell s) = true ↔
        1 ≤ cell ∧ cell ≤ 79 ∧ (cell ∈ s.carriage.tabStops ∨ s.carriage.tabStops.length < 16) := by
      grind [isTabCell, stopFits, Config.tabStopCapacity]
    simp only [may]
    split
    · exact ⟨rfl, rfl⟩
    · exact refused

/-- R44: TAB SET. -/
theorem tabSetFunction_acts : FunctionActs 0x83#8 s (tabSetFunction s) where
  toFunctionKeeps := .of_tab (.inl rfl) ((tabSetFunction_frame s).mono (by decide))
  onTabSet := fun _ => tabSetFunction_blocks s

/-- R44: TAB CLEAR. -/
theorem tabClearFunction_acts : FunctionActs 0x84#8 s (tabClearFunction s) where
  toFunctionKeeps := .of_tab (.inr (.inl rfl)) ((tabClearFunction_frame s).mono (by decide))
  onTabClear := fun _ => by
    refine ⟨tabClearFunction_frame s .tones (by decide), ?_⟩
    unfold tabClearFunction
    cases s.carriage.position with
    | none => rfl
    | some cell => rfl

/-- R44: TAB CLEAR ALL. -/
theorem clearStops_acts : FunctionActs 0x85#8 s (clearStops s) where
  toFunctionKeeps := .of_tab (.inr (.inr rfl)) ((onCarriage_frame s _).mono (by decide))
  onTabClearAll := fun _ => ⟨rfl, rfl⟩

/-- R46: CLICK. -/
theorem clickFunction_acts : FunctionActs 0x88#8 s (clickFunction s) where
  toFunctionKeeps := .of_key (by decide) ((onKeyboard_frame s _).mono (by decide))
    (switchAfterFunction_of_ne (by decide) (by decide)).symm
    (transmitterAfterFunction_of_ne (by decide) (by decide)).symm (fun _ => rfl) rfl rfl (fun _ => rfl)
    (fun other => absurd rfl other) (fun _ => rfl)
  onClick := fun _ => ⟨rfl, rfl⟩

/-- R46: DUPLEX. -/
theorem duplexFunction_acts : FunctionActs 0x87#8 s (duplexFunction s) := by
  have frame := duplexFunction_frame s
  let toggled := s.onKeyboard fun k => { k with onlinePreset := s.keyboard.onlinePreset.toggle }
  have keyboard : (duplexFunction s).keyboard =
      { s.keyboard with onlinePreset := s.keyboard.onlinePreset.toggle } := by
    unfold duplexFunction
    split
    · exact applyPreset_frame _ toggled .keyboard (by decide)
    · rfl
  have switch : (duplexFunction s).switch = switchAfterFunction 0x87#8 s := by
    have acts : duplexFunction s = if s.receiver.line = .data ∨ s.receiver.line = .fade then
        applyPreset s.keyboard.onlinePreset.toggle.toPreset toggled else toggled := by
      simp only [duplexFunction, LineState.onCall_iff]
      rfl
    have rows : (applyPreset s.keyboard.onlinePreset.toggle.toPreset toggled).switch =
        rowsPreset true (!decide (s.keyboard.onlinePreset = .half)) s.answerback.running s.switch := by
      rw [applyPreset_switch]
      cases s.keyboard.onlinePreset <;> rfl
    have leaves : goesLocal 0x87#8 s = false := goesLocal_of_ne (by decide)
    rw [acts, switchAfterFunction, leaves]
    by_cases call : s.receiver.line = .data ∨ s.receiver.line = .fade
    · simp [call, rows]
    · simp [call, toggled]
  exact {
    toFunctionKeeps := .of_key (by decide) (frame.mono (by decide)) switch
      ((frame .transmitter (by decide)).trans (transmitterAfterFunction_of_ne (by decide) (by decide)).symm)
      (fun _ => frame .answerback (by decide)) (frame .arbiter (by decide)) (by rw [keyboard])
      (fun other => absurd rfl other) (fun _ => by rw [keyboard]) (fun _ => frame .carriage (by decide))
    onDuplex := fun _ => by
      refine ⟨?_, frame .tones (by decide)⟩
      rw [keyboard]
      cases s.keyboard.onlinePreset <;> rfl }

/-- R39, R41: a code of 80h to 88h other than FEED's is acted on by its function, and its event leaves the key queue. -/
theorem actOnCode_function {code : Byte} {s r : State} (recorded : recordFunction code s = r)
    (free : r.arbiter.grant = none) (low : 0x80 ≤ code.toNat) (high : code.toNat ≤ 0x88) (key : code ≠ 0x86#8) :
    ∃ v, actOnCode code s = finishEvent v ∧ FunctionActs code r v := by
  subst recorded
  have codes : code = 0x80#8 ∨ code = 0x81#8 ∨ code = 0x82#8 ∨ code = 0x83#8 ∨ code = 0x84#8 ∨ code = 0x85#8 ∨
      code = 0x87#8 ∨ code = 0x88#8 := by bv_omega
  rcases codes with rfl | rfl | rfl | rfl | rfl | rfl | rfl | rfl
  · exact ⟨_, rfl, breakFunction_acts _⟩
  · exact ⟨_, rfl, lineLocalFunction_acts _ free⟩
  · exact ⟨_, rfl, hereIsFunction_acts _⟩
  · exact ⟨_, rfl, tabSetFunction_acts _⟩
  · exact ⟨_, rfl, tabClearFunction_acts _⟩
  · exact ⟨_, rfl, clearStops_acts _⟩
  · exact ⟨_, rfl, duplexFunction_acts _⟩
  · exact ⟨_, rfl, clickFunction_acts _⟩

end

end Sys2Proof.Machine

namespace Sys2Proof.Machine

/-! ### A local function from its translation read to its end (R41 to R46) -/

/-- R38: the end of a key event in a state that has the queue and the key-map requests of `s`. -/
theorem eventLeft_of_queue {s v : State} (queue : v.keyboard.queue = s.keyboard.queue)
    (queued : v.arbiter.keymapQueue = s.arbiter.keymapQueue) (keymap : v.arbiter.keymap = s.arbiter.keymap) :
    eventLeft s (settle (finishEvent v)) := by
  obtain ⟨left, translator, requested, waits⟩ := eventLeft_finishEvent v (k := v) rfl rfl rfl
  rw [queue] at left translator requested
  refine ⟨left, translator, queued ▸ requested, waits.trans ?_⟩
  rw [keymapWait, keymapWait, queued, keymap]

/-- R57, R99: the judgement that ends an event with the line IDLE leaves what the entry to IDLE made of the Line
Transmitter and the Flow Controller. -/
theorem settle_idle {s u : State} (line : u.receiver.line = .idle) (flow : u.flow = idleFlow s) :
    (settle u).transmitter = u.transmitter ∧ (settle u).flow = idleFlow s := by
  have inactive : flowActive u = false := by simp [flowActive, line, LineState.onCall]
  rw [settle_of_judged (demandsJudged_of_inactive inactive (by rw [flow]; rfl) (by rw [flow]; rfl))]
  exact ⟨rfl, flow⟩

/-- R172: at a local function no request of the Answerback Unit has been granted, as in the translation read before. -/
theorem waitAfterRequest_functionRecorded {s : State} {address : Addr} {discard : Bool}
    (grant : s.arbiter.grant = some (.translation address discard)) (cycles : List MemCycle) (code : Byte)
    (requested : Bool) :
    waitAfterRequest requested .answerback (functionRecorded cycles code s) =
      waitAfterRequest requested .answerback s := by
  unfold waitAfterRequest grantLive
  rw [grant]
  rfl

theorem functionRecorded_frame (s : State) (cycles : List MemCycle) (code : Byte) :
    changesOnly [.rings, .arbiter, .status, .attention, .pins] s (functionRecorded cycles code s) := by
  intro b untouched
  cases b with
  | rings | arbiter | status | attention | pins => exact absurd (by decide) untouched
  | _ => rfl

/-- R187: the record of a local function does not touch the LINE bit. -/
theorem line_functionRecorded (s : State) (cycles : List MemCycle) (code : Byte) :
    (functionRecorded cycles code s).attention.flags.getLsbD 0 = s.attention.flags.getLsbD 0 := by
  rw [functionRecorded, BitVec.getLsbD_or, flagIf_line (by decide), Bool.or_false]

/-- Settles O25: each function acts on the state in which its record has been offered, and FEED is appended or waits. -/
theorem localFunctionsAct : Obligations.LocalFunctionsAct := by
  refine ⟨fun s address code grant held queue low high key => ?_, fun s address grant held queue => ?_⟩
  · obtain ⟨e, rest, queued⟩ := List.exists_cons_of_ne_nil queue
    let cycles := [MemCycle.read address code]
    let r := functionRecorded cycles code s
    obtain ⟨v, ends, acts⟩ := actOnCode_function (recordFunction_grantEnded grant cycles code) rfl low high key
    let u := finishEvent v
    have toU : changesOnly [.keyboard, .translator, .arbiter] v u := finishEvent_frame v
    obtain ⟨keyboard, _, arbiter⟩ := finishEvent_blocks v
    have vFrame : changesOnly _ r v := acts.frame
    have vQueue : v.keyboard.queue = s.keyboard.queue := by rw [acts.keyboard]; rfl
    have vQueued : v.arbiter.keymapQueue = s.arbiter.keymapQueue := by rw [acts.arbiter]; rfl
    have vKeymap : v.arbiter.keymap = s.arbiter.keymap := by rw [acts.arbiter]; rfl
    have runs : exec (.translationRead code) s = .next (settle u) := by
      rw [translationRead_settles grant held queued, lockAdjusted_of_not_character (by omega), ends]
    have all : changesOnly [.rings, .arbiter, .status, .attention, .pins, .command, .flow, .receiver, .switch,
        .transmitter, .answerback, .keyboard, .carriage, .tones, .translator] s (settle u) :=
      (settle_changesOnly u).after (by decide) (toU.after (by decide) (acts.frame.after (by decide)
        ((functionRecorded_frame s cycles code).mono (by decide))))
    refine ⟨settle u, runs, eventLeft_of_queue vQueue vQueued vKeymap, ?_, ?_, ?_, ?_, ?_, ?_⟩
    · intro joined lost leaves aborts onCall startable p
      have rest : ∀ b, b ∉ [Block.keyboard, .translator, .arbiter, .switch, .flow, .transmitter] →
          agreeOn b v (settle u) :=
        (settle_changesOnly u).after (by decide) (toU.mono (by decide))
      have tTones : (settle u).tones = v.tones := rest .tones (by decide)
      have tReceiver : (settle u).receiver = v.receiver := rest .receiver (by decide)
      have tCarriage : (settle u).carriage = v.carriage := rest .carriage (by decide)
      have tAnswerback : (settle u).answerback = v.answerback := rest .answerback (by decide)
      have tKeyboard : (settle u).keyboard = { v.keyboard with queue := v.keyboard.queue.tail } :=
        (settle_keyboard u).trans keyboard
      have uTransmitter : u.transmitter = v.transmitter := toU .transmitter (by decide)
      have uSwitch : u.switch = v.switch := toU .switch (by decide)
      have uFlow : u.flow = v.flow := toU .flow (by decide)
      obtain ⟨tSwitch, _, tTransmitter, _⟩ := settle_touches u
      rw [uTransmitter] at tTransmitter
      rw [uSwitch] at tSwitch
      obtain ⟨breakPending, breakByCommand⟩ : (settle u).transmitter.breakPending = v.transmitter.breakPending ∧
          (settle u).transmitter.breakByCommand = v.transmitter.breakByCommand := by
        rw [tTransmitter]
        exact ⟨rfl, rfl⟩
      rw [tTones, tReceiver, tCarriage, tAnswerback, breakPending, breakByCommand,
        show (settle u).keyboard.click = v.keyboard.click by rw [tKeyboard],
        show (settle u).keyboard.onlinePreset = v.keyboard.onlinePreset by rw [tKeyboard]]
      refine ⟨?_, ?_, ?_, ?_, acts.onBreak, ?_, acts.onHereIs, acts.onTabSet, acts.onTabClear, acts.onTabClearAll,
        acts.onDuplex, acts.onClick, ?_, acts.preset, acts.click, acts.carriage, acts.receiver, acts.answerback, ?_,
        ?_, ?_⟩
      · exact (rest .rings (by decide)).trans (vFrame .rings (by decide))
      · exact (rest .status (by decide)).trans acts.status
      · refine (rest .attention (by decide)).trans (acts.attention.trans ?_)
        rw [line_functionRecorded]
        rfl
      · exact (rest .command (by decide)).trans acts.command
      · intro isLocal
        have sends := acts.onLineLocal isLocal
        by_cases idle : s.receiver.line = .idle
        · rw [if_pos idle]
          rwa [if_pos (show r.receiver.line = .idle from idle)] at sends
        · rw [if_neg idle]
          rw [if_neg (show r.receiver.line ≠ .idle from idle)] at sends
          have goes : goesLocal code r = true := by
            rw [goesLocal, isLocal]
            exact Bool.and_eq_true_iff.2 ⟨rfl, decide_eq_true idle⟩
          have flow : u.flow = idleFlow r := by rw [uFlow, acts.flow, if_pos goes]
          have line : u.receiver.line = .idle := by
            rw [show u.receiver = v.receiver from toU .receiver (by decide), sends.1]
            rfl
          obtain ⟨kept, cleared⟩ := settle_idle line flow
          refine ⟨sends.1, ?_, sends.2, cleared⟩
          rw [kept, uTransmitter, acts.transmitter, transmitterAfterFunction, if_pos goes]
          rfl
      · rw [tKeyboard, vQueue, acts.keyboard]
        rfl
      · rw [acts.switch] at tSwitch
        exact tSwitch
      · exact onlySettles_of_settle (uSwitch.trans acts.switch) (uFlow.trans acts.flow)
          (uTransmitter.trans acts.transmitter)
      · rw [settle_arbiter, arbiter, acts.arbiter, waitAfterRequest_functionRecorded grant]
        rfl
    · rw [settle_pins, show u.pins = v.pins from toU .pins (by decide),
        show v.pins = r.pins from vFrame .pins (by decide)]
      rfl
    · exact all .passage (by decide)
    · exact all .dot (by decide)
    · exact all .sensor (by decide)
    · exact all .pending (by decide)
  · obtain ⟨e, rest, queued⟩ := List.exists_cons_of_ne_nil queue
    let ended := grantEnded [.read address 0x86#8] s
    have toEnded : changesOnly [.pins, .arbiter] s ended := grantEnded_frame _ s
    have runs : exec (.translationRead 0x86#8) s = .next (settle (feedFunction ended)) := by
      rw [translationRead_settles grant held queued, lockAdjusted_of_not_character (by decide)]
      rfl
    have toFeed := feedFunction_frame ended
    refine ⟨settle (feedFunction ended), runs, ?_, ?_, ?_⟩
    · intro joined appended
      by_cases room : s.carriage.queue.length < 48
      · have appends : feedFunction ended = appendFeed ended := if_pos ((printRoom_iff ended).2 room)
        rw [if_pos room, appends]
        obtain ⟨carriage, left, keyboard, tones, arbiter, rings, status, attention, switch⟩ :=
          appendFeed_blocks ended room
        have frame := appendFeed_frame ended
        refine ⟨?_, left, ?_, ?_, ?_, ?_, ?_, ?_, ?_⟩
        · rw [settle_carriage, carriage]
          rfl
        · rw [settle_keyboard, keyboard]
          rfl
        · rw [settle_tones, tones]
          rfl
        · rw [settle_rings, rings]
          rfl
        · rw [settle_status, status]
          rfl
        · rw [settle_attention, attention]
          rfl
        · rw [settle_arbiter]
          refine arbiter.trans ?_
          rw [waitAfterRequest_ended grant (by decide)]
          rfl
        · exact onlySettles_of_settle switch (frame .flow (by decide)) (frame .transmitter (by decide))
      · have waits : feedFunction ended = ended.onTranslator fun _ => .feedWait :=
          if_neg (mt (printRoom_iff ended).1 room)
        rw [if_neg room, waits, settle_translator, settle_keyboard, settle_carriage, settle_rings, settle_tones,
          settle_status, settle_attention, settle_arbiter]
        exact ⟨rfl, rfl, rfl, rfl, rfl, rfl, rfl, rfl, onlySettles_of_settle rfl rfl rfl⟩
    · rw [settle_pins, show (feedFunction ended).pins = ended.pins from toFeed .pins (by decide)]
      rfl
    · exact (settle_changesOnly _).after (by decide) (toFeed.after (by decide) (toEnded.mono (by decide)))

end Sys2Proof.Machine

namespace Sys2Proof.Machine

/-! ## The scan pass: the debounce states (R26 to R28) -/

section
variable (readings : BitVec 64) (before : Vector KeyState 64)

/-- R26: the debounce states once the first `n` positions of the pass are decided. -/
def decidedBelow (n : Nat) : Vector KeyState 64 := (allPositions.take n).foldl (decidePosition readings) before

theorem decidedBelow_succ (p : Position) :
    decidedBelow readings before (p.val + 1) = decidePosition readings (decidedBelow readings before p.val) p := by
  have turn : allPositions.take (p.val + 1) = allPositions.take p.val ++ [p] := by
    rw [List.take_succ_eq_append_getElem (by simp [allPositions])]
    simp [allPositions]
  rw [decidedBelow, turn, List.foldl_append]
  rfl

theorem decidedBelow_all : decidedBelow readings before 64 = decidePositions readings before := by
  rw [decidedBelow, decidePositions, List.take_of_length_le (by simp [allPositions])]

theorem decidePosition_ne (states : Vector KeyState 64) {p q : Position} (other : q ≠ p) :
    (decidePosition readings states p)[q] = states[q] := by
  have apart : p.val ≠ q.val := fun same => other (Fin.ext same.symm)
  simp [decidePosition, apart]

/-- R26: a position not yet decided stands as before the pass. -/
theorem decidedBelow_above (q : Position) :
    ∀ n ≤ q.val, (decidedBelow readings before n)[q] = before[q] := by
  intro n
  induction n with
  | zero => exact fun _ => rfl
  | succ n ih =>
    intro below
    let p : Position := ⟨n, by omega⟩
    have other : q ≠ p := fun same => by
      have : q.val = n := congrArg Fin.val same
      omega
    rw [show decidedBelow readings before (n + 1) = _ from decidedBelow_succ readings before p,
      decidePosition_ne readings _ other]
    exact ih (by omega)

/-- R26: a position that has been decided keeps its state to the end of the pass. -/
theorem decidedBelow_below (q : Position) (n : Nat) (decided : q.val < n) (le : n ≤ 64) :
    (decidedBelow readings before n)[q] = (decidedBelow readings before (q.val + 1))[q] := by
  induction n, decided using Nat.le_induction with
  | base => rfl
  | succ n past ih =>
    let p : Position := ⟨n, by omega⟩
    have other : q ≠ p := fun same => by
      have : q.val = n := congrArg Fin.val same
      omega
    rw [show decidedBelow readings before (n + 1) = _ from decidedBelow_succ readings before p,
      decidePosition_ne readings _ other]
    exact ih (by omega)

/-- R26: at the turn of `p` the positions below it stand as the pass leaves them, the others as before it. -/
theorem decidedBelow_turn (p q : Position) :
    (decidedBelow readings before p.val)[q] =
      if q.val < p.val then (decidePositions readings before)[q] else before[q] := by
  split
  · next below =>
    rw [← decidedBelow_all, decidedBelow_below readings before q p.val below (by omega),
      decidedBelow_below readings before q 64 (by omega) le_rfl]
  · next above => exact decidedBelow_above readings before q p.val (by omega)

/-- R26 to R28: what a pass makes of a position, by the states as they stand at its turn. -/
theorem decidePositions_get (p : Position) :
    (decidePositions readings before)[p] =
      debounce before[p] (readings.getLsbD p.val) (isGhostCorner (decidedBelow readings before p.val) p) := by
  rw [← decidedBelow_all, decidedBelow_below readings before p 64 (by omega) le_rfl, decidedBelow_succ,
    decidePosition, decidedBelow_above readings before p p.val le_rfl]
  simp

end

theorem positionAt_lines (d c : Fin 8) : (positionAt d c).val / 8 = d.val ∧ (positionAt d c).val % 8 = c.val := by
  simp only [positionAt]
  omega

/-- R28: the rectangle of a ghost corner, by the drive and the sense line of its positions. -/
theorem isGhostCorner_iff (states : Vector KeyState 64) (p : Position) :
    isGhostCorner states p = true ↔ ∃ q : Position,
      q.val / 8 ≠ p.val / 8 ∧ q.val % 8 ≠ p.val % 8 ∧ states[q] = .down ∧
      ∀ c : Position, (c.val / 8 = p.val / 8 ∧ c.val % 8 = q.val % 8) ∨ (c.val / 8 = q.val / 8 ∧ c.val % 8 = p.val % 8) →
        states[c] = .down := by
  have at_lines : ∀ (q : Position) (d c : Fin 8), q.val / 8 = d.val → q.val % 8 = c.val → q = positionAt d c :=
    fun q d c drive sense => Fin.ext (by simp only [positionAt]; omega)
  simp only [isGhostCorner, List.any_eq_true, List.mem_finRange, true_and, Bool.and_eq_true, decide_eq_true_eq]
  constructor
  · rintro ⟨d, drive, c, ⟨⟨sense, first⟩, second⟩, third⟩
    have drive' : d.val ≠ p.val / 8 := fun same => drive (Fin.ext same)
    have sense' : c.val ≠ p.val % 8 := fun same => sense (Fin.ext same)
    have lines := positionAt_lines d c
    refine ⟨positionAt d c, by omega, by omega, third, fun corner place => ?_⟩
    rcases place with ⟨row, column⟩ | ⟨row, column⟩
    · rw [at_lines corner (driveOf p) c row (by omega)]
      exact first
    · rw [at_lines corner d (senseOf p) (by omega) column]
      exact second
  · rintro ⟨q, drive, sense, third, corners⟩
    refine ⟨driveOf q, fun same => drive (congrArg Fin.val same), senseOf q,
      ⟨⟨fun same => sense (congrArg Fin.val same), corners _ (.inl (positionAt_lines _ _))⟩,
        corners _ (.inr (positionAt_lines _ _))⟩, ?_⟩
    have place : q = positionAt (driveOf q) (senseOf q) := at_lines q _ _ rfl rfl
    exact (congrArg (fun r : Position => states[r]) place).symm.trans third

/-! ### The presses of a pass (R33, R34, R38) -/

/-- R34: the events of a list are offered to the key queue one after the other. -/
def offerAll (events : List KeyEvent) (s : State) : State := events.foldl (fun acc e => offerPress e acc) s

section
variable (s : State)

theorem offerAll_frame (events : List KeyEvent) :
    changesOnly [.keyboard, .translator, .arbiter, .status, .attention, .tones] s (offerAll events s) := by
  induction events generalizing s with
  | nil => exact changesOnly_refl _ s
  | cons e rest ih => exact ((offerPress_frame e s).mono (by decide)).trans (ih (offerPress e s))

/-- R34, R38: events that find room join the queue, and the first of them starts the fetch of an IDLE translator. -/
theorem offerAll_of_room (events : List KeyEvent) (room : s.keyboard.queue.length + events.length ≤ 8) :
    (offerAll events s).keyboard = { s.keyboard with queue := s.keyboard.queue ++ events } ∧
    (offerAll events s).translator = (if s.translator = .idle ∧ events ≠ [] then .fetching else s.translator) ∧
    (offerAll events s).arbiter = { s.arbiter with
      keymapQueue := s.arbiter.keymapQueue ++ (if s.translator = .idle ∧ events ≠ [] then [.translation] else [])
      keymap := if s.arbiter.keymapQueue = [] ∧ s.translator = .idle ∧ events ≠ [] then .waiting
        else s.arbiter.keymap } ∧
    changesOnly [.keyboard, .translator, .arbiter] s (offerAll events s) := by
  induction events generalizing s with
  | nil => simp [offerAll, changesOnly_refl]
  | cons e rest ih =>
    have joins : offerPress e s = joinQueue e s := if_pos (by
      rw [List.length_cons] at room
      exact decide_eq_true (by show _ < 8; omega))
    obtain ⟨keyboard, translator, arbiter⟩ := joinQueue_blocks s e
    have busy : (joinQueue e s).translator ≠ .idle := by
      rw [translator]
      split
      · decide
      · assumption
    obtain ⟨restKeyboard, restTranslator, restArbiter, restFrame⟩ := ih (joinQueue e s) (by
      rw [keyboard, List.length_append]
      simp at room ⊢
      omega)
    rw [show offerAll (e :: rest) s = offerAll rest (joinQueue e s) from congrArg (offerAll rest) joins]
    refine ⟨?_, ?_, ?_, ((joinQueue_frame e s).mono (by decide)).trans restFrame⟩
    · rw [restKeyboard, keyboard]
      simp
    · rw [restTranslator, if_neg fun idle => busy idle.1, translator]
      simp
    · rw [restArbiter, if_neg fun idle => busy idle.2.1, if_neg fun idle => busy idle.1, arbiter]
      simp

/-- R34: what the loss of a PRESS leaves. -/
def pressLost (s : State) : State := requestSound .chirp (setKeyLost s)

theorem pressLost_blocks :
    (pressLost s).status = { s.status with keyLost := true } ∧
    (pressLost s).attention = { s.attention with flags := s.attention.flags ||| flagIf (!s.status.keyLost) .loss } ∧
    (pressLost s).tones = tonesAfterChirp s ∧ changesOnly [.status, .attention, .tones] s (pressLost s) := by
  have sounds := requestSound_frame .chirp (setKeyLost s)
  have loses := setKeyLost_frame s
  refine ⟨?_, ?_, ?_, sounds.after (by decide) (loses.mono (by decide))⟩
  · rw [pressLost, sounds .status (by decide), setKeyLost_eq]
    rfl
  · rw [pressLost, sounds .attention (by decide), setKeyLost_eq]
    rfl
  · rw [pressLost, requestChirp_tones, tonesAfterChirp, tonesAfterChirp, loses .tones (by decide)]

/-- R80, R81: a CHIRP that is requested again in its first instant changes nothing. -/
theorem tonesAfterChirp_again {t : State} (chirps : t.tones = tonesAfterChirp s) :
    tonesAfterChirp t = tonesAfterChirp s := by
  rw [tonesAfterChirp, chirps, tonesAfterChirp]
  rcases request : s.tones.request with _ | (_ | _ | _) <;> simp [request]

/-- R34: events offered to a full queue are lost, with key-lost and a CHIRP. -/
theorem offerAll_of_full (events : List KeyEvent) (full : 8 ≤ s.keyboard.queue.length) :
    (offerAll events s).status = { s.status with keyLost := s.status.keyLost || decide (events ≠ []) } ∧
    (offerAll events s).attention = { s.attention with
      flags := s.attention.flags ||| flagIf (!s.status.keyLost && decide (events ≠ [])) .loss } ∧
    (offerAll events s).tones = (if events ≠ [] then tonesAfterChirp s else s.tones) ∧
    changesOnly [.status, .attention, .tones] s (offerAll events s) := by
  induction events generalizing s with
  | nil => simp [offerAll, changesOnly_refl]
  | cons e rest ih =>
    have loses : offerPress e s = pressLost s := if_neg fun room => by
      have : s.keyboard.queue.length < 8 := of_decide_eq_true room
      omega
    obtain ⟨status, attention, tones, frame⟩ := pressLost_blocks s
    obtain ⟨restStatus, restAttention, restTones, restFrame⟩ := ih (pressLost s) (by
      rwa [show (pressLost s).keyboard = s.keyboard from frame .keyboard (by decide)])
    rw [show offerAll (e :: rest) s = offerAll rest (pressLost s) from congrArg (offerAll rest) loses]
    refine ⟨?_, ?_, ?_, frame.trans restFrame⟩
    · rw [restStatus, status]
      simp
    · rw [restAttention, attention, status]
      simp
    · rw [restTones, tonesAfterChirp_again s tones, tones]
      simp

/-- R33, R34, R38: the offer of the events of a pass, by the room of the key queue. -/
theorem offerAll_blocks (events : List KeyEvent) (serves : s.translator = .idle ↔ s.keyboard.queue = [])
    (fits : s.keyboard.queue.length ≤ 8) :
    (let lost := 8 < s.keyboard.queue.length + events.length
     (offerAll events s).keyboard = { s.keyboard with queue := (s.keyboard.queue ++ events).take 8 } ∧
     (offerAll events s).status = { s.status with keyLost := s.status.keyLost || decide lost } ∧
     (offerAll events s).attention = { s.attention with
      flags := s.attention.flags ||| flagIf (!s.status.keyLost && decide lost) .loss } ∧
     (offerAll events s).tones = (if lost then tonesAfterChirp s else s.tones) ∧
     (offerAll events s).translator = (if s.translator = .idle ∧ events ≠ [] then .fetching else s.translator) ∧
     (offerAll events s).arbiter = { s.arbiter with
      keymapQueue := s.arbiter.keymapQueue ++ (if s.translator = .idle ∧ events ≠ [] then [.translation] else [])
      keymap := if s.arbiter.keymapQueue = [] ∧ s.translator = .idle ∧ events ≠ [] then .waiting
        else s.arbiter.keymap }) := by
  intro lost
  let places := 8 - s.keyboard.queue.length
  let joined := events.take places
  let rest := events.drop places
  let t := offerAll joined s
  have parts : offerAll events s = offerAll rest t := by
    rw [offerAll, ← List.take_append_drop places events, List.foldl_append]
    rfl
  obtain ⟨keyboard, translator, arbiter, toT⟩ := offerAll_of_room s joined (by simp [joined, places]; omega)
  have isLost : rest ≠ [] ↔ lost := by
    simp only [rest, lost, places, ne_eq, List.drop_eq_nil_iff]
    omega
  have starts : s.translator = .idle ∧ joined ≠ [] ↔ s.translator = .idle ∧ events ≠ [] :=
    and_congr_right fun idle => by simp [joined, places, serves.1 idle]
  have queue : s.keyboard.queue ++ joined = (s.keyboard.queue ++ events).take 8 := by
    rw [List.take_append, List.take_of_length_le fits]
  simp only [starts] at translator arbiter
  rw [queue] at keyboard
  rw [parts]
  by_cases overflows : lost
  · have full : 8 ≤ t.keyboard.queue.length := by
      rw [keyboard, List.length_take, List.length_append]
      omega
    obtain ⟨status, attention, tones, fromT⟩ := offerAll_of_full t rest full
    simp only [isLost] at status attention tones
    refine ⟨(fromT .keyboard (by decide)).trans keyboard, ?_, ?_, ?_, (fromT .translator (by decide)).trans translator,
      (fromT .arbiter (by decide)).trans arbiter⟩
    · rw [status, show t.status = s.status from toT .status (by decide)]
    · rw [attention, show t.attention = s.attention from toT .attention (by decide),
        show t.status = s.status from toT .status (by decide)]
    · rw [tones, tonesAfterChirp, show t.tones = s.tones from toT .tones (by decide), tonesAfterChirp]
  · have allJoin : rest = [] := by simpa using mt isLost.1 overflows
    rw [allJoin]
    refine ⟨keyboard, ?_, ?_, ?_, translator, arbiter⟩
    · simp [overflows, show (offerAll [] t).status = s.status from toT .status (by decide)]
    · simp [overflows, show (offerAll [] t).attention = s.attention from toT .attention (by decide)]
    · simp [overflows, show (offerAll [] t).tones = s.tones from toT .tones (by decide)]

end

end Sys2Proof.Machine

namespace Sys2Proof.Machine

/-! ### The reads and the repeat key of a pass (R35, R37) -/

section
variable (s : State)

/-- R172: key-map reads that are asked for in turn join the queue in that order. -/
theorem enqueueEligibility_blocks (positions : List Position) :
    (positions.foldl (fun acc p => enqueueKeymap (.eligibility p) acc) s).arbiter = { s.arbiter with
      keymapQueue := s.arbiter.keymapQueue ++ positions.map .eligibility
      keymap := if s.arbiter.keymapQueue = [] ∧ positions ≠ [] then .waiting else s.arbiter.keymap } ∧
    changesOnly [.arbiter] s (positions.foldl (fun acc p => enqueueKeymap (.eligibility p) acc) s) := by
  induction positions generalizing s with
  | nil => simp [changesOnly_refl]
  | cons p rest ih =>
    obtain ⟨arbiter, frame⟩ := ih (enqueueKeymap (.eligibility p) s)
    refine ⟨arbiter.trans ?_, (enqueueKeymap_frame _ s).trans frame⟩
    simp [enqueueKeymap]

/-- R35: the reads of the positions of a pass. -/
theorem requestEligibility_blocks (positions : List Position) :
    (requestEligibility positions s).keyboard = { s.keyboard with
      eligibility := s.keyboard.eligibility ++
        (if positions ≠ [] then [⟨positions.map fun p => ⟨p, false⟩, []⟩] else []) } ∧
    (requestEligibility positions s).arbiter = { s.arbiter with
      keymapQueue := s.arbiter.keymapQueue ++ positions.map .eligibility
      keymap := if s.arbiter.keymapQueue = [] ∧ positions ≠ [] then .waiting else s.arbiter.keymap } ∧
    changesOnly [.keyboard, .arbiter] s (requestEligibility positions s) := by
  unfold requestEligibility
  by_cases none : positions = []
  · simp [none, changesOnly_refl]
  · rw [if_neg none]
    let waits := s.onKeyboard fun k => { k with
      eligibility := k.eligibility ++ [⟨positions.map fun p => ⟨p, false⟩, []⟩] }
    obtain ⟨arbiter, frame⟩ := enqueueEligibility_blocks waits positions
    refine ⟨(frame .keyboard (by decide)).trans ?_, arbiter, ?_⟩
    · rw [if_pos none]
      rfl
    · exact frame.after (by decide) ((onKeyboard_frame s _).mono (by decide))

/-- R37: the repeat key that outlasts a pass. -/
def keptRepeatKey (s : State) : Option Position :=
  s.keyboard.repeatKey.filter fun p =>
    !(decide (s.keyboard.positions[p] = KeyState.up) || s.keyboard.header.isModifier p)

/-- R37: the repeat key and its timer after a pass. -/
theorem judgeRepeatKey_keyboard (runs : s.keyboard.repeatTimer = none ↔ s.keyboard.repeatKey = none) :
    (judgeRepeatKey s).keyboard = { s.keyboard with
      repeatKey := keptRepeatKey s
      repeatTimer := if keptRepeatKey s = none then none else s.keyboard.repeatTimer } := by
  have unchanged : keptRepeatKey s = s.keyboard.repeatKey → s.keyboard = { s.keyboard with
      repeatKey := keptRepeatKey s
      repeatTimer := if keptRepeatKey s = none then none else s.keyboard.repeatTimer } := fun kept => by
    have timer : (if s.keyboard.repeatKey = none then none else s.keyboard.repeatTimer) = s.keyboard.repeatTimer := by
      split
      · next none => exact (runs.2 none).symm
      · rfl
    rw [kept, timer]
  cases key : s.keyboard.repeatKey with
  | none =>
    have rests : judgeRepeatKey s = s := by simp only [judgeRepeatKey, key]
    rw [rests]
    exact unchanged (by simp [keptRepeatKey, key])
  | some p =>
    by_cases ends : (decide (s.keyboard.positions[p] = KeyState.up) || s.keyboard.header.isModifier p) = true
    · have stops : judgeRepeatKey s = endRepeat s := by simp only [judgeRepeatKey, key, ends, if_true]
      have gone : keptRepeatKey s = none := by
        rw [keptRepeatKey, key, Option.filter_some, ends]
        rfl
      rw [stops, gone]
      rfl
    · have rests : judgeRepeatKey s = s := by
        simp only [judgeRepeatKey, key, ends]
        rfl
      rw [rests]
      refine unchanged ?_
      rw [Bool.not_eq_true] at ends
      rw [keptRepeatKey, key, Option.filter_some, ends]
      rfl

end

/-! ### The whole pass -/

section
variable (s : State) (after : Vector KeyState 64)

/-- R33: the events of a pass that leaves the debounce states `after`. -/
def scanEvents : List KeyEvent := (scanPressed after s).map fun p => eventOf p (scanDecided after s).keyboard

theorem scanOffered_eq : scanOffered after s = offerAll (scanEvents s after) (scanDecided after s) := by
  rw [offerAll, scanEvents, List.foldl_map]
  rfl

/-- R33 to R38: what a pass that leaves the debounce states `after` makes of the keyboard, the translator and the
key-map reads, by the keyboard `decided` before its events are offered. -/
theorem scanEnded_blocks (sound : keyboardSound s) (fits : s.keyboard.queue.length ≤ 8) :
    (let decided := (scanDecided after s).keyboard
     let pressed := scanPressed after s
     let events := scanEvents s after
     let lost := 8 < s.keyboard.queue.length + events.length
     let kept := s.keyboard.repeatKey.filter fun p =>
      !(decide (after[p] = KeyState.up) || s.keyboard.header.isModifier p)
     let reads := (if s.translator = .idle ∧ events ≠ [] then [.translation] else []) ++
      if s.keyboard.repeatEnable then pressed.map .eligibility else []
     (scanEnded after s).keyboard = { decided with
      queue := (s.keyboard.queue ++ events).take 8
      repeatKey := kept
      repeatTimer := if kept = none then none else s.keyboard.repeatTimer
      eligibility := decided.eligibility ++
        (if s.keyboard.repeatEnable = true ∧ pressed ≠ [] then [⟨pressed.map fun p => ⟨p, false⟩, []⟩] else []) } ∧
     (scanEnded after s).status = { s.status with keyLost := s.status.keyLost || decide lost } ∧
     (scanEnded after s).attention = { s.attention with
      flags := s.attention.flags ||| flagIf (!s.status.keyLost && decide lost) .loss } ∧
     (scanEnded after s).tones = (if lost then tonesAfterChirp s else s.tones) ∧
     (scanEnded after s).translator = (if s.translator = .idle ∧ events ≠ [] then .fetching else s.translator) ∧
     (scanEnded after s).arbiter = { s.arbiter with
      keymapQueue := s.arbiter.keymapQueue ++ reads
      keymap := if s.arbiter.keymapQueue = [] ∧ reads ≠ [] then .waiting else s.arbiter.keymap } ∧
     changesOnly [.keyboard, .translator, .arbiter, .status, .attention, .tones] s (scanEnded after s)) := by
  intro decided pressed events lost kept reads
  obtain ⟨serves, runs, _⟩ := sound
  let d := scanDecided after s
  let o := scanOffered after s
  let j := judgeRepeatKey o
  have offers : o = offerAll events d := scanOffered_eq s after
  obtain ⟨oKeyboard, oStatus, oAttention, oTones, oTranslator, oArbiter⟩ := offerAll_blocks d events serves fits
  rw [← offers] at oKeyboard oStatus oAttention oTones oTranslator oArbiter
  have toO : changesOnly [.keyboard, .translator, .arbiter, .status, .attention, .tones] s o :=
    offers ▸ (offerAll_frame d events).after (by decide) ((onKeyboard_frame s _).mono (by decide))
  have keeps : keptRepeatKey o = kept := by
    rw [keptRepeatKey, oKeyboard]
    rfl
  have jKeyboard : j.keyboard = _ := judgeRepeatKey_keyboard o (by rw [oKeyboard]; exact runs)
  rw [keeps, oKeyboard] at jKeyboard
  have toJ : changesOnly [.keyboard] o j := judgeRepeatKey_frame o
  have jArbiter : j.arbiter = o.arbiter := toJ .arbiter (by decide)
  by_cases enabled : s.keyboard.repeatEnable = true
  · have ends : scanEnded after s = requestEligibility pressed j := if_pos enabled
    obtain ⟨keyboard, arbiter, fromJ⟩ := requestEligibility_blocks j pressed
    have late : changesOnly [.keyboard, .arbiter] o (scanEnded after s) :=
      ends ▸ fromJ.after (by decide) (toJ.mono (by decide))
    refine ⟨?_, (late .status (by decide)).trans oStatus, (late .attention (by decide)).trans oAttention,
      (late .tones (by decide)).trans oTones, (late .translator (by decide)).trans oTranslator, ?_,
      late.after (by decide) toO⟩
    · rw [ends, keyboard, jKeyboard]
      simp only [enabled, true_and]
      rfl
    · rw [ends, arbiter, jArbiter, oArbiter, show d.arbiter = s.arbiter from rfl,
        show d.translator = s.translator from rfl]
      by_cases idle : s.translator = .idle ∧ events ≠ [] <;> by_cases empty : s.arbiter.keymapQueue = [] <;>
        simp [reads, enabled, idle, empty]
  · have ends : scanEnded after s = j := if_neg enabled
    have late : changesOnly [.keyboard] o (scanEnded after s) := ends ▸ toJ
    refine ⟨?_, (late .status (by decide)).trans oStatus, (late .attention (by decide)).trans oAttention,
      (late .tones (by decide)).trans oTones, (late .translator (by decide)).trans oTranslator, ?_,
      late.after (by decide) toO⟩
    · rw [ends, jKeyboard]
      have unasked : (if s.keyboard.repeatEnable = true ∧ pressed ≠ [] then
          [(⟨pressed.map fun p => ⟨p, false⟩, []⟩ : EligibilityPass)] else []) = [] := if_neg fun asks => enabled asks.1
      rw [unasked, List.append_nil]
      rfl
    · rw [ends, jArbiter, oArbiter, show d.arbiter = s.arbiter from rfl, show d.translator = s.translator from rfl]
      by_cases idle : s.translator = .idle ∧ events ≠ [] <;> simp [reads, enabled, idle]

end

end Sys2Proof.Machine

namespace Sys2Proof.Machine

/-! ### What a pass decides, as chapter 02 words it (R26 to R37) -/

/-- R26, R28: the state of `q` as it stands at the turn of `p`. -/
def seenAt (before after : Vector KeyState 64) (p q : Position) : KeyState :=
  if q.val < p.val then after[q] else before[q]

/-- R28: at its turn `p` is the fourth corner of a rectangle whose other three corners are DOWN. -/
def ghostHeld (before after : Vector KeyState 64) (p : Position) : Prop :=
  ∃ q : Position, q.val / 8 ≠ p.val / 8 ∧ q.val % 8 ≠ p.val % 8 ∧ seenAt before after p q = .down ∧
    ∀ c : Position, (c.val / 8 = p.val / 8 ∧ c.val % 8 = q.val % 8) ∨ (c.val / 8 = q.val / 8 ∧ c.val % 8 = p.val % 8) →
      seenAt before after p c = .down

/-- R26 to R28: a pass runs with debounce states that follow from the readings, position by position. -/
theorem scanPass_decides (readings : BitVec 64) (s : State) :
    ∃ after : Vector KeyState 64, scanPass readings s = scanEnded after s ∧
      ∀ p : Position, ∃ held : Bool, (held = true ↔ ghostHeld s.keyboard.positions after p) ∧
        after[p] = debounce s.keyboard.positions[p] (readings.getLsbD p.val) held := by
  refine ⟨decidePositions readings s.keyboard.positions, scanPass_eq readings s, fun p =>
    ⟨_, ?_, decidePositions_get readings s.keyboard.positions p⟩⟩
  rw [isGhostCorner_iff]
  simp only [decidedBelow_turn]
  rfl

section
variable (before after : Vector KeyState 64) (p : Position)

theorem becomesDown_iff : becomesDown before after p = true ↔ before[p] = .pressPending ∧ after[p] = .down := by
  rw [becomesDown, Bool.and_eq_true, decide_eq_true_eq, decide_eq_true_eq]

theorem reachesUp_eq :
    reachesUp before after p = decide (before[p] = KeyState.releasePending ∧ after[p] = KeyState.up) := by
  rw [reachesUp, Bool.decide_and]

theorem Header.isModifier_iff (h : Header) :
    h.isModifier p = true ↔ h.shiftA = some p ∨ h.shiftB = some p ∨ h.control = some p ∨ h.lock = some p := by
  simp only [Header.isModifier, Bool.or_eq_true, decide_eq_true_eq, or_assoc]

theorem roleDown_iff (role : Option Position) :
    roleDown after role = true ↔ ∃ p : Position, role = some p ∧ after[p] = .down := by
  cases role with
  | none => simp [roleDown]
  | some p => simp [roleDown]

/-- R30: the lock toggles when its position becomes DOWN. -/
theorem lockPressed_eq (role : Option Position) :
    (role.map (becomesDown before after)).getD false =
      decide (∃ p : Position, role = some p ∧ before[p] = .pressPending ∧ after[p] = .down) := by
  rw [← Bool.coe_iff_coe, decide_eq_true_eq]
  cases role with
  | none => simp
  | some p => simp [becomesDown]

/-- R29, R35: the reads still to complete of an earlier pass, and the positions found eligible, after a pass. -/
theorem EligibilityPass.afterPass_eq (h : Header) (e : EligibilityPass) :
    (e.discardPosition (reachesUp before after)).dropModifiers h.isModifier =
      { outstanding := e.outstanding.map fun r => { r with
          discarded := r.discarded || h.isModifier r.position ||
            decide (before[r.position] = KeyState.releasePending ∧ after[r.position] = KeyState.up) }
        eligible := e.eligible.filter fun p => !h.isModifier p } := by
  simp only [dropModifiers, discardPosition, List.map_map, Function.comp_def, reachesUp_eq, Bool.or_right_comm]

end

/-- Settles O21: the debounce states by position, and the blocks of a pass that leaves them. -/
theorem scanPassDecides : Obligations.ScanPassDecides := by
  intro s readings scans sound fits
  obtain ⟨after, passes, decides⟩ := scanPass_decides readings s
  have runs : exec (.scanPass readings) s = .next (settle (scanEnded after s)) := by
    simp only [exec, execScanPass, scans, if_true, passes]
  obtain ⟨keyboard, status, attention, tones, translator, arbiter, frame⟩ := scanEnded_blocks s after sound fits
  refine ⟨settle (scanEnded after s), runs, ?_, settlesOnly_of_settle frame (by decide)⟩
  rw [settle_keyboard, settle_status, settle_attention, settle_tones, settle_translator, settle_arbiter,
    status, attention, tones, translator, arbiter, keyboard]
  intro before after' header seen held presses modifier plays pressed events
  have isModifier : ∀ p, modifier p ↔ header.isModifier p = true := fun p => (Header.isModifier_iff p header).symm
  have isPressed : pressed = scanPressed after s := by
    refine List.filter_congr fun p _ => ?_
    rw [← Bool.coe_iff_coe, decide_eq_true_eq, isModifier, Bool.and_eq_true, becomesDown_iff, Bool.not_eq_true',
      Bool.not_eq_true]
    rfl
  have isEvents : events = scanEvents s after := congrArg (List.map _) isPressed
  rw [isEvents, isPressed]
  refine ⟨fun p => ?_, ?_, ?_, ?_, rfl, ?_, ?_, rfl, rfl, ?_, rfl, ?_, ?_, ?_, rfl, rfl, rfl, rfl, rfl⟩
  · obtain ⟨ghost, isHeld, decided⟩ := decides p
    refine decided.trans ?_
    show debounce before[p] (readings.getLsbD p.val) ghost = _
    cases before[p] with
    | up | down | releasePending => cases readings.getLsbD p.val <;> rfl
    | pressPending =>
      cases readings.getLsbD p.val with
      | false => rfl
      | true => exact if_congr isHeld rfl rfl
  · refine Bool.or_eq_true_iff.trans ?_
    rw [roleDown_iff, roleDown_iff]
    rfl
  · exact roleDown_iff after header.control
  · exact congrArg (s.keyboard.lock != ·) (lockPressed_eq before after header.lock)
  · rfl
  · rfl
  · refine congrArg (s.keyboard.repeatKey.filter ·) (funext fun p => ?_)
    rw [← Bool.coe_iff_coe, decide_eq_true_eq, isModifier, Bool.not_eq_true', Bool.or_eq_false_iff,
      decide_eq_false_iff_not, Bool.not_eq_true]
    rfl
  · refine congrArg (· ++ _) (List.map_congr_left fun e _ => ?_)
    refine (EligibilityPass.afterPass_eq before after header e).trans ?_
    simp only [isModifier, decide_not, Bool.decide_eq_true]
    rfl
  · exact (List.append_assoc ..).symm
  · refine if_congr (and_congr_right fun empty => ?_) rfl rfl
    rw [empty]
    rfl

end Sys2Proof.Machine

namespace Sys2Proof.Machine

/-! ## The line and the start-up

`linePart` names the part of the state that the invariants of the line and of the start-up speak of. Most operations
leave it as it is; the few that move it keep `lineSound`, which joins the invariants of the line once the host reset is
released, and `KeepsLine` is closed under composition. -/

/-- The part of the state that `lineSound` speaks of: of the arbiter only what it holds of the start-up fetch, and of
the Tone Synthesizer only whether the line voice sounds. -/
structure LinePart where
  startUp : StartUp
  startUpWait : Wait
  startUpRuns : Bool
  receiver : LineReceiver
  transmitter : LineTransmitter
  flow : FlowController
  sounding : Bool

def linePart (s : State) : LinePart where
  startUp := s.passage.startUp
  startUpWait := s.arbiter.startUp
  startUpRuns := decide (s.arbiter.grant = some .startUp)
  receiver := s.receiver
  transmitter := s.transmitter
  flow := s.flow
  sounding := s.tones.line.sounding

/-- R164: the host reset is released, and nothing of the start-up fetch is left in the arbiter. -/
def startedUp (s : State) : Prop :=
  s.passage.startUp = .released ∧ s.arbiter.startUp = .absent ∧ s.arbiter.grant ≠ some .startUp

/-- The invariants of the line, from the release of the host reset on. -/
def lineSound (s : State) : Prop :=
  startedUp s ∧ receiverSound s ∧ framerSound s ∧ offCallQuiet s ∧ transmitterSound s ∧ flowSound s

theorem lineSound_congr {s t : State} (h : linePart t = linePart s) : lineSound t ↔ lineSound s := by
  obtain ⟨startUp, wait, runs, receiver, transmitter, flow, sounding⟩ := LinePart.mk.inj h
  have runs' : t.arbiter.grant = some .startUp ↔ s.arbiter.grant = some .startUp := decide_eq_decide.1 runs
  simp only [lineSound, startedUp, receiverSound, framerSound, offCallQuiet, transmitterSound, flowSound, startUp, wait,
    receiver, transmitter, flow, sounding, ne_eq, runs']

/-- What leads from `s` to `t` keeps the invariants of the line. -/
def KeepsLine (s t : State) : Prop := lineSound s → lineSound t

theorem KeepsLine.of_eq {s t : State} (h : linePart t = linePart s) : KeepsLine s t := (lineSound_congr h).2

theorem KeepsLine.refl (s : State) : KeepsLine s s := id

theorem KeepsLine.trans {s t u : State} (h : KeepsLine s t) (h' : KeepsLine t u) : KeepsLine s u := h' ∘ h

theorem KeepsLine.then_eq {s t u : State} (h : KeepsLine s t) (hu : linePart u = linePart t) : KeepsLine s u :=
  h.trans (.of_eq hu)

theorem KeepsLine.from_eq {s t u : State} (h : KeepsLine t u) (ht : linePart t = linePart s) : KeepsLine s u :=
  (KeepsLine.of_eq ht).trans h

theorem KeepsLine.ite {s a b : State} {c : Prop} [Decidable c] (ha : c → KeepsLine s a) (hb : ¬ c → KeepsLine s b) :
    KeepsLine s (if c then a else b) := by
  split
  · next h => exact ha h
  · next h => exact hb h

/-! ### Operations that leave the line as it is -/

/-- An operation that touches none of the blocks that the line part is taken from. -/
theorem linePart_of_frame {blocks : List Block} {s t : State} (h : changesOnly blocks s t)
    (hb : ∀ b ∈ [Block.passage, .arbiter, .receiver, .transmitter, .tones, .flow], b ∉ blocks) :
    linePart t = linePart s := by
  have passage : t.passage = s.passage := h .passage (hb _ (by decide))
  have arbiter : t.arbiter = s.arbiter := h .arbiter (hb _ (by decide))
  have receiver : t.receiver = s.receiver := h .receiver (hb _ (by decide))
  have transmitter : t.transmitter = s.transmitter := h .transmitter (hb _ (by decide))
  have tones : t.tones = s.tones := h .tones (hb _ (by decide))
  have flow : t.flow = s.flow := h .flow (hb _ (by decide))
  simp only [linePart, passage, arbiter, receiver, transmitter, tones, flow]

section
variable (s : State)

@[simp] theorem linePart_onStatus (f) : linePart (s.onStatus f) = linePart s := rfl
@[simp] theorem linePart_onPins (f) : linePart (s.onPins f) = linePart s := rfl
@[simp] theorem linePart_onSwitch (f) : linePart (s.onSwitch f) = linePart s := rfl
@[simp] theorem linePart_onRings (f) : linePart (s.onRings f) = linePart s := rfl
@[simp] theorem linePart_onKeyboard (f) : linePart (s.onKeyboard f) = linePart s := rfl
@[simp] theorem linePart_onTranslator (f) : linePart (s.onTranslator f) = linePart s := rfl
@[simp] theorem linePart_onAnswerback (f) : linePart (s.onAnswerback f) = linePart s := rfl
@[simp] theorem linePart_onCarriage (f) : linePart (s.onCarriage f) = linePart s := rfl
@[simp] theorem linePart_onDot (f) : linePart (s.onDot f) = linePart s := rfl
@[simp] theorem linePart_onSensor (f) : linePart (s.onSensor f) = linePart s := rfl
@[simp] theorem linePart_onCommand (f) : linePart (s.onCommand f) = linePart s := rfl
@[simp] theorem linePart_onAttention (f) : linePart (s.onAttention f) = linePart s := rfl

@[simp] theorem linePart_onTones {f : ToneSynthesizer → ToneSynthesizer}
    (h : (f s.tones).line.sounding = s.tones.line.sounding) : linePart (s.onTones f) = linePart s := by
  rw [linePart, linePart, LinePart.mk.injEq]
  exact ⟨rfl, rfl, rfl, rfl, rfl, rfl, h⟩

theorem linePart_onArbiter {f : Arbiter → Arbiter} (wait : (f s.arbiter).startUp = s.arbiter.startUp)
    (grant : (f s.arbiter).grant = some .startUp ↔ s.arbiter.grant = some .startUp) :
    linePart (s.onArbiter f) = linePart s := by
  simp [linePart, wait, grant]

/-! #### Flags and requests to the arbiter -/

@[simp] theorem linePart_raise (a : AttentionSource) : linePart (raise a s) = linePart s := rfl
@[simp] theorem linePart_raiseLine (c : LineCause) : linePart (raiseLine c s) = linePart s := rfl
@[simp] theorem linePart_setKeyLost : linePart (setKeyLost s) = linePart s :=
  linePart_of_frame (setKeyLost_frame s) (by decide)
@[simp] theorem linePart_setTxDiscarded : linePart (setTxDiscarded s) = linePart s :=
  linePart_of_frame (setTxDiscarded_frame s) (by decide)
@[simp] theorem linePart_setPrintOverrun : linePart (setPrintOverrun s) = linePart s :=
  linePart_of_frame (setPrintOverrun_frame s) (by decide)
@[simp] theorem linePart_setRingLoss : linePart (setRingLoss s) = linePart s :=
  linePart_of_frame (setRingLoss_frame s) (by decide)
@[simp] theorem linePart_setSetupRefused : linePart (setSetupRefused s) = linePart s := rfl
@[simp] theorem linePart_setResult (r : CommandResult) : linePart (setResult r s) = linePart s := rfl
@[simp] theorem linePart_startCommand (c : RunningCommand) : linePart (startCommand c s) = linePart s := rfl
@[simp] theorem linePart_endCommand (c : RunningCommand) (r : CommandResult) :
    linePart (endCommand c r s) = linePart s := linePart_of_frame (endCommand_frame c r s) (by decide)

/-- A request for any grant but the start-up fetch. -/
@[simp] theorem linePart_requestGrant {r : Requester} (other : r ≠ .startUp) :
    linePart (requestGrant r s) = linePart s := by
  unfold requestGrant
  split
  · cases r with
    | startUp => exact absurd rfl other
    | _ => rfl
  · rfl

theorem Grant.discard_eq_startUp (g : Grant) : g.discard = .startUp ↔ g = .startUp := by
  cases g <;> simp [Grant.discard]

@[simp] theorem linePart_discardGrant (r : Requester) : linePart (discardGrant r s) = linePart s := by
  unfold discardGrant
  split
  · refine linePart_onArbiter s rfl ?_
    simp [Option.map_eq_some_iff, Grant.discard_eq_startUp]
  · rfl

@[simp] theorem linePart_dropRequest {r : Requester} (other : r ≠ .startUp) :
    linePart (dropRequest r s) = linePart s := by
  rw [dropRequest, linePart_discardGrant]
  cases r with
  | startUp => exact absurd rfl other
  | _ => rfl

@[simp] theorem linePart_enqueueKeymap (r : KeymapRead) : linePart (enqueueKeymap r s) = linePart s := rfl

@[simp] theorem linePart_requestPlacement : linePart (requestPlacement s) = linePart s := by
  unfold requestPlacement; split <;> simp

@[simp] theorem linePart_requestSendFetch : linePart (requestSendFetch s) = linePart s := by
  unfold requestSendFetch; split <;> simp

@[simp] theorem linePart_requestAnswerbackRead : linePart (requestAnswerbackRead s) = linePart s := by
  unfold requestAnswerbackRead; split <;> simp

/-- R31: a running header load is discarded; it was no start-up fetch and is none. -/
@[simp] theorem linePart_requestHeaderLoad : linePart (requestHeaderLoad s) = linePart s := by
  have discarded : linePart (match s.arbiter.grant with
      | some (.headerLoad a _) => s.onArbiter fun r => { r with grant := some (.headerLoad a true) }
      | _ => s) = linePart s := by
    split
    · next a d grant => exact linePart_onArbiter s rfl (by simp [grant])
    · rfl
  unfold requestHeaderLoad
  dsimp only
  split
  · exact discarded
  · exact discarded

@[simp] theorem linePart_discardTranslation : linePart (discardTranslation s) = linePart s := by
  unfold discardTranslation
  split
  · next a d grant => exact linePart_onArbiter s rfl (by simp [grant])
  · rfl

/-! #### Rings, print queue, sounder and answerback -/

@[simp] theorem linePart_offerRecord (record : ReceiveRecord) : linePart (offerRecord record s) = linePart s := by
  unfold offerRecord; split <;> simp

@[simp] theorem linePart_recordFunction (code : Byte) : linePart (recordFunction code s) = linePart s := by
  unfold recordFunction; split <;> simp

@[simp] theorem linePart_applyPreset (p : Preset) : linePart (applyPreset p s) = linePart s :=
  linePart_of_frame (applyPreset_frame p s) (by decide)

@[simp] theorem linePart_appendPrint (e : PrintEntry) : linePart (appendPrint e s) = linePart s :=
  linePart_of_frame (appendPrint_frame e s) (by decide)

@[simp] theorem linePart_flushPrintQueue : linePart (flushPrintQueue s) = linePart s :=
  linePart_of_frame (flushPrintQueue_frame s) (by decide)

/-- R80, R81: a sound moves the sounder, not the line voice. -/
@[simp] theorem linePart_requestSound (r : Sound) : linePart (requestSound r s) = linePart s := by
  rcases requestSound_cases r s with ⟨_, h⟩ | ⟨_, _, _, h⟩ | ⟨_, _, _, h⟩ <;> rw [h] <;> rfl

@[simp] theorem linePart_requestClick : linePart (requestClick s) = linePart s := by
  unfold requestClick; split <;> simp

@[simp] theorem linePart_triggerAnswerback : linePart (triggerAnswerback s) = linePart s := by
  unfold triggerAnswerback; split <;> simp

@[simp] theorem linePart_abortAnswerback : linePart (abortAnswerback s) = linePart s := by
  unfold abortAnswerback; split <;> simp [applyDeferred]

@[simp] theorem linePart_takeLineIn (f : ReceivedFrame) : linePart (takeLineIn f s) = linePart s := by
  have printed : linePart (if s.switch.lineIn.print then
        if printRoom s then
          appendPrint (if f.parityError || f.framingError then .errorGlyph else .character (printCode f.character)) s
        else setPrintOverrun s
      else s) = linePart s := by
    split
    · split <;> simp
    · rfl
  unfold takeLineIn
  dsimp only
  split
  · rw [linePart_offerRecord, printed]
  · exact printed

/-! #### The printer -/

@[simp] theorem linePart_beginOperation (o : Operation) : linePart (beginOperation o s) = linePart s := by
  have cell : ∀ glyph back t, linePart (handOver glyph back t) = linePart t := fun glyph back t => by
    unfold handOver
    dsimp only
    split
    · simp
    · exact (linePart_of_frame (columnStep_frame 1 _) (by decide)).trans (by simp)
  cases o with
  | print glyph => exact (cell _ _ _).trans rfl
  | _ => rfl

@[simp] theorem linePart_continueEntry : linePart (continueEntry s) = linePart s := by
  unfold continueEntry
  split
  · exact linePart_of_frame (enterReady_frame s) (by decide)
  · simp

@[simp] theorem linePart_endOperation : linePart (endOperation s) = linePart s := by
  unfold endOperation; split <;> simp

@[simp] theorem linePart_judgeHalt : linePart (judgeHalt s) = linePart s := by
  unfold judgeHalt
  split
  · split <;> simp
  · split <;> simp
  · rfl

@[simp] theorem linePart_setCauses (paper hot battery jam : Bool) :
    linePart (setCauses paper hot battery jam s) = linePart s :=
  linePart_of_frame (setCauses_frame paper hot battery jam s) (by decide)

@[simp] theorem linePart_takeReadings (millivolts : Nat) (millidegrees : Int) :
    linePart (takeReadings millivolts millidegrees s) = linePart s :=
  linePart_of_frame (takeReadings_frame millivolts millidegrees s) (by decide)

@[simp] theorem linePart_beginSeek : linePart (beginSeek s) = linePart s := rfl
@[simp] theorem linePart_seekFinds : linePart (seekFinds s) = linePart s := by simp [seekFinds]
@[simp] theorem linePart_seekFails : linePart (seekFails s) = linePart s := by simp [seekFails]
@[simp] theorem linePart_losePaper : linePart (losePaper s) = linePart s := by simp [losePaper]
@[simp] theorem linePart_findPaper : linePart (findPaper s) = linePart s := by simp [findPaper]

@[simp] theorem linePart_endReturn (home : Bool) : linePart (endReturn home s) = linePart s := by
  cases home <;> simp [endReturn]

@[simp] theorem linePart_columnStep (column : Nat) : linePart (columnStep column s) = linePart s := rfl
@[simp] theorem linePart_dotToIdle : linePart (dotToIdle s) = linePart s := rfl
@[simp] theorem linePart_startGroup : linePart (startGroup s) = linePart s :=
  linePart_of_frame (startGroup_frame s) (by decide)

@[simp] theorem linePart_endDwell : linePart (endDwell s) = linePart s := by
  unfold endDwell; split <;> simp [endCell]

@[simp] theorem linePart_endFiring : linePart (endFiring s) = linePart s := by
  unfold endFiring
  split
  · rfl
  · unfold enterDwell; split <;> simp

@[simp] theorem linePart_beginFiring : linePart (beginFiring s) = linePart s := by
  unfold beginFiring; split <;> simp

@[simp] theorem linePart_releaseStrobe (row : Nat) : linePart (releaseStrobe row s) = linePart s := by
  unfold releaseStrobe; dsimp only; split <;> simp

@[simp] theorem linePart_holdGlyph (c1 c2 c3 c4 c5 : Byte) : linePart (holdGlyph c1 c2 c3 c4 c5 s) = linePart s := by
  unfold holdGlyph; dsimp only; split <;> simp

@[simp] theorem linePart_completeBackStep (made : Nat) : linePart (completeBackStep made s) = linePart s :=
  linePart_of_frame (blocks := [.dot]) (by
    unfold completeBackStep
    split
    · exact dotToIdle_frame s
    · split
      · exact onDot_frame s _
      · exact columnStep_frame 1 s) (by decide)

@[simp] theorem linePart_handleEntry (e : PrintEntry) : linePart (handleEntry e s) = linePart s := by
  have bell : linePart (ringBell e s) = linePart s := by unfold ringBell; split <;> simp
  unfold handleEntry beginOperations
  split
  · exact (linePart_of_frame (judgePrintIdle_frame _) (by decide)).trans bell
  · simp [bell]

/-! #### The keyboard -/

@[simp] theorem linePart_wakeTranslator : linePart (wakeTranslator s) = linePart s := by
  unfold wakeTranslator; split <;> simp

@[simp] theorem linePart_joinQueue (e : KeyEvent) : linePart (joinQueue e s) = linePart s := by simp [joinQueue]

@[simp] theorem linePart_finishEvent : linePart (finishEvent s) = linePart s := by simp [finishEvent]

@[simp] theorem linePart_offerPress (e : KeyEvent) : linePart (offerPress e s) = linePart s := by
  unfold offerPress; split <;> simp

@[simp] theorem linePart_repeatExpiry : linePart (repeatExpiry s) = linePart s := by
  unfold repeatExpiry offerRepeat
  dsimp only
  rw [linePart_onKeyboard]
  split
  · split
    · split <;> simp
    · rfl
  · rfl

@[simp] theorem linePart_requestEligibility (positions : List Position) :
    linePart (requestEligibility positions s) = linePart s := by
  have asked : ∀ (l : List Position) t,
      linePart (l.foldl (fun acc p => enqueueKeymap (.eligibility p) acc) t) = linePart t := by
    intro l
    induction l with
    | nil => exact fun t => rfl
    | cons p rest ih => exact fun t => (ih _).trans (linePart_enqueueKeymap t _)
  unfold requestEligibility
  split
  · rfl
  · exact (asked _ _).trans rfl

@[simp] theorem linePart_scanEnded (after : Vector KeyState 64) : linePart (scanEnded after s) = linePart s := by
  have offered : ∀ (events : List KeyEvent) t, linePart (offerAll events t) = linePart t := by
    intro events
    induction events with
    | nil => exact fun t => rfl
    | cons e rest ih => exact fun t => (ih _).trans (linePart_offerPress t e)
  have judged : linePart (judgeRepeatKey (scanOffered after s)) = linePart s := by
    rw [scanOffered_eq]
    exact (linePart_of_frame (judgeRepeatKey_frame _) (by decide)).trans ((offered _ _).trans rfl)
  unfold scanEnded
  dsimp only
  split
  · rw [linePart_requestEligibility, judged]
  · exact judged

@[simp] theorem linePart_appendFeed : linePart (appendFeed s) = linePart s := by simp [appendFeed]

end
end Sys2Proof.Machine

namespace Sys2Proof.Machine

section
variable (s : State)

/-! ### The judgement of the demands and the flow codes (R89, R99 to R102) -/

/-- R89: a cancellation leaves no flow code behind, whatever the outbound flow state. -/
theorem flowSound_cancelFlowCode : flowSound (cancelFlowCode s) := by
  have gone : ∀ kind code, (cancelFlowCode s).transmitter.slot ≠ .flow kind code := fun kind code h => by
    simp only [cancelFlowCode, State.onTransmitter_transmitter] at h
    split at h
    · cases h
    · next other => exact other _ _ h
  exact ⟨nofun, nofun, fun code h => absurd h (gone _ _), fun code h => absurd h (gone _ _)⟩

/-- R100 to R102: where no flow code waits in the slot, a request is the one that the state waits to send. -/
theorem flowSound_requestFlowCode {kind : FlowCode} (empty : ∀ kind code, s.transmitter.slot ≠ .flow kind code)
    (pause : kind = .pause → s.flow.state = .pausePending) (resume : kind = .resume → s.flow.state = .resumePending) :
    flowSound (requestFlowCode kind s) :=
  ⟨fun h => pause (Option.some.inj h), fun h => resume (Option.some.inj h), fun _ h => absurd h (empty _ _),
    fun _ h => absurd h (empty _ _)⟩

/-- In CLEAR and PAUSED no flow code waits in the slot. -/
theorem no_flow_slot {s : State} (sound : flowSound s) (pause : s.flow.state ≠ .pausePending)
    (resume : s.flow.state ≠ .resumePending) (kind : FlowCode) (code : Byte) : s.transmitter.slot ≠ .flow kind code := by
  obtain ⟨_, _, slotPause, slotResume⟩ := sound
  cases kind with
  | pause => exact fun h => pause (slotPause code h).1
  | resume => exact fun h => resume (slotResume code h).1

theorem flowSound_demandArises (sound : flowSound s) : flowSound (demandArises s) := by
  unfold demandArises
  split
  · next clear =>
    have empty := no_flow_slot sound (by simp [clear]) (by simp [clear])
    exact flowSound_requestFlowCode _ empty (fun _ => rfl) nofun
  · exact flowSound_cancelFlowCode _
  · exact sound

theorem flowSound_demandWithdrawn (sound : flowSound s) : flowSound (demandWithdrawn s) := by
  unfold demandWithdrawn
  split
  · exact flowSound_cancelFlowCode _
  · next paused =>
    have empty := no_flow_slot sound (by simp [paused]) (by simp [paused])
    exact flowSound_requestFlowCode _ empty nofun fun _ => rfl
  · exact sound

theorem flowSound_judgeDemands (sound : flowSound s) : flowSound (judgeDemands s) := by
  unfold judgeDemands
  dsimp only
  split
  · exact flowSound_demandArises _ sound
  · split
    · exact flowSound_demandWithdrawn _ sound
    · exact sound

/-- R96: off a call the judgement changes nothing of the line; on a call it moves the flow state and its codes. -/
theorem settle_keepsLine : KeepsLine s (settle s) := by
  rintro ⟨started, receiver, framer, quiet, transmitter, flow⟩
  have same := judgeDemands_changesOnly s
  have passage : (judgeDemands s).passage = s.passage := same .passage (by decide)
  have arbiter : (judgeDemands s).arbiter = s.arbiter := same .arbiter (by decide)
  have receiver' : (judgeDemands s).receiver = s.receiver := same .receiver (by decide)
  have tones : (judgeDemands s).tones = s.tones := same .tones (by decide)
  have touched := (judgeDemands_touches s).2.2.1
  refine (lineSound_congr (t := settle s) (s := judgeDemands s) rfl).2 ⟨?_, ?_, ?_, ?_, ?_, flowSound_judgeDemands s flow⟩
  · rwa [startedUp, passage, arbiter]
  · rwa [receiverSound, receiver']
  · rwa [framerSound, receiver']
  · intro off
    rw [receiver'] at off
    obtain ⟨_, _, _, _, _, _, _, print, ring, _⟩ := quiet off
    have inactive : flowActive s = false := by rw [flowActive, off, Bool.and_false]
    rw [judgeDemands_of_judged (demandsJudged_of_inactive inactive print ring)]
    exact quiet off
  · unfold transmitterSound
    rw [receiver', tones, touched]
    exact transmitter

/-! ### The entries to LISTEN, DATA and IDLE (R50 to R57) -/

/-- R50, R79: from IDLE, where the transmitter is OFF, the entry starts the listen timer, and in the answer channel the
transmitter. -/
theorem enterListen_keepsLine (idle : s.receiver.line = .idle) : KeepsLine s (enterListen s) := by
  rintro ⟨started, receiver, framer, quiet, transmitter, flow⟩
  obtain ⟨quietState, quietRest⟩ := quiet (by rw [idle]; rfl)
  have frame := enterListen_frame s
  obtain ⟨rx, tx, tones⟩ := enterListen_blocks s
  have passage : (enterListen s).passage = s.passage := frame .passage (by decide)
  have arbiter : (enterListen s).arbiter = s.arbiter := frame .arbiter (by decide)
  have flow' : (enterListen s).flow = s.flow := frame .flow (by decide)
  refine ⟨?_, ?_, ?_, fun _ => ?_, ?_, ?_⟩
  · rwa [startedUp, passage, arbiter]
  · rw [receiverSound] at receiver ⊢
    rw [rx]
    simp_all [LineState.onCall]
  · rw [framerSound, rx]
    exact framer
  · rw [tx, flow']
    split
    · exact ⟨.inr rfl, quietRest⟩
    · exact ⟨quietState, quietRest⟩
  · have off : s.transmitter.state = .off := by
      rw [← not_ne_iff, transmitter.1, idle]
      simp [LineState.onCall]
    rw [transmitterSound] at transmitter ⊢
    rw [rx, tx, tones]
    cases channel : s.receiver.channel with
    | originate => simpa [off, LineState.onCall] using transmitter.2
    | answer => simp
  · rw [flowSound, tx, flow']
    split <;> exact flow

/-- R53, R79: the Line Receiver, the transmitter, the line voice and the flow state after the entry to DATA. -/
theorem enterData_blocks :
    (enterData s).receiver = { s.receiver with
      line := .data, window := .tracking, listenTimer := none, qualifyTimer := none, framer := .hunt .space } ∧
    (enterData s).transmitter = (if s.receiver.channel = .originate then
      { s.transmitter with state := .markIdle, bitClock := some 0, boundaryDue := false } else s.transmitter) ∧
    (enterData s).tones = (if s.receiver.channel = .originate then
      { s.tones with line := { s.tones.line with sounding := true, accumulator := 0, increment := 1445 } }
      else s.tones) ∧
    (enterData s).flow = { s.flow with state := .clear } := by
  unfold enterData
  cases channel : s.receiver.channel with
  | originate => simp [startTransmitter, channel, Voice.start, lineIncrement]
  | answer => exact ⟨rfl, rfl, rfl, rfl⟩

/-- R53, R79: from QUALIFY, where nothing waits to be sent, the call begins with the transmitter running. -/
theorem enterData_keepsLine (qualify : s.receiver.line = .qualify) : KeepsLine s (enterData s) := by
  rintro ⟨started, receiver, framer, quiet, transmitter, flow⟩
  obtain ⟨_, slot, _, request, _⟩ := quiet (by rw [qualify]; rfl)
  have frame := enterData_frame s
  obtain ⟨rx, tx, tones, flow'⟩ := enterData_blocks s
  have passage : (enterData s).passage = s.passage := frame .passage (by decide)
  have arbiter : (enterData s).arbiter = s.arbiter := frame .arbiter (by decide)
  refine ⟨?_, ?_, ?_, fun off => ?_, ?_, ?_⟩
  · rwa [startedUp, passage, arbiter]
  · rw [receiverSound] at receiver ⊢
    rw [rx]
    simp_all [LineState.onCall]
  · rw [framerSound, rx]
    exact ⟨framer.1, nofun⟩
  · rw [rx] at off
    cases off
  · rw [transmitterSound] at transmitter ⊢
    rw [rx, tx, tones]
    cases channel : s.receiver.channel with
    | originate => simp [LineState.onCall]
    | answer => simpa [qualify, channel, LineState.onCall] using transmitter
  · rw [flowSound, tx]
    split <;> simp [slot, request]

/-- R57: the entry leaves every part of the line at rest. -/
theorem enterIdle_keepsLine : KeepsLine s (enterIdle s) := by
  rintro ⟨started, receiver, framer, quiet, transmitter, flow⟩
  obtain ⟨rx, tx, tones, flow', _, _, _, _, arbiter, _⟩ := enterIdle_blocks s
  have passage : (enterIdle s).passage = s.passage := enterIdle_frame s .passage (by decide)
  refine ⟨?_, ?_, ?_, fun _ => ?_, ?_, ?_⟩
  · obtain ⟨released, asked, grant⟩ := started
    rw [startedUp, passage, arbiter]
    split
    · refine ⟨released, asked, ?_⟩
      unfold arbiterAfterAbort
      dsimp only
      split
      · nofun
      · exact grant
    · exact ⟨released, asked, grant⟩
  · rw [receiverSound, rx]
    simp [idleReceiver, LineState.onCall]
  · rw [framerSound, rx]
    exact ⟨framer.1, nofun⟩
  · rw [tx, flow']
    exact ⟨.inl rfl, rfl, rfl, rfl, rfl, rfl, rfl, rfl, rfl, rfl, rfl⟩
  · rw [transmitterSound, rx, tx, tones]
    simp [idleReceiver, idleTransmitter, idleTones, LineState.onCall]
  · rw [flowSound, tx]
    simp [idleTransmitter]

/-! ### The transmitter on a call (R84 to R93) -/

/-- On a call the transmitter and the Flow Controller may move as long as the transmitter stays out of OFF, its bit
clock runs on, and the flow codes follow the flow state. -/
theorem KeepsLine.of_call {t : State} {transmitter : LineTransmitter} {flow : FlowController}
    (call : lineSound s → s.receiver.line.onCall = true)
    (h : linePart t = linePart { s with transmitter := transmitter, flow := flow })
    (state : s.transmitter.state ≠ .off → transmitter.state ≠ .off) (clock : transmitter.bitClock = s.transmitter.bitClock)
    (codes : flowSound s → flowSound { s with transmitter := transmitter, flow := flow }) : KeepsLine s t := by
  refine fun sound => (lineSound_congr h).2 ?_
  have onCall := call sound
  obtain ⟨started, receiver, framer, _, transmits, flowing⟩ := sound
  obtain ⟨out, sounds, runs, _⟩ := transmits
  have on : s.transmitter.state ≠ .off := out.2 (.inl onCall)
  refine ⟨started, receiver, framer, fun off => ?_, ⟨?_, ?_, ?_, fun _ => state on⟩, codes flowing⟩
  · exact absurd (onCall.symm.trans off) Bool.noConfusion
  · exact iff_of_true (state on) (.inl onCall)
  · exact iff_of_true (sounds.2 on) (state on)
  · rw [clock]
    exact iff_of_true (runs.2 on) (state on)

end
end Sys2Proof.Machine

namespace Sys2Proof.Machine

section
variable {s : State}

/-- What waits to be sent, or is sent other than mark, is sent on a call. -/
theorem onCall_of_sends (sound : lineSound s)
    (sends : (s.transmitter.state ≠ .off ∧ s.transmitter.state ≠ .markIdle) ∨ s.transmitter.slot ≠ .empty ∨
      s.transmitter.flowRequest ≠ none ∨ s.transmitter.breakPending = true) : s.receiver.line.onCall = true := by
  obtain ⟨_, _, _, quiet, _⟩ := sound
  cases call : s.receiver.line.onCall with
  | true => rfl
  | false =>
    obtain ⟨state, slot, _, request, break_, _⟩ := quiet call
    rcases sends with ⟨off, mark⟩ | full | asked | pending
    · exact absurd state (not_or.2 ⟨off, mark⟩)
    · exact absurd slot full
    · exact absurd request asked
    · exact absurd (break_.symm.trans pending) Bool.noConfusion

variable (s)

theorem requestBreak_keepsLine (byCommand : Bool) (call : s.receiver.line.onCall = true) :
    KeepsLine s (requestBreak byCommand s) :=
  .of_call s (fun _ => call) (flow := s.flow) rfl id rfl id

theorem startBreak_keepsLine (pending : s.transmitter.breakPending = true) : KeepsLine s (startBreak s) :=
  .of_call s (fun sound => onCall_of_sends sound (.inr (.inr (.inr pending)))) (flow := s.flow) rfl nofun rfl id

theorem enterMarkIdle_keepsLine (call : lineSound s → s.receiver.line.onCall = true) : KeepsLine s (enterMarkIdle s) :=
  .of_call s call (flow := s.flow) rfl nofun rfl id

theorem nextBit_keepsLine (f : Shifting) (call : lineSound s → s.receiver.line.onCall = true) :
    KeepsLine s (nextBit f s) :=
  .of_call s call (flow := s.flow) rfl id rfl id

/-- R86: the Line Transmitter with the slot's code moved into the shifter. -/
def frameBegun (code : Byte) : LineTransmitter :=
  { s.transmitter with state := .sending, slot := .empty, shifter := some ⟨frameBits s.receiver.formatCode code, 0⟩ }

/-- R86, R89: the slot is emptied; the start of a flow code's frame moves the flow state on. -/
theorem startFrame_keepsLine : KeepsLine s (startFrame s) := by
  intro sound
  have call : s.transmitter.slot ≠ .empty → lineSound s → s.receiver.line.onCall = true :=
    fun full sound => onCall_of_sends sound (.inr (.inl full))
  have ⟨_, _, _, _, _, pause, resume, slotPause, slotResume⟩ := sound
  unfold startFrame
  split
  · exact sound
  · next c slot =>
    exact KeepsLine.of_call s (call (by simp [slot])) (transmitter := frameBegun s c) (flow := s.flow) rfl nofun rfl
      (fun _ => ⟨pause, resume, nofun, nofun⟩) sound
  · next kind c slot =>
    have reported : ∀ next, s.transmitter.flowRequest = none →
        flowSound { s with transmitter := frameBegun s c, flow := { s.flow with state := next } } :=
      fun next none => by simp [flowSound, frameBegun, none]
    cases kind with
    | pause =>
      obtain ⟨state, none⟩ := slotPause c slot
      refine KeepsLine.of_call s (call (by simp [slot])) (transmitter := frameBegun s c) ?_ nofun rfl
        (fun _ => reported .paused none) sound
      simp [reportFlowStarted, lineTone, state, linePart, Voice.retune, frameBegun]
    | resume =>
      obtain ⟨state, none⟩ := slotResume c slot
      refine KeepsLine.of_call s (call (by simp [slot])) (transmitter := frameBegun s c) ?_ nofun rfl
        (fun _ => reported .clear none) sound
      simp [reportFlowStarted, lineTone, state, linePart, Voice.retune, frameBegun]

theorem frameOrIdle_keepsLine (call : lineSound s → s.receiver.line.onCall = true) : KeepsLine s (frameOrIdle s) :=
  .ite (fun _ => enterMarkIdle_keepsLine s call) fun _ => startFrame_keepsLine s

theorem endPostBreak_keepsLine (call : lineSound s → s.receiver.line.onCall = true) : KeepsLine s (endPostBreak s) := by
  let ended := if s.transmitter.breakByCommand then endCommand .sendBreak .done s else s
  have same : linePart ended = linePart s := by
    unfold ended
    split <;> simp
  have settled : lineSound (ended.onTransmitter fun t => { t with breakByCommand := false }) ↔ lineSound ended := Iff.rfl
  have onCall : lineSound (ended.onTransmitter fun t => { t with breakByCommand := false }) →
      ended.receiver.line.onCall = true := fun sound => by
    rw [show ended.receiver = s.receiver from (LinePart.mk.inj same).2.2.2.1]
    exact call ((lineSound_congr same).1 (settled.1 sound))
  exact (KeepsLine.of_eq same).trans (KeepsLine.trans settled.2 (frameOrIdle_keepsLine _ onCall))

/-- R84 to R91: what a bit boundary brings about, in each state of the transmitter. -/
theorem boundaryEffect_keepsLine : KeepsLine s (boundaryEffect s) := by
  have call : s.transmitter.state ≠ .off → s.transmitter.state ≠ .markIdle → lineSound s →
      s.receiver.line.onCall = true := fun off mark sound => onCall_of_sends sound (.inl ⟨off, mark⟩)
  unfold boundaryEffect
  split
  · exact .refl s
  · exact .ite (startBreak_keepsLine s) fun _ => .ite (fun _ => .refl s) fun _ => startFrame_keepsLine s
  · next state =>
    have onCall := call (by simp [state]) (by simp [state])
    split
    · exact .ite (fun _ => .ite (startBreak_keepsLine s) fun _ => frameOrIdle_keepsLine s onCall) fun _ =>
        nextBit_keepsLine s _ onCall
    · exact .refl s
  · exact .refl s
  · next n state =>
    have onCall := call (by simp [state]) (by simp [state])
    exact .ite (fun _ => .of_call s onCall (flow := s.flow) rfl nofun rfl id) fun _ => endPostBreak_keepsLine s onCall

theorem bitBoundary_keepsLine : KeepsLine s (bitBoundary s) := by
  have taken : KeepsLine s (s.onTransmitter fun t => { t with boundaryDue := false }) :=
    fun ⟨started, receiver, framer, quiet, ⟨out, sounds, runs, _⟩, flow⟩ =>
      ⟨started, receiver, framer, quiet, ⟨out, sounds, runs, nofun⟩, flow⟩
  exact .ite (fun _ => (taken.trans (boundaryEffect_keepsLine _)).trans (settle_keepsLine _)) fun _ => .refl s

/-- R88: the code of a request moves into the empty slot. -/
theorem placeFlowCode_keepsLine {kind : FlowCode} (asked : s.transmitter.flowRequest = some kind) :
    KeepsLine s (placeFlowCode kind s) := by
  refine .of_call s (fun sound => onCall_of_sends sound (.inr (.inr (.inl (by simp [asked]))))) (flow := s.flow) rfl id rfl ?_
  rintro ⟨pause, resume, _, _⟩
  refine ⟨nofun, nofun, fun code h => ⟨?_, rfl⟩, fun code h => ⟨?_, rfl⟩⟩ <;> cases h
  · exact pause asked
  · exact resume asked

/-- R91: the break ends in POST-BREAK; a boundary still due is dropped. -/
theorem enterPostBreak_keepsLine (breaking : s.transmitter.state = .breaking) : KeepsLine s (enterPostBreak s) :=
  .of_call s (fun sound => onCall_of_sends sound (.inl (by simp [breaking]))) (flow := s.flow) rfl nofun rfl id

/-- R7, R12: a character reaches the holding slot on a call alone. -/
theorem deliverLineOut_keepsLine (source : WaitingSource) (character : Byte) :
    KeepsLine s (deliverLineOut source character s) := by
  refine .ite (fun call => ?_) fun _ => .of_eq (by simp)
  have slotted : KeepsLine s (s.onTransmitter fun t => { t with slot := .character character }) :=
    .of_call s (fun _ => call) (flow := s.flow) rfl id rfl fun ⟨pause, resume, _, _⟩ => ⟨pause, resume, nofun, nofun⟩
  cases source <;> exact slotted

/-! ### Remote pause (R104, R105) -/

theorem setRemotePause_keepsLine (call : s.receiver.line.onCall = true) : KeepsLine s (setRemotePause s) :=
  .of_call s (fun _ => call) (transmitter := s.transmitter) rfl id rfl id

theorem clearRemotePause_keepsLine : KeepsLine s (clearRemotePause s) := by
  rintro ⟨started, receiver, framer, quiet, transmitter, flow⟩
  refine ⟨started, receiver, framer, fun off => ?_, transmitter, flow⟩
  obtain ⟨state, slot, shifter, request, pending, timer, clear, print, ring, _⟩ := quiet off
  exact ⟨state, slot, shifter, request, pending, timer, clear, print, ring, rfl, rfl⟩

end
end Sys2Proof.Machine

namespace Sys2Proof.Machine

/-! ### The framer (R65 to R67) -/

/-- R65 to R67: what `framerSound` asks of the frame in progress. -/
def FrameProgress.sound (p : FrameProgress) : Prop :=
  p.bit ≤ 9 ∧ 1 ≤ p.sample ∧ p.sample ≤ 16 ∧ ¬ (p.bit = 9 ∧ p.sample = 16) ∧
  p.votes.length = p.bit + (if 9 ≤ p.sample then 1 else 0) ∧
  p.early.length = (if p.sample < 7 then 0 else if p.sample = 7 then 1 else 2)

theorem framerSound_iff (s : State) :
    framerSound s ↔ s.receiver.formatCode ≤ 7 ∧ ∀ p, s.receiver.framer = .frame p → p.sound := Iff.rfl

/-- R64, R66: the voted stop bit is bit 9 in every format. -/
theorem stopBitIndex_eq {format : Nat} (known : format ≤ 7) : stopBitIndex format = 9 := by
  interval_cases format <;> rfl

/-- R65, R66: the frame after one more decision, by the sample that came before it. -/
theorem FrameProgress.advance_decide {p : FrameProgress} (le : p.sample ≤ 16) (tone : Tone) :
    p.advance.decide tone =
      if p.sample = 16 then { p with bit := p.bit + 1, sample := 1, early := [] }
      else if p.sample = 6 ∨ p.sample = 7 then { p with sample := p.sample + 1, early := p.early ++ [tone] }
      else if p.sample = 8 then
        { p with
          sample := 9, votes := p.votes ++ [vote (p.early.getD 0 tone) (p.early.getD 1 tone) tone]
          noise := p.noise || !unanimous (p.early.getD 0 tone) (p.early.getD 1 tone) tone }
      else { p with sample := p.sample + 1 } := by
  unfold FrameProgress.advance FrameProgress.decide
  by_cases last : p.sample = 16
  · simp [last]
  · have inside : p.sample < 16 := by omega
    simp only [if_pos inside, if_neg last]
    by_cases early : p.sample = 6 ∨ p.sample = 7
    · have kept : p.sample + 1 = 7 ∨ p.sample + 1 = 8 := by omega
      rw [if_pos kept, if_pos early]
    · have passed : ¬ (p.sample + 1 = 7 ∨ p.sample + 1 = 8) := by omega
      rw [if_neg passed, if_neg early]
      by_cases votes : p.sample = 8
      · simp [votes]
      · rw [if_neg (by omega : p.sample + 1 ≠ 9), if_neg votes]

/-- R66: one more decision leaves the frame sound, unless it stands at the last sample of the voted stop bit. -/
theorem FrameProgress.sound_next {p : FrameProgress} (sound : p.sound) (tone : Tone)
    (more : ¬ ((p.advance.decide tone).bit = 9 ∧ (p.advance.decide tone).sample = 16)) :
    (p.advance.decide tone).sound := by
  obtain ⟨bit, first, last, inside, votes, early⟩ := sound
  rw [advance_decide last] at more ⊢
  split at more
  · next ends =>
    simp only [if_pos ends, FrameProgress.sound, List.length_nil]
    split_ifs at votes ⊢ <;> omega
  · next inside =>
    rw [if_neg inside]
    split at more
    · next keeps =>
      simp only [if_pos keeps, FrameProgress.sound, List.length_append, List.length_singleton]
      split_ifs at votes early ⊢ <;> omega
    · next passes =>
      rw [if_neg passes]
      split at more
      · next decides =>
        simp only [if_pos decides, FrameProgress.sound, List.length_append, List.length_singleton]
        split_ifs at votes early ⊢ <;> omega
      · next runs =>
        simp only [if_neg runs, FrameProgress.sound] at more ⊢
        split_ifs at votes early ⊢ <;> omega

section
variable {format : Nat} {framer next : Framer} {tone : Tone}

/-- R65 to R68: a framer that goes on is stopped only if it was, and its frame in progress is sound. -/
theorem framerStep_continues (known : format ≤ 7) (sound : ∀ p, framer = .frame p → p.sound)
    (step : framerStep format framer tone = .continues next) :
    (next = .stopped ↔ framer = .stopped) ∧ ∀ p, next = .frame p → p.sound := by
  have fresh : FrameProgress.sound ⟨0, 1, [], [], false⟩ := by simp [FrameProgress.sound]
  unfold framerStep at step
  split at step
  · cases step
    exact ⟨Iff.rfl, nofun⟩
  · split at step <;> cases step
    · exact ⟨by simp, fun p h => by cases h; exact fresh⟩
    · exact ⟨by simp, nofun⟩
  · cases step
    split <;> exact ⟨by simp, nofun⟩
  · next p =>
    dsimp only at step
    split at step
    · cases step
      exact ⟨by simp, nofun⟩
    · split at step
      · split at step <;> cases step
      · next more =>
        cases step
        rw [stopBitIndex_eq known] at more
        exact ⟨by simp, fun _ h => by cases h; exact FrameProgress.sound_next (sound p rfl) tone more⟩

/-- R67: at the end of a frame the framer is in HUNT. -/
theorem framerStep_frameEnds {f : FrameProgress} (step : framerStep format framer tone = .frameEnds next f) :
    next = .hunt tone := by
  unfold framerStep at step
  split at step
  · cases step
  · split at step <;> cases step
  · cases step
  · dsimp only at step
    split at step
    · cases step
    · split at step
      · split at step <;> cases step
        rfl
      · cases step

end

/-! ### The samples of the line (R51, R54, R55, R60 to R71) -/

section
variable (s : State)

/-- R66: in DATA the framer may move to any state but its stop. -/
theorem setFramer_keepsLine {next : Framer} (data : s.receiver.line = .data) (runs : next ≠ .stopped)
    (frames : framerSound s → ∀ p, next = .frame p → p.sound) : KeepsLine s (setFramer next s) := by
  rintro ⟨started, ⟨listen, qualify, fade, carrier, window, _, _⟩, framer, quiet, transmitter, flow⟩
  have call : s.receiver.line.onCall = true := by rw [data]; rfl
  refine ⟨started, ⟨listen, qualify, fade, carrier, window, iff_of_false runs ?_, fun faded => ?_⟩,
    ⟨framer.1, frames framer⟩, quiet, transmitter, flow⟩
  · exact fun off => Bool.noConfusion (call.symm.trans off)
  · exact LineState.noConfusion (data.symm.trans faded)

theorem judgeFrame_keepsLine (f : ReceivedFrame) (call : s.receiver.line.onCall = true) :
    KeepsLine s (judgeFrame f s) := by
  unfold judgeFrame
  exact .ite (fun _ => setRemotePause_keepsLine s call) fun _ => .ite (fun _ => clearRemotePause_keepsLine s) fun _ =>
    .ite (fun _ => .of_eq (by simp)) fun _ => .of_eq (by simp)

theorem receiveBreak_keepsLine : KeepsLine s (receiveBreak s) := by
  refine KeepsLine.from_eq (clearRemotePause_keepsLine _) ?_
  rw [linePart_abortAnswerback]
  split
  · rw [linePart_flushPrintQueue]
    split <;> simp
  · split <;> simp

/-- R65 to R71: in DATA one tone decision, with what follows at the end of a frame. -/
theorem advanceFramer_keepsLine (tone : Tone) (data : s.receiver.line = .data) : KeepsLine s (advanceFramer tone s) := by
  intro sound
  have call : s.receiver.line.onCall = true := by rw [data]; rfl
  have ⟨_, ⟨_, _, _, _, _, stops, _⟩, framer, _⟩ := sound
  have runs : s.receiver.framer ≠ .stopped := fun h => Bool.noConfusion (call.symm.trans (stops.1 h))
  unfold advanceFramer
  split
  · next next step =>
    obtain ⟨stopped, frames⟩ := framerStep_continues framer.1 framer.2 step
    exact setFramer_keepsLine s data (fun h => runs (stopped.1 h)) (fun _ => frames) sound
  · next next f step =>
    have hunts := framerStep_frameEnds step
    exact judgeFrame_keepsLine _ _ call
      (setFramer_keepsLine s data (by simp [hunts]) (fun _ p h => by simp [hunts] at h) sound)
  · exact receiveBreak_keepsLine _ (setFramer_keepsLine s data nofun nofun sound)

/-- R84: the count of a running bit clock. -/
theorem tickBitClock_keepsLine : KeepsLine s (tickBitClock s) := by
  rintro ⟨started, receiver, framer, quiet, ⟨out, sounds, runs, due⟩, flow⟩
  unfold tickBitClock
  cases clock : s.transmitter.bitClock with
  | none =>
    rw [show s.onTransmitter _ = s by simp [State.onTransmitter, clock]]
    exact ⟨started, receiver, framer, quiet, ⟨out, sounds, runs, due⟩, flow⟩
  | some n =>
    have on : s.transmitter.state ≠ .off := runs.1 (by simp [clock])
    by_cases more : n + 1 < 16
    · rw [show s.onTransmitter _ = s.onTransmitter fun t => { t with bitClock := some (n + 1) } by
        simp [State.onTransmitter, clock, more]]
      exact ⟨started, receiver, framer, quiet, ⟨out, sounds, iff_of_true nofun on, due⟩, flow⟩
    · rw [show s.onTransmitter _ = s.onTransmitter fun t => { t with bitClock := some 0, boundaryDue := true } by
        simp [State.onTransmitter, clock, more]]
      exact ⟨started, receiver, framer, quiet, ⟨out, sounds, iff_of_true nofun on, fun _ => on⟩, flow⟩

theorem recordSample_keepsLine (energy : Byte) : KeepsLine s (recordSample energy s) :=
  KeepsLine.trans (t := s.onReceiver fun r =>
    { r with history := pushEnergy energy r.history, energy := sampleAverage energy r }) id (tickBitClock_keepsLine _)

/-- R51, R55: the carrier arrives in LISTEN or in FADE. -/
theorem carrierArrives_keepsLine (tone : Tone) (absent : s.receiver.carrier = false) (active : s.receiver.line ≠ .idle) :
    KeepsLine s (carrierArrives tone s) := by
  rintro ⟨started, receiver, framer, quiet, transmitter, flow⟩
  have ⟨_, _, _, carrier, _⟩ := receiver
  unfold carrierArrives
  dsimp only
  split
  · next listen =>
    refine ⟨started, ?_, framer, fun _ => quiet (by rw [listen]; rfl), ?_, flow⟩
    · rw [receiverSound] at receiver ⊢
      simp_all [LineState.onCall]
    · simpa [transmitterSound, listen, LineState.onCall] using transmitter
  · next fade =>
    refine advanceFramer_keepsLine _ tone rfl ⟨started, ?_, ⟨framer.1, nofun⟩, nofun, ?_, flow⟩
    · rw [receiverSound] at receiver ⊢
      simp_all [LineState.onCall]
    · simpa [transmitterSound, fade, LineState.onCall] using transmitter
  · next listens fades =>
    have present : s.receiver.line = .qualify ∨ s.receiver.line = .data := by
      cases line : s.receiver.line <;> simp_all
    rw [carrier.2 present] at absent
    cases absent

/-- R51, R54: the carrier leaves in QUALIFY or in DATA. -/
theorem carrierLeaves_keepsLine (present : s.receiver.carrier = true) : KeepsLine s (carrierLeaves s) := by
  rintro ⟨started, receiver, framer, quiet, transmitter, flow⟩
  have ⟨_, _, _, carrier, _⟩ := receiver
  unfold carrierLeaves
  dsimp only
  split
  · next qualify =>
    refine ⟨started, ?_, framer, fun _ => quiet (by rw [qualify]; rfl), ?_, flow⟩
    · rw [receiverSound] at receiver ⊢
      simp_all [LineState.onCall]
    · simpa [transmitterSound, qualify, LineState.onCall] using transmitter
  · next data =>
    refine ⟨started, ?_, ⟨framer.1, nofun⟩, nofun, ?_, flow⟩
    · rw [receiverSound] at receiver ⊢
      simp_all [LineState.onCall]
    · simpa [transmitterSound, data, LineState.onCall] using transmitter
  · next qualifies calls => exact absurd (carrier.1 present) (not_or.2 ⟨qualifies, calls⟩)

/-- R61 to R71: one sample of the line, whatever it brings about. -/
theorem sampleLine_keepsLine (line : LineInput) : KeepsLine s (sampleLine line s) := by
  unfold sampleLine lineSample
  refine .ite (fun _ => .refl s) fun active => ?_
  have recorded : ∀ energy, (recordSample energy s).receiver.line = s.receiver.line ∧
      (recordSample energy s).receiver.carrier = s.receiver.carrier := fun energy => by
    rw [(recordSample_blocks s energy).1]
    exact ⟨rfl, rfl⟩
  dsimp only
  refine ((recordSample_keepsLine s (heard line s.receiver).energy).trans ?_).trans (settle_keepsLine _)
  refine .ite (fun arrives => ?_) fun _ => .ite (fun leaves => ?_) fun _ => .ite (fun data => ?_) fun _ => .refl _
  · exact carrierArrives_keepsLine _ _ ((recorded _).2.trans arrives.1) (by rwa [(recorded _).1])
  · exact carrierLeaves_keepsLine _ ((recorded _).2.trans leaves.1)
  · exact advanceFramer_keepsLine _ _ ((recorded _).1.trans data)

end

end Sys2Proof.Machine

namespace Sys2Proof.Machine

section
variable (s : State)

/-! ### Local functions, setup and commands -/

theorem breakFunction_keepsLine : KeepsLine s (breakFunction s) := by
  refine .ite (fun taken => requestBreak_keepsLine s _ ?_) fun _ => .of_eq (by simp)
  unfold judgeBreak at taken
  split at taken
  · next call => exact call
  · cases taken

theorem lineLocalFunction_keepsLine : KeepsLine s (lineLocalFunction s) :=
  .ite (fun idle => (enterListen_keepsLine s idle).then_eq (by simp)) fun _ =>
    (enterIdle_keepsLine s).then_eq (by simp)

@[simp] theorem linePart_hereIsFunction : linePart (hereIsFunction s) = linePart s := by
  unfold hereIsFunction; split <;> simp

@[simp] theorem linePart_tabSetFunction : linePart (tabSetFunction s) = linePart s := by
  unfold tabSetFunction
  split
  · split
    · rfl
    · simp
  · simp

@[simp] theorem linePart_duplexFunction : linePart (duplexFunction s) = linePart s := by
  unfold duplexFunction; dsimp only; split <;> simp

/-- A local function records itself, acts, and its event leaves the key queue. -/
theorem localFunction_keepsLine (code : Byte) {act : State → State} (acts : ∀ t, KeepsLine t (act t)) :
    KeepsLine s (finishEvent (act (recordFunction code s))) :=
  ((acts _).from_eq (linePart_recordFunction s code)).then_eq (linePart_finishEvent _)

/-- R42: of the keys only BREAK and LINE/LOCAL move the line. -/
theorem actOnCode_keepsLine (code : Byte) : KeepsLine s (actOnCode code s) := by
  unfold actOnCode
  split
  · exact .of_eq (by simp)
  · exact .of_eq (by simp)
  · exact localFunction_keepsLine s code breakFunction_keepsLine
  · exact localFunction_keepsLine s code lineLocalFunction_keepsLine
  · exact localFunction_keepsLine s code fun t => .of_eq (by simp)
  · exact localFunction_keepsLine s code fun t => .of_eq (by simp)
  · exact localFunction_keepsLine s code fun t => .of_eq (linePart_of_frame (tabClearFunction_frame t) (by decide))
  · exact localFunction_keepsLine s code fun t => .of_eq rfl
  · exact .ite (fun _ => .of_eq (by simp)) fun _ => .of_eq (by simp)
  · exact localFunction_keepsLine s code fun t => .of_eq (by simp)
  · exact localFunction_keepsLine s code fun t => .of_eq rfl

theorem translate_keepsLine (data : Byte) : KeepsLine s (translate data s) := by
  unfold translate
  split
  · exact .refl s
  · exact actOnCode_keepsLine s _

/-- R64: a setup byte is taken in IDLE alone, where neither the transmitter nor the framer depends on it. -/
theorem writeLineSetup_keepsLine (data : Byte) : KeepsLine s (writeLineSetup data s) := by
  refine .ite (fun idle => ?_) fun _ => .of_eq (by simp)
  rintro ⟨started, receiver, framer, quiet, ⟨out, rest⟩, flow⟩
  have code : field data 4 3 ≤ 7 := Nat.le_of_lt_succ (Nat.mod_lt _ (by decide))
  refine ⟨started, receiver, ⟨code, framer.2⟩, quiet, ⟨out.trans ?_, rest⟩, flow⟩
  simp [idle]

theorem writeLineOptions_keepsLine (data : Byte) : KeepsLine s (writeLineOptions data s) := by
  have taken : KeepsLine s (s.onReceiver fun r => { r with options := optionsOfByte data }) := id
  exact .ite (fun _ => taken) fun _ => taken.trans (clearRemotePause_keepsLine _)

theorem lineOnEffect_keepsLine (channel : Channel) : KeepsLine s (lineOnEffect channel s) := by
  refine .ite (fun idle => ?_) fun _ => .of_eq (by simp)
  have written : KeepsLine s (s.onReceiver fun r => { r with channel := channel }) := by
    rintro ⟨started, receiver, framer, quiet, ⟨out, rest⟩, flow⟩
    exact ⟨started, receiver, framer, quiet, ⟨out.trans (by simp [idle]), rest⟩, flow⟩
  exact (written.trans (enterListen_keepsLine _ idle)).then_eq (by simp)

theorem lineOffEffect_keepsLine : KeepsLine s (lineOffEffect s) :=
  (KeepsLine.ite (fun _ => .refl s) fun _ => enterIdle_keepsLine s).then_eq (linePart_setResult _ _)

theorem sendBreakEffect_keepsLine : KeepsLine s (sendBreakEffect s) := by
  unfold sendBreakEffect
  split
  · next taken =>
    refine (requestBreak_keepsLine s true ?_).then_eq (linePart_startCommand _ _)
    unfold judgeBreak at taken
    split at taken
    · next call => exact call
    · cases taken
  · exact .of_eq (by simp)
  · exact .of_eq (by simp)

/-- R182: RESTART moves the line by its entry to IDLE alone. -/
theorem restartEffect_keepsLine : KeepsLine s (restartEffect s) := by
  have keyboard : ∀ t, linePart (restartKeyboard t) = linePart t := fun t => by
    rw [restartKeyboard, linePart_discardTranslation]
    rfl
  have idle : KeepsLine s (enterIdle (startCommand .restart s)) :=
    (enterIdle_keepsLine _).from_eq (linePart_startCommand _ _)
  refine idle.then_eq ?_
  have firing : ∀ t, linePart (restartFiring t) = linePart t := fun t =>
    (linePart_of_frame (restartDot_frame _) (by decide)).trans (by simp)
  have rings : ∀ t, linePart (restartRings t) = linePart t := fun t => by simp [restartRings]
  have carriage : ∀ t, linePart (restartCarriage t) = linePart t := fun t => rfl
  have tones : ∀ t, linePart (restartTones t) = linePart t := fun t => rfl
  have clears : ∀ t, linePart (restartClears t) = linePart t := fun t => rfl
  rw [restartEffect, clears, firing, carriage, tones, keyboard, rings, linePart_abortAnswerback]

theorem takeCommand_keepsLine (code : Byte) : KeepsLine s (takeCommand code s) := by
  refine KeepsLine.from_eq (t := s.onCommand fun c => { c with last := code }) ?_ rfl
  unfold takeCommand
  dsimp only
  split
  · exact lineOnEffect_keepsLine _ _
  · exact lineOnEffect_keepsLine _ _
  · exact lineOffEffect_keepsLine _
  · exact sendBreakEffect_keepsLine _
  · unfold sendAnswerbackEffect
    split <;> exact .of_eq (by simp)
  · unfold setModeEffect
    split <;> exact .of_eq (by simp)
  · exact .of_eq (by simp [flushPrintEffect])
  · exact .ite (fun _ => .of_eq (by simp)) fun _ => .of_eq (by simp)
  · exact .ite (fun _ => .ite (fun _ => .of_eq rfl) fun _ => .of_eq rfl) fun _ => .of_eq rfl
  · exact .ite (fun _ => .of_eq rfl) fun _ => .of_eq rfl
  · exact .of_eq rfl
  · exact restartEffect_keepsLine _
  · exact .of_eq (by simp)

theorem writeControl_keepsLine (offset : Offset) (data : Byte) : KeepsLine s (writeControl offset data s) := by
  unfold writeControl
  split
  case h_1 => exact takeCommand_keepsLine s data
  case h_9 => exact writeLineSetup_keepsLine s data
  case h_10 => exact writeLineOptions_keepsLine s data
  case h_11 | h_12 | h_13 | h_14 | h_15 | h_16 | h_17 | h_29 | h_19 | h_20 => exact id
  case h_21 | h_22 | h_23 | h_24 => exact .of_eq (linePart_of_frame (setRow_frame _ _ s) (by decide))
  case h_25 | h_26 | h_27 | h_30 | h_31 | h_32 =>
    exact .of_eq (linePart_of_frame (writeRingPlacement_frame _ data s) (by decide))
  case h_34 | h_35 => exact .of_eq ((linePart_requestHeaderLoad _).trans rfl)
  case h_37 => exact .ite (fun _ => .of_eq rfl) fun _ => .of_eq rfl
  case h_42 | h_43 | h_44 => exact .of_eq (linePart_of_frame (writeAnswerbackSetup_frame s _ data) (by decide))
  all_goals exact .of_eq rfl

/-! ### Host cycles and grants -/

theorem passCycle_keepsLine (c : HostCycle) : KeepsLine s (passCycle c s) := by
  cases c with
  | read address data outcome =>
    cases outcome with
    | control offset =>
      exact .ite (fun _ => .of_eq ((linePart_of_frame (takeAttention_frame _) (by decide)).trans rfl)) fun _ => .of_eq rfl
    | passed consume =>
      refine .ite (fun _ => KeepsLine.trans (.of_eq ?_) (settle_keepsLine _)) fun _ => .of_eq rfl
      rw [linePart_of_frame (consumeRecord_frame _) (by decide)]
      rfl
  | write address data outcome =>
    cases outcome with
    | commandBusy => exact .of_eq rfl
    | withheld cause => exact .of_eq rfl
    | control offset =>
      refine KeepsLine.trans ?_ (settle_keepsLine _)
      exact (writeControl_keepsLine (driveMemory [.write address data] s) offset data).from_eq rfl
    | passed head entry =>
      have captured : ∀ t, linePart (captureHead t) = linePart t := fun t => by
        unfold captureHead
        split
        · rfl
        · simp
      have headers : ∀ t, linePart (reportWrite head entry data t) = linePart (if head then captureHead t else t) :=
        fun t => by cases entry <;> rfl
      refine .of_eq ((headers _).trans ?_)
      split
      · rw [captured]; rfl
      · rfl

/-- R172: with no start-up fetch asked for, the grant that starts is another one. -/
theorem startNextGrant_keepsLine : KeepsLine s (startNextGrant s) := by
  rintro ⟨⟨released, asked, grant⟩, rest⟩
  have keeps : ∀ f : Arbiter → Arbiter, (f s.arbiter).startUp = .absent → (f s.arbiter).grant ≠ some .startUp →
      lineSound (s.onArbiter f) := fun f wait other => ⟨⟨released, wait, other⟩, rest⟩
  unfold startNextGrant
  cases found : firstWaiting s.arbiter with
  | none => exact ⟨⟨released, asked, grant⟩, rest⟩
  | some r =>
    have waits : s.arbiter.wait r ≠ .absent := by simpa using List.find?_some found
    cases r with
    | startUp => exact absurd asked waits
    | receiveWriter =>
      dsimp only
      split
      · exact ⟨⟨released, asked, grant⟩, rest⟩
      · exact keeps _ asked nofun
    | font => exact keeps _ asked nofun
    | keymap =>
      dsimp only
      unfold beginKeymapGrant
      split
      · exact ⟨⟨released, asked, grant⟩, rest⟩
      · next read _ _ => exact keeps _ asked (by cases read <;> nofun)
    | answerback => exact keeps _ asked nofun
    | sendRing => exact keeps _ asked nofun

theorem runCycle_keepsLine (c : HostCycle) : KeepsLine s (runCycle c s) :=
  .ite (fun _ => .of_eq rfl) fun _ =>
    .ite (fun _ => (startNextGrant_keepsLine _).from_eq rfl) fun _ => passCycle_keepsLine s c

theorem passHeld_keepsLine : KeepsLine s (passHeld s) := by
  unfold passHeld
  split
  · exact .refl s
  · next c _ =>
    refine KeepsLine.then_eq ?_ (linePart_onPins _ _)
    exact (passCycle_keepsLine (s.onArbiter fun a => { a with held := none }) c).from_eq rfl

/-- R171: a grant ends with its owner's action on the data. -/
theorem finishGrant_keepsLine (cycles : List MemCycle) {act : State → State} (h : ∀ t, KeepsLine t (act t)) :
    KeepsLine s (finishGrant cycles act s) := by
  have ended : KeepsLine s (grantEnded cycles s) := fun ⟨⟨released, asked, _⟩, rest⟩ =>
    ⟨⟨released, asked, nofun⟩, rest⟩
  exact ((ended.trans (h (grantEnded cycles s))).trans (settle_keepsLine _)).trans (passHeld_keepsLine _)

theorem unlessDiscarded_keepsLine {act : State → State} (h : ∀ t, KeepsLine t (act t)) (discarded : Bool) (t : State) :
    KeepsLine t (unlessDiscarded discarded act t) :=
  .ite (fun _ => .refl t) fun _ => h t

/-- A grant whose owner's action on the data leaves the line alone. -/
theorem finishOther_keepsLine (cycles : List MemCycle) (discarded : Bool) {act : State → State}
    (h : ∀ t, linePart (act t) = linePart t) : KeepsLine s (finishGrant cycles (unlessDiscarded discarded act) s) :=
  finishGrant_keepsLine s cycles (unlessDiscarded_keepsLine (fun t => .of_eq (h t)) discarded)

@[simp] theorem linePart_loadHeader (b0 b1 b2 b3 : Byte) : linePart (loadHeader b0 b1 b2 b3 s) = linePart s := rfl
@[simp] theorem linePart_holdSendByte (data : Byte) : linePart (holdSendByte data s) = linePart s := rfl
@[simp] theorem linePart_holdAnswerbackByte (data : Byte) : linePart (holdAnswerbackByte data s) = linePart s := rfl
@[simp] theorem linePart_chooseRepeat : linePart (chooseRepeat s) = linePart s :=
  linePart_of_frame (chooseRepeat_frame s) (by decide)

@[simp] theorem linePart_advanceReceiveHead : linePart (advanceReceiveHead s) = linePart s := by
  unfold advanceReceiveHead; dsimp only; split <;> simp

theorem deliver_keepsLine (source : WaitingSource) (character : Byte) : KeepsLine s (deliver source character s) := by
  have sent : KeepsLine s (if (s.switch.row source).lineOut then deliverLineOut source character s else s) :=
    .ite (fun _ => deliverLineOut_keepsLine s source character) fun _ => .refl s
  unfold deliver
  refine sent.then_eq ?_
  dsimp only
  split
  · rw [linePart_offerRecord]
    split <;> simp
  · split <;> simp

@[simp] theorem linePart_leaveSource (source : WaitingSource) : linePart (leaveSource source s) = linePart s := by
  cases source with
  | keyboard => simp [leaveSource]
  | sendRing =>
    unfold leaveSource advanceSendTail
    dsimp only
    split <;> simp
  | answerback =>
    unfold leaveSource advanceAnswerback
    dsimp only
    split
    · exact (linePart_of_frame (completeAnswerback_frame _) (by decide)).trans rfl
    · simp

end

end Sys2Proof.Machine

namespace Sys2Proof.Machine

section
variable (s : State)

/-! ### What each command does to the line -/

theorem KeepsLine.next {s t u : State} (h : Host.Outcome.next (φ := Fault) (ρ := Refusal) u = .next t)
    (hu : KeepsLine s u) : KeepsLine s t := Host.Outcome.next.inj h ▸ hu

theorem KeepsLine.ite_next {s t a b : State} {c : Prop} [Decidable c]
    (h : Host.Outcome.next (φ := Fault) (ρ := Refusal) (if c then a else b) = .next t)
    (ha : c → KeepsLine s a) (hb : ¬ c → KeepsLine s b) : KeepsLine s t := .next h (.ite ha hb)

/-- An event of the printer or the keyboard ends with the judgement and leaves the rest of the line alone. -/
theorem KeepsLine.settled {s u : State} (h : linePart u = linePart s) : KeepsLine s (settle u) :=
  (KeepsLine.of_eq h).trans (settle_keepsLine u)

theorem exec_keepsLine {t : State} (i : Instr) (started : i ≠ .pinReset) (h : exec i s = .next t) : KeepsLine s t := by
  cases hc : hostCycleOf i s with
  | some c =>
    rw [exec_of_hostCycleOf s hc] at h
    exact .ite_next h (fun _ => runCycle_keepsLine s c) fun _ => .refl s
  | none =>
    cases i with
    | pinReset => exact absurd rfl started
    | rstiRelease =>
      exact .ite_next h (fun holding ⟨⟨released, _⟩, _⟩ => by rw [released] at holding; cases holding) fun _ => .refl s
    | startUpFetch o0 o1 mv md =>
      exact .ite_next h (fun runs ⟨⟨_, _, other⟩, _⟩ => absurd runs other) fun _ => .refl s
    | carrierPresent low high | carrierAbsent low high | frameReceived low high | receivedBreak low high =>
      exact .ite_next h (fun _ => sampleLine_keepsLine s ⟨low, high⟩) fun _ => .refl s
    | lineSample low high => exact .next h (sampleLine_keepsLine s ⟨low, high⟩)
    | listenExpiry | fadeExpiry =>
      exact .ite_next h (fun _ => ((enterIdle_keepsLine s).then_eq (linePart_raiseLine _ _)).trans (settle_keepsLine _)) fun _ => .refl s
    | qualifyExpiry =>
      exact .ite_next h (fun expires => ((enterData_keepsLine s expires.1).then_eq (linePart_raiseLine _ _)).trans (settle_keepsLine _))
        fun _ => .refl s
    | frameStart | frameEnd | breakStart | postBreakEnd =>
      exact .ite_next h (fun _ => bitBoundary_keepsLine s) fun _ => .refl s
    | bitBoundary => exact .next h (bitBoundary_keepsLine s)
    | breakTimerExpiry => exact .ite_next h (fun expires => enterPostBreak_keepsLine s expires.1) fun _ => .refl s
    | remotePauseTimerExpiry => exact .ite_next h (fun _ => clearRemotePause_keepsLine s) fun _ => .refl s
    | flowCodePlaced =>
      refine .next h ?_
      split
      · next kind asked =>
        exact .ite (fun _ => (placeFlowCode_keepsLine s asked).trans (settle_keepsLine _)) fun _ => .refl s
      · exact .refl s
    | take source =>
      refine .next h ?_
      split
      · refine .ite (fun _ => KeepsLine.trans ?_ (settle_keepsLine _)) fun _ => .refl s
        exact (deliver_keepsLine s source _).then_eq (linePart_leaveSource _ source)
      · exact .refl s
    | synthesisSample =>
      exact .ite_next h (fun _ => .refl s) fun _ => .of_eq (linePart_onTones s (Voice.sample_sounding _ _))
    | grantStart => exact .ite_next h (fun _ => startNextGrant_keepsLine s) fun _ => .refl s
    | waitTimerExpiry r =>
      refine .ite_next h (fun waiting => ?_) fun _ => .refl s
      rintro ⟨⟨released, absent, grant⟩, rest⟩
      cases r with
      | startUp => rw [show s.arbiter.wait .startUp = .absent from absent] at waiting; cases waiting
      | _ => exact ⟨⟨released, absent, grant⟩, rest⟩
    | translationRead data =>
      refine .next h ?_
      split
      · exact finishGrant_keepsLine s _ (unlessDiscarded_keepsLine (fun t => translate_keepsLine t data) _)
      · exact .refl s
    | headerLoad b0 b1 b2 b3 =>
      refine .next h ?_
      split
      · exact finishOther_keepsLine s _ _ fun t => by simp
      · exact .refl s
    | eligibilityRead data =>
      refine .next h ?_
      split
      · exact finishGrant_keepsLine s _ fun t => .of_eq (by simp)
      · exact .refl s
    | glyphFetch c1 c2 c3 c4 c5 =>
      refine .next h ?_
      split
      · exact finishOther_keepsLine s _ _ fun t => by simp
      · exact .refl s
    | receivePlacement =>
      refine .next h ?_
      split
      · exact finishOther_keepsLine s _ _ fun t => by simp
      · exact .refl s
    | sendFetch data | answerbackRead data =>
      refine .next h ?_
      split
      · exact finishOther_keepsLine s _ _ fun t => by simp
      · exact .refl s
    | scanPass readings =>
      refine .ite_next h (fun _ => ?_) fun _ => .refl s
      rw [scanPass_eq]
      exact .settled (linePart_scanEnded s _)
    | entryHandling =>
      refine .next h ?_
      split
      · exact .refl s
      · next e rest _ =>
        exact .ite (fun _ => .settled ((linePart_handleEntry (consumeEntry rest s) e).trans rfl)) fun _ => .refl s
    | backStep =>
      refine .next h ?_
      split
      · exact .of_eq (linePart_completeBackStep s _)
      · exact .refl s
    | settleExpiry =>
      refine .ite_next h (fun _ => ?_) fun _ => .refl s
      exact .ite (fun _ => .of_eq rfl) fun _ => .settled ((linePart_beginFiring _).trans rfl)
    | columnTimerExpiry =>
      refine .ite_next h (fun _ => .settled ?_) fun _ => .refl s
      unfold expireColumn
      dsimp only
      split <;> simp
    | paperOut =>
      exact .ite_next h (fun _ => .ite (fun _ => .settled (by simp)) fun _ => .of_eq rfl) fun _ => .refl s
    | paperPresent => exact .ite_next h (fun _ => .refl s) fun _ => .of_eq rfl
    | repeatTimerExpiry | groupStart => exact .ite_next h (fun _ => .of_eq (by simp)) fun _ => .refl s
    | sounderTimerExpiry | homeSeekStart => exact .ite_next h (fun _ => .of_eq rfl) fun _ => .refl s
    | feedAppend | motionEnd | returnEnd | feedEnd | paperTimerExpiry | homeFound | seekTimerExpiry | strobeRelease
    | sensorReading => exact .ite_next h (fun _ => .settled (by simp)) fun _ => .refl s
    | maskWrite byte data | joinRowWrite byte data | ringPlacementWrite byte data | keymapBaseWrite byte data
    | answerbackSetupWrite byte data | headerCapture byte data => cases byte <;> cases hc
    | _ => cases hc

end
end Sys2Proof.Machine

namespace Sys2Proof.Machine

/-! ### Before the release of the host reset (R164) -/

/-- R164: the part before the release: the pin-reset values, but for the start-up state, what the arbiter holds of the
start-up fetch, the paper sensor, and the commands that wait. -/
def unreleased (startUp : StartUp) (asked : Wait) (grant : Option Grant) (paper : Bool) (pending : List Instr) : State :=
  { State.reset with
    passage := { State.reset.passage with startUp := startUp }
    arbiter := { State.reset.arbiter with startUp := asked, grant := grant }
    pins := { State.reset.pins with paper := paper }
    pending := pending }

/-- R164: what `startUpSound` asks of the part before the release. -/
structure FetchSound (startUp : StartUp) (asked : Wait) (grant : Option Grant) : Prop where
  held : startUp ≠ .released
  grants : grant = none ∨ grant = some .startUp
  fetches : asked ≠ .absent ∨ grant ≠ none → startUp = .fetching
  once : grant = some .startUp → asked = .absent

theorem eq_unreleased {s : State} (sound : startUpSound s) (before : s.passage.startUp ≠ .released) :
    s = unreleased s.passage.startUp s.arbiter.startUp s.arbiter.grant s.pins.paper s.pending ∧
    FetchSound s.passage.startUp s.arbiter.startUp s.arbiter.grant := by
  obtain ⟨_, once, held⟩ := sound
  obtain ⟨passage, arbiter, grants, fetches, pins, rest⟩ := held before
  refine ⟨?_, before, grants, fetches, once⟩
  rw [unreleased, ← passage, ← arbiter, ← pins]
  exact rest

/-- The invariants of the start-up and of the line together. -/
def lineAndStartUpSound (s : State) : Prop :=
  startUpSound s ∧ receiverSound s ∧ framerSound s ∧ offCallQuiet s ∧ transmitterSound s ∧ flowSound s

/-- From the release on, nothing is left for `startUpSound` to say. -/
theorem lineAndStartUpSound_of_lineSound {s : State} (sound : lineSound s) : lineAndStartUpSound s := by
  obtain ⟨⟨released, asked, grant⟩, rest⟩ := sound
  refine ⟨⟨fun fetch => ?_, fun runs => absurd runs grant, fun before => absurd released before⟩, rest⟩
  exact (fetch.elim (absurd asked) grant.elim)

theorem lineSound_of_released {s : State} (sound : lineAndStartUpSound s) (released : s.passage.startUp = .released) :
    lineSound s := by
  obtain ⟨⟨fetches, _, _⟩, rest⟩ := sound
  have idle : ¬ (s.arbiter.startUp ≠ .absent ∨ s.arbiter.grant = some .startUp) := fun fetch => by
    rw [fetches fetch] at released
    cases released
  exact ⟨⟨released, not_not.1 fun asked => idle (.inl asked), fun runs => idle (.inr runs)⟩, rest⟩

section
variable {startUp : StartUp} {asked : Wait} {grant : Option Grant} (paper : Bool) (pending : List Instr)

/-- R164: the pin-reset values of the line are sound. -/
theorem unreleased_line (startUp : StartUp) (asked : Wait) (grant : Option Grant) :
    (let s := unreleased startUp asked grant paper pending
     receiverSound s ∧ framerSound s ∧ offCallQuiet s ∧ transmitterSound s ∧ flowSound s) := by
  simp [receiverSound, framerSound, offCallQuiet, transmitterSound, flowSound, unreleased, State.reset, LineState.onCall,
    Voice.reset]

theorem lineAndStartUpSound_unreleased (sound : FetchSound startUp asked grant) :
    lineAndStartUpSound (unreleased startUp asked grant paper pending) := by
  obtain ⟨held, grants, fetches, once⟩ := sound
  refine ⟨⟨fun fetch => fetches (fetch.imp id fun runs => ?_), once, fun _ => ⟨rfl, rfl, grants, fetches, rfl, rfl⟩⟩,
    unreleased_line paper pending startUp asked grant⟩
  rw [show grant = some .startUp from runs]
  nofun

/-- R165: the option record is taken in IDLE; the line is sound with any channel it gives. -/
theorem startUpFetch_lineSound (cycles : List MemCycle) (o0 o1 : Byte) (millivolts : Nat) (millidegrees : Int) :
    lineSound (finishGrant cycles (fun t => beginBlocks millivolts millidegrees (takeOptions o0 o1 t))
      (unreleased .fetching .absent (some .startUp) paper pending)) := by
  let ended := grantEnded cycles (unreleased .fetching .absent (some .startUp) paper pending)
  have begins : ∀ t, linePart (beginBlocks millivolts millidegrees t) = linePart t := fun t => by simp [beginBlocks]
  have taken : lineSound (takeOptions o0 o1 ended) := by
    refine ⟨⟨rfl, rfl, nofun⟩, ?_⟩
    simp [receiverSound, framerSound, offCallQuiet, transmitterSound, flowSound, takeOptions, ended, grantEnded,
      driveMemory, unreleased, State.reset, LineState.onCall, Voice.reset]
  exact ((KeepsLine.of_eq (begins _)).trans (settle_keepsLine _)).trans (passHeld_keepsLine _) taken

/-- R164: before the release a command moves the start-up, its fetch or the paper sensor, or nothing. -/
theorem exec_unreleased {t : State} (i : Instr) (sound : FetchSound startUp asked grant)
    (h : exec i (unreleased startUp asked grant paper pending) = .next t) : lineAndStartUpSound t := by
  have stays := lineAndStartUpSound_unreleased paper pending sound
  have same : ∀ {u : State}, u = unreleased startUp asked grant paper pending →
      Host.Outcome.next (φ := Fault) (ρ := Refusal) u = .next t → lineAndStartUpSound t := fun hu h => by
    cases h
    rwa [hu]
  obtain ⟨held, grants, fetches, once⟩ := sound
  have unfetched : startUp = .holding → asked = .absent ∧ grant = none := fun holding => by
    have no := mt fetches (by rw [holding]; nofun)
    simpa [not_or] using no
  cases hc : hostCycleOf i (unreleased startUp asked grant paper pending) with
  | some c =>
    rw [exec_of_hostCycleOf _ hc] at h
    have may : hostMayCycle (unreleased startUp asked grant paper pending) = false := by
      simp [hostMayCycle, unreleased, held]
    rw [may] at h
    exact same rfl h
  | none =>
    cases i with
    | pinReset =>
      cases h
      exact lineAndStartUpSound_unreleased paper pending ⟨nofun, .inl rfl, fun fetch => by simp at fetch, nofun⟩
    | rstiRelease =>
      cases startUp with
      | holding =>
        obtain ⟨rfl, rfl⟩ := unfetched rfl
        cases h
        exact lineAndStartUpSound_unreleased paper pending ⟨nofun, .inl rfl, fun _ => rfl, nofun⟩
      | _ => exact same rfl h
    | startUpFetch o0 o1 mv md =>
      rcases grants with rfl | rfl
      · exact same rfl h
      · obtain rfl := fetches (.inr nofun)
        obtain rfl := once rfl
        cases h
        exact lineAndStartUpSound_of_lineSound (startUpFetch_lineSound paper pending _ o0 o1 mv md)
    | grantStart =>
      rcases grants with rfl | rfl
      · cases asked with
        | absent => exact same rfl h
        | _ =>
          cases h
          exact lineAndStartUpSound_unreleased paper pending ⟨held, .inr rfl, fun _ => fetches (.inl nofun), fun _ => rfl⟩
      · exact same rfl h
    | waitTimerExpiry r =>
      cases r with
      | startUp =>
        cases asked with
        | waiting =>
          cases h
          exact lineAndStartUpSound_unreleased paper pending
            ⟨held, grants, fun _ => fetches (.inl nofun), fun runs => nomatch once runs⟩
        | _ => exact same rfl h
      | _ => exact same rfl h
    | paperOut =>
      cases paper with
      | true =>
        cases startUp with
        | released => exact absurd rfl held
        | _ =>
          cases h
          exact lineAndStartUpSound_unreleased false pending ⟨held, grants, fetches, once⟩
      | false => exact same rfl h
    | paperPresent =>
      cases paper with
      | true => exact same rfl h
      | false =>
        cases h
        exact lineAndStartUpSound_unreleased true pending ⟨held, grants, fetches, once⟩
    | synthesisSample => exact same (by cases startUp <;> rfl) h
    | headerLoad | eligibilityRead | translationRead | glyphFetch | receivePlacement | sendFetch | answerbackRead =>
      rcases grants with rfl | rfl <;> exact same rfl h
    | take source => cases source <;> exact same rfl h
    | maskWrite byte data | joinRowWrite byte data | ringPlacementWrite byte data | keymapBaseWrite byte data
    | answerbackSetupWrite byte data | headerCapture byte data => cases byte <;> cases hc
    | scanPass | repeatTimerExpiry | feedAppend | carrierPresent | carrierAbsent | listenExpiry | qualifyExpiry
    | fadeExpiry | frameReceived | receivedBreak | frameStart | frameEnd | flowCodePlaced | breakStart
    | breakTimerExpiry | postBreakEnd | remotePauseTimerExpiry | sounderTimerExpiry | entryHandling | motionEnd
    | returnEnd | feedEnd | paperTimerExpiry | homeSeekStart | homeFound | seekTimerExpiry | backStep | settleExpiry
    | strobeRelease | groupStart | columnTimerExpiry | sensorReading | lineSample | bitBoundary => exact same rfl h
    | _ => cases hc

end

/-! ### Every step -/

theorem exec_lineAndStartUpSound {s t : State} (i : Instr) (sound : lineAndStartUpSound s) (h : exec i s = .next t) :
    lineAndStartUpSound t := by
  by_cases released : s.passage.startUp = .released
  · by_cases reset : i = .pinReset
    · subst reset
      cases h
      exact lineAndStartUpSound_unreleased s.pins.paper s.pending
        ⟨nofun, .inl rfl, fun fetch => fetch.elim (absurd rfl) (absurd rfl), nofun⟩
    · exact lineAndStartUpSound_of_lineSound (exec_keepsLine s i reset h (lineSound_of_released sound released))
  · obtain ⟨same, fetch⟩ := eq_unreleased sound.1 released
    rw [same] at h
    exact exec_unreleased _ _ i fetch h

/-- The commands that wait are no part of what the invariants say. -/
theorem lineAndStartUpSound_pending {s : State} (rest : List Instr) (sound : lineAndStartUpSound s) :
    lineAndStartUpSound { s with pending := rest } := by
  obtain ⟨⟨fetches, once, held⟩, line⟩ := sound
  refine ⟨⟨fetches, once, fun before => ?_⟩, line⟩
  obtain ⟨passage, arbiter, grants, starts, pins, whole⟩ := held before
  exact ⟨passage, arbiter, grants, starts, pins, congrArg (fun u : State => { u with pending := rest }) whole⟩

/-- Settles O56: before the release of the host reset the line stands at its pin-reset values, and from the release on
every operation that moves the line keeps what the chapters promise of it. -/
theorem lineInvariant : Obligations.LineInvariant := by
  intro s t sound h
  unfold step at h
  split at h
  · exact Host.Outcome.next.inj h ▸ sound
  · next command rest _ => exact exec_lineAndStartUpSound command (lineAndStartUpSound_pending rest sound) h

end Sys2Proof.Machine

namespace Sys2Proof.Machine

/-! ## The samples of the line (R51, R54, R55, R60 to R62, R65, R66, R84) -/

section
variable {s : State} {line : LineInput} {energy : Byte} {tone : Tone}

/-! ### The carrier after a sample (R62) -/

theorem sampleCarrier_of_loud (loud : s.receiver.onThreshold.toNat ≤ sampleE energy s) :
    sampleCarrier energy s.receiver = true := by
  rw [sampleCarrier, sampleAverage_eq, LineReceiver.judgeCarrier, if_pos loud]

theorem sampleCarrier_of_lost (lost : sampleE energy s < offThreshold s) : sampleCarrier energy s.receiver = false := by
  have below : offThreshold s ≤ s.receiver.onThreshold.toNat := min_le_right _ _
  rw [sampleCarrier, sampleAverage_eq, LineReceiver.judgeCarrier, if_neg (by omega), offInForce_toNat, if_pos lost]

theorem sampleCarrier_of_absent (absent : s.receiver.carrier = false)
    (quiet : sampleE energy s < s.receiver.onThreshold.toNat) : sampleCarrier energy s.receiver = false := by
  rw [sampleCarrier, sampleAverage_eq, LineReceiver.judgeCarrier, if_neg (Nat.not_le.2 quiet), absent, ite_self]

/-! ### What the sample does (R51, R54, R55, R66) -/

/-- R60, R61: a sample is recorded and judged, and the event settles. -/
theorem sampleLine_eq (hears : heardBy s line = ⟨energy, tone⟩) (active : s.receiver.line ≠ .idle) :
    sampleLine line s = settle (
      if s.receiver.carrier = false ∧ sampleCarrier energy s.receiver = true then
        carrierArrives tone (recordSample energy s)
      else if s.receiver.carrier = true ∧ sampleCarrier energy s.receiver = false then
        carrierLeaves (recordSample energy s)
      else if s.receiver.line = .data then advanceFramer tone (recordSample energy s)
      else recordSample energy s) := by
  rw [sampleLine, heard_eq_heardBy, hears, lineSample, if_neg active]

/-- A sample that leaves the carrier as it stands reaches the framer in DATA, and goes no further elsewhere. -/
theorem sampleLine_steady (hears : heardBy s line = ⟨energy, tone⟩) (active : s.receiver.line ≠ .idle)
    (steady : sampleCarrier energy s.receiver = s.receiver.carrier) :
    sampleLine line s =
      settle (if s.receiver.line = .data then advanceFramer tone (recordSample energy s) else recordSample energy s) := by
  rw [sampleLine_eq hears active, steady]
  cases s.receiver.carrier <;> simp

/-- A sample that is no more than a record and a move of the Line Receiver. -/
theorem sampleOnly_settle {u : State} (frame : changesOnly [.receiver] (recordSample energy s) u) :
    sampleOnly s (settle u) := by
  obtain ⟨_, ticked, clocked, recorded⟩ := recordSample_blocks s energy
  have transmitter : u.transmitter = (recordSample energy s).transmitter := frame .transmitter (by decide)
  have flow : u.flow = s.flow := (frame .flow (by decide)).trans (recorded .flow (by decide))
  have switch : u.switch = s.switch := (frame .switch (by decide)).trans (recorded .switch (by decide))
  have clock := settle_clock u
  rw [transmitter] at clock
  refine ⟨?_, ?_, onlySettles_of_settle switch flow ?_⟩
  · unfold clockTicked
    rw [clock.1, clock.2]
    exact ticked
  · exact (settle_changesOnly u).after (by decide) (frame.after (by decide) (recorded.mono (by decide)))
  · rw [clock.1, clock.2, transmitter]
    exact clocked

/-- A sample that moves the recorded Line Receiver by `f`, and nothing else. -/
theorem sampleLine_moves {f : LineReceiver → LineReceiver}
    (h : sampleLine line s = settle ((recordSample energy s).onReceiver f)) :
    (sampleLine line s).receiver = f (sampledReceiver energy s) ∧ sampleOnly s (sampleLine line s) := by
  rw [h, settle_receiver, State.onReceiver_receiver, (recordSample_blocks s energy).1]
  exact ⟨rfl, sampleOnly_settle (onReceiver_frame _ _)⟩

/-- R51: in LISTEN the carrier's arrival begins QUALIFY. -/
theorem carrierArrives_listen {r : State} (listen : r.receiver.line = .listen) :
    carrierArrives tone r = r.onReceiver fun x =>
      { x with carrier := true, line := .qualify, qualifyTimer := some (x.qualifyCode * 100) } := by
  unfold carrierArrives
  rw [listen]
  rfl

/-- R55, R66: in FADE the carrier's return resumes DATA, and the framer, held in HUNT on mark, takes the decision. -/
theorem carrierArrives_fade {r : State} (fade : r.receiver.line = .fade) :
    carrierArrives tone r = r.onReceiver fun x =>
      { x with
        carrier := true, line := .data, fadeTimer := none
        framer := if tone = .space then .frame ⟨0, 1, [], [], false⟩ else .hunt .mark } := by
  unfold carrierArrives
  rw [fade]
  cases tone <;> rfl

/-- R51: in QUALIFY the carrier's loss takes the line back to LISTEN. -/
theorem carrierLeaves_qualify {r : State} (qualify : r.receiver.line = .qualify) :
    carrierLeaves r = r.onReceiver fun x => { x with carrier := false, line := .listen, qualifyTimer := none } := by
  unfold carrierLeaves
  rw [qualify]
  rfl

/-- R54: in DATA the carrier's loss begins FADE, and the frame in progress is abandoned. -/
theorem carrierLeaves_data {r : State} (data : r.receiver.line = .data) :
    carrierLeaves r = r.onReceiver fun x =>
      { x with carrier := false, line := .fade, fadeTimer := some (x.fadeCode * 100), framer := .hunt .mark } := by
  unfold carrierLeaves
  rw [data]
  rfl

/-! ### The rows that name what a sample brings about (log 15) -/

theorem exec_carrierPresent (hears : heardBy s line = ⟨energy, tone⟩) (active : s.receiver.line ≠ .idle)
    (absent : s.receiver.carrier = false) (loud : s.receiver.onThreshold.toNat ≤ sampleE energy s) :
    exec (.carrierPresent line.low line.high) s = .next (sampleLine line s) := by
  have arrives : becomesPresent line s.receiver = true := by
    simp [becomesPresent, heard_eq_heardBy, hears, active, absent, sampleCarrier_of_loud loud]
  exact congrArg Host.Outcome.next (if_pos arrives)

theorem exec_carrierAbsent (hears : heardBy s line = ⟨energy, tone⟩) (active : s.receiver.line ≠ .idle)
    (present : s.receiver.carrier = true) (lost : sampleE energy s < offThreshold s) :
    exec (.carrierAbsent line.low line.high) s = .next (sampleLine line s) := by
  have leaves : becomesAbsent line s.receiver = true := by
    simp [becomesAbsent, heard_eq_heardBy, hears, active, present, sampleCarrier_of_lost lost]
  exact congrArg Host.Outcome.next (if_pos leaves)

theorem exec_lineSample : exec (.lineSample line.low line.high) s = .next (sampleLine line s) := rfl

end

/-- Settles O29: the sample is recorded, the carrier arrives or leaves, and the line state that `receiverSound` allows
follows it. -/
theorem carrierChanges : Obligations.CarrierChanges := by
  refine ⟨fun s line energy tone hears sound active absent loud => ?_,
    fun s line energy tone hears sound active present lost => ?_⟩
  all_goals
    obtain ⟨_, _, _, carrier, _⟩ := sound
    have recorded : (recordSample energy s).receiver.line = s.receiver.line := by rw [(recordSample_blocks s energy).1]; rfl
  · have arrives : sampleLine line s = settle (carrierArrives tone (recordSample energy s)) := by
      rw [sampleLine_eq hears active, if_pos ⟨absent, sampleCarrier_of_loud loud⟩]
    refine ⟨_, exec_carrierPresent hears active absent loud, ?_⟩
    by_cases listen : s.receiver.line = .listen
    · rw [if_pos listen]
      exact sampleLine_moves (arrives.trans (congrArg settle (carrierArrives_listen (recorded.trans listen))))
    · have fade : s.receiver.line = .fade := by
        have quiet := mt carrier.2 (by simp [absent])
        cases state : s.receiver.line <;> simp_all
      rw [if_neg listen]
      exact sampleLine_moves (arrives.trans (congrArg settle (carrierArrives_fade (recorded.trans fade))))
  · have leaves : sampleLine line s = settle (carrierLeaves (recordSample energy s)) := by
      rw [sampleLine_eq hears active, if_neg (by simp [present]), if_pos ⟨present, sampleCarrier_of_lost lost⟩]
    refine ⟨_, exec_carrierAbsent hears active present lost, ?_⟩
    rcases carrier.1 present with qualify | data
    · rw [if_pos qualify]
      exact sampleLine_moves (leaves.trans (congrArg settle (carrierLeaves_qualify (recorded.trans qualify))))
    · rw [if_neg (by simp [data])]
      exact sampleLine_moves (leaves.trans (congrArg settle (carrierLeaves_data (recorded.trans data))))

end Sys2Proof.Machine

namespace Sys2Proof.Machine

/-! ## One tone decision (R65 to R68) -/

section
variable {format : Nat} {p : FrameProgress} {tone : Tone}

/-- R65: the majority of three decisions, and whether they differ, by the number of spaces among them. -/
theorem vote_eq (a b c : Tone) :
    (let spaces := ([a, b, c].filter (· = .space)).length
     vote a b c = (if 2 ≤ spaces then .space else .mark) ∧
     (!unanimous a b c) = (decide (spaces = 1) || decide (spaces = 2))) := by
  cases a <;> cases b <;> cases c <;> decide

/-- R65: only the vote of a start bit can be a false start. -/
theorem falseStart_of_not_vote (h : p.sample ≠ 9) : p.falseStart = false := by simp [FrameProgress.falseStart, h]

/-- R65, R66: a decision that neither is a false start nor falls on the last sample of the voted stop bit. -/
theorem framerStep_goesOn {next : FrameProgress} (known : format ≤ 7) (moves : p.advance.decide tone = next)
    (starts : next.falseStart = false) (inside : ¬ (next.bit = 9 ∧ next.sample = 16)) :
    framerStep format (.frame p) tone = .continues (.frame next) := by
  have more : ¬ (next.bit = stopBitIndex format ∧ next.sample = 16) := by rwa [stopBitIndex_eq known]
  simp only [framerStep, moves, starts, if_neg more, Bool.false_eq_true, if_false]

/-- R65: a bit is voted; a start bit that votes mark was a false start. -/
theorem framerStep_voted {value : Tone} {noise : Bool} (known : format ≤ 7)
    (moves : p.advance.decide tone = { p with sample := 9, votes := p.votes ++ [value], noise := noise })
    (fresh : p.bit = 0 → p.votes = []) :
    framerStep format (.frame p) tone = .continues
      (if p.bit = 0 ∧ value = .mark then .hunt tone
       else .frame { p with sample := 9, votes := p.votes ++ [value], noise := noise }) := by
  have starts : (p.advance.decide tone).falseStart = decide (p.bit = 0 ∧ value = .mark) := by
    rw [moves, FrameProgress.falseStart]
    by_cases first : p.bit = 0
    · simp [first, fresh first]
    · simp [first]
  split
  · next mark => simp only [framerStep, starts, mark, and_self, decide_true, if_true]
  · next space =>
    refine framerStep_goesOn known moves ?_ (by simp)
    rw [← moves, starts, decide_eq_false space]

/-- R65: sample 9 of a bit votes it by the decisions of samples 7, 8 and 9. -/
theorem framerStep_votes (known : format ≤ 7) (sound : p.sound) (eighth : p.sample = 8) :
    framerStep format (.frame p) tone = .continues
      (let spaces := ((p.early ++ [tone]).filter (· = .space)).length
       let value : Tone := if 2 ≤ spaces then .space else .mark
       if p.bit = 0 ∧ value = .mark then .hunt tone
       else .frame { p with
        sample := 9, votes := p.votes ++ [value]
        noise := p.noise || decide (spaces = 1) || decide (spaces = 2) }) := by
  obtain ⟨_, _, last, _, votes, early⟩ := sound
  obtain ⟨a, b, both⟩ := List.length_eq_two.1 (early.trans (by simp [eighth]))
  obtain ⟨value, noise⟩ := vote_eq a b tone
  refine framerStep_voted known ?_ fun first => List.length_eq_zero_iff.1 (votes.trans (by simp [first, eighth]))
  rw [FrameProgress.advance_decide last, if_neg (by omega), if_neg (by omega), if_pos eighth, both, Bool.or_assoc,
    show [a, b].getD 0 tone = a from rfl, show [a, b].getD 1 tone = b from rfl, value, noise]
  rfl

/-- R66: a sample of a frame that is no vote and does not end it. -/
theorem framerStep_counts (known : format ≤ 7) (sound : p.sound) (inside : ¬ (p.bit = 9 ∧ p.sample = 15))
    (novote : p.sample ≠ 8) :
    framerStep format (.frame p) tone = .continues (.frame
      (if p.sample = 16 then { p with bit := p.bit + 1, sample := 1, early := [] }
       else if p.sample = 6 ∨ p.sample = 7 then { p with sample := p.sample + 1, early := p.early ++ [tone] }
       else { p with sample := p.sample + 1 })) := by
  obtain ⟨_, _, last, _, _⟩ := sound
  refine framerStep_goesOn known ?_ (falseStart_of_not_vote ?_) ?_
  · rw [FrameProgress.advance_decide last, if_neg novote]
  · split_ifs <;> (dsimp only; omega)
  · split_ifs <;> (dsimp only; omega)

/-- R66, R67: the last sample of a frame with a mark among its votes ends a frame that is no break. -/
theorem framerStep_atFrameEnd (known : format ≤ 7) (ends : atFrameEnd p) (mark : ¬ allSpace p) :
    framerStep format (.frame p) tone = .frameEnds (.hunt tone) { p with sample := 16 } := by
  obtain ⟨bit, sample, _⟩ := ends
  have moves : p.advance.decide tone = { p with sample := 16 } := by
    simp [FrameProgress.advance_decide (p := p) (by omega), sample]
  have broken : isBreak { p with sample := 16 } = false := by
    rw [Bool.eq_false_iff]
    exact fun all => mark fun v voted => beq_iff_eq.1 (List.all_eq_true.1 all v voted)
  have stops : stopBitIndex format = p.bit := (stopBitIndex_eq known).trans bit.symm
  simp only [framerStep, moves, falseStart_of_not_vote (p := { p with sample := 16 }) (by simp), stops, broken, and_self,
    if_true, Bool.false_eq_true, if_false]

end
end Sys2Proof.Machine

namespace Sys2Proof.Machine

section
variable {s : State} {line : LineInput} {energy : Byte} {tone : Tone}

/-- R62: a carrier that stays present or absent leaves the sample to the framer in DATA, and to none elsewhere. -/
theorem sampleCarrier_steady (steady : if s.receiver.carrier then offThreshold s ≤ sampleE energy s
      else sampleE energy s < s.receiver.onThreshold.toNat) :
    sampleCarrier energy s.receiver = s.receiver.carrier := by
  cases carrier : s.receiver.carrier with
  | true => exact sampleCarrier_of_present s carrier (by simpa [carrier] using steady)
  | false => exact sampleCarrier_of_absent carrier (by simpa [carrier] using steady)

/-- R66: in DATA, with the carrier present, the sample reaches the framer. -/
theorem sampleLine_data (hears : heardBy s line = ⟨energy, tone⟩) (data : s.receiver.line = .data)
    (present : s.receiver.carrier = true) (loud : offThreshold s ≤ sampleE energy s) :
    sampleLine line s = settle (advanceFramer tone (recordSample energy s)) := by
  have steady : sampleCarrier energy s.receiver = s.receiver.carrier :=
    (sampleCarrier_of_present s present loud).trans present.symm
  rw [sampleLine_steady hears (by simp [data]) steady, if_pos data]

/-- The framer that the recorded sample meets is the one that stood before it. -/
theorem advanceFramer_recorded : advanceFramer tone (recordSample energy s) =
    match framerStep s.receiver.formatCode s.receiver.framer tone with
    | .continues next => setFramer next (recordSample energy s)
    | .frameEnds next f => judgeFrame (readFrame s.receiver.formatCode f) (setFramer next (recordSample energy s))
    | .breakEnds => receiveBreak (setFramer .breakWait (recordSample energy s)) := by
  unfold advanceFramer
  rw [(recordSample_blocks s energy).1]
  rfl

/-- R65, R66: a decision with which the framer goes on is a move of the Line Receiver alone. -/
theorem sampleLine_goesOn {next : Framer} (hears : heardBy s line = ⟨energy, tone⟩) (data : s.receiver.line = .data)
    (present : s.receiver.carrier = true) (loud : offThreshold s ≤ sampleE energy s)
    (step : framerStep s.receiver.formatCode s.receiver.framer tone = .continues next) :
    (sampleLine line s).receiver = { sampledReceiver energy s with framer := next } ∧
      sampleOnly s (sampleLine line s) := by
  refine sampleLine_moves (f := fun r => { r with framer := next }) ?_
  rw [sampleLine_data hears data present loud, advanceFramer_recorded, step]
  rfl

/-- R67, R69: in DATA the sample that ends a frame that is no break. -/
theorem exec_frameReceived {p : FrameProgress} (hears : heardBy s line = ⟨energy, tone⟩) (data : s.receiver.line = .data)
    (present : s.receiver.carrier = true) (loud : offThreshold s ≤ sampleE energy s) (known : s.receiver.formatCode ≤ 7)
    (framing : s.receiver.framer = .frame p) (ends : atFrameEnd p) (mark : ¬ allSpace p) :
    exec (.frameReceived line.low line.high) s = .next (sampleLine line s) := by
  have step := framerStep_atFrameEnd (tone := tone) known ends mark
  have received : endsReceivedFrame line s.receiver = true := by
    simp [endsReceivedFrame, framerSamples, heard_eq_heardBy, hears, data, present,
      sampleCarrier_of_present s present loud, framing, step]
  exact congrArg Host.Outcome.next (if_pos received)

/-- R68: in DATA the sample that ends a break. -/
theorem exec_receivedBreak {p : FrameProgress} (hears : heardBy s line = ⟨energy, tone⟩) (data : s.receiver.line = .data)
    (present : s.receiver.carrier = true) (loud : offThreshold s ≤ sampleE energy s) (known : s.receiver.formatCode ≤ 7)
    (framing : s.receiver.framer = .frame p) (ends : atFrameEnd p) (spaces : allSpace p) :
    exec (.receivedBreak line.low line.high) s = .next (sampleLine line s) := by
  have step := framerStep_breakEnds known ends spaces tone
  have received : endsReceivedBreak line s.receiver = true := by
    simp [endsReceivedBreak, framerSamples, heard_eq_heardBy, hears, data, present,
      sampleCarrier_of_present s present loud, framing, step]
  exact congrArg Host.Outcome.next (if_pos received)

end

/-- Settles O30: a sample in IDLE is none; one that leaves the carrier as it stands is a record, with one decision of
the framer in DATA; and one with a named consequence is the sample that the row of that name takes. -/
theorem samplesAndVotes : Obligations.SamplesAndVotes := by
  refine ⟨fun s line idle => ?_, fun s line energy tone hears active steady off => ?_,
    fun s line energy tone hears data present loud sound inside => ?_,
    fun s line energy tone hears active absent loud => ⟨_, exec_lineSample, exec_carrierPresent hears active absent loud⟩,
    fun s line energy tone hears active present lost => ⟨_, exec_lineSample, exec_carrierAbsent hears active present lost⟩,
    fun s line energy tone p hears data present loud known framing ends mark =>
      ⟨_, exec_lineSample, exec_frameReceived hears data present loud known framing ends mark⟩,
    fun s line energy tone p hears data present loud known framing ends spaces =>
      ⟨_, exec_lineSample, exec_receivedBreak hears data present loud known framing ends spaces⟩⟩
  · exact congrArg Host.Outcome.next (if_pos idle)
  · refine ⟨_, exec_lineSample, sampleLine_moves (f := id) ?_⟩
    rw [sampleLine_steady hears active (sampleCarrier_steady steady), if_neg off]
    rfl
  · refine ⟨_, exec_lineSample, sampleLine_goesOn hears data present loud ?_⟩
    obtain ⟨known, frames⟩ := (framerSound_iff s).1 sound
    cases framing : s.receiver.framer with
    | stopped => rfl
    | hunt previous =>
      dsimp only [framerStep]
      split <;> rfl
    | breakWait => rfl
    | frame p =>
      dsimp only
      by_cases eighth : p.sample = 8
      · rw [if_neg (by omega), if_neg (by omega), if_pos eighth]
        exact framerStep_votes known (frames p framing) eighth
      · rw [if_neg eighth, framerStep_counts known (frames p framing) (inside p framing) eighth]
        split
        · rfl
        · split <;> rfl

end Sys2Proof.Machine

namespace Sys2Proof.Machine

/-! ## The frame that a sample ends (R64, R66, R67, R69 to R71) -/

section
variable {format : Nat} {p : FrameProgress} {character : Byte}

/-! ### What the votes of a frame say (R64, R66, R67) -/

theorem testBit_foldr_bits (bits : List Bool) (i : Nat) :
    (bits.foldr (fun (b : Bool) acc => b.toNat + 2 * acc) 0).testBit i = bits.getD i false := by
  induction bits generalizing i with
  | nil => simp
  | cons b rest ih =>
    cases i with
    | zero => cases b <;> simp [Nat.testBit_zero]
    | succ i =>
      rw [List.getD_cons_succ, ← ih, List.foldr_cons, Nat.testBit_succ]
      congr 1
      cases b <;> simp; omega

/-- R66: the bits of a character, least significant first. -/
theorem getLsbD_characterOfBits (bits : List Bool) {i : Nat} (low : i < 8) :
    (characterOfBits bits).getLsbD i = bits.getD i false := by
  rw [characterOfBits, byteOf, BitVec.getLsbD_ofNat, testBit_foldr_bits, decide_eq_true low, Bool.true_and]

theorem votes_getD (i : Nat) : (p.votes.map (· == Tone.mark)).getD i true = votedMark p i := by
  rw [votedMark, show true = (Tone.mark == Tone.mark) from rfl, List.getD_map]
  rfl

/-- R66: the data bits of a frame, in which they are bits 1 on. -/
theorem votedData_eq {n : Nat} (inside : n < p.votes.length) :
    ((p.votes.map (· == Tone.mark)).drop 1).take n = (List.range n).map fun i => votedMark p (i + 1) := by
  apply List.ext_getElem
  · simp; omega
  · intro i _ bounded
    have voted : i + 1 < p.votes.length := by
      rw [List.length_map, List.length_range] at bounded
      omega
    simp [← votes_getD, voted]

/-- R66, R67: a frame that has all its votes reads as the statement's own terms say. -/
theorem readFrame_eq (known : format ≤ 7) (full : p.votes.length = 10) (carried : carries character format p) :
    readFrame format p = ⟨character, frameParityError format p, !votedMark p 9, p.noise⟩ := by
  have few : formatDataBits format ≤ 8 := by
    unfold formatDataBits
    split <;> omega
  have data := votedData_eq (p := p) (n := formatDataBits format) (by omega)
  have reads : characterOfBits ((List.range (formatDataBits format)).map fun i => votedMark p (i + 1)) = character := by
    refine BitVec.eq_of_getLsbD_eq fun i low => ?_
    rw [getLsbD_characterOfBits _ low, carried ⟨i, low⟩]
    by_cases bit : i < formatDataBits format
    · simp [List.getD_eq_getElem?_getD, bit, show i < dataBitsOf format from bit]
    · simp [List.getD_eq_getElem?_getD, bit, show ¬ i < dataBitsOf format from bit]
  have differs (a b : Bool) : (a != !b) = (a == b) := by cases a <;> cases b <;> rfl
  simp only [readFrame, votes_getD, data, reads, stopBitIndex_eq known, ReceivedFrame.mk.injEq, and_true, true_and]
  interval_cases format <;>
    simp [parityBit, formatParity, frameParityError, formatDataBits, List.foldl_map, differs]

end
end Sys2Proof.Machine

namespace Sys2Proof.Machine

/-! ### What a frame does at its end (R11, R12, R69 to R71, R111) -/

/-- R70: the frame is the pause code. -/
def pausesLine (f : ReceivedFrame) (r : LineReceiver) : Bool :=
  !f.parityError && !f.framingError && r.options.inboundFlow && f.character = r.pauseCode

/-- R70: the frame is the resume code, and not the pause code as well. -/
def resumesLine (f : ReceivedFrame) (r : LineReceiver) : Bool :=
  !f.parityError && !f.framingError && r.options.inboundFlow && f.character ≠ r.pauseCode && f.character = r.resumeCode

/-- R69: the frame is an ENQ that is neither of the flow codes. -/
def enquiresLine (f : ReceivedFrame) (r : LineReceiver) : Bool :=
  !f.parityError && !f.framingError && r.options.enqAnswer && f.character = 0x05#8 && !pausesLine f r && !resumesLine f r

/-- R71: the frame goes to the sinks of the LINE-IN row. -/
def sinksLine (f : ReceivedFrame) (r : LineReceiver) : Bool := !pausesLine f r && !resumesLine f r && !enquiresLine f r

/-- R70: the Flow Controller after a frame. -/
def flowAfterFrame (f : ReceivedFrame) (s : State) : FlowController :=
  if pausesLine f s.receiver then
    { s.flow with remotePause := true, remotePauseTimer := remotePausePeriod s.flow.timeoutCode }
  else if resumesLine f s.receiver then { s.flow with remotePause := false, remotePauseTimer := none }
  else s.flow

/-- R71: the entry that a frame at the sinks of LINE-IN makes for the printer. -/
def lineInEntry (f : ReceivedFrame) : PrintEntry :=
  if f.parityError || f.framingError then .errorGlyph else .character (printCode f.character)

/-- R71: the record that a frame at the sinks of LINE-IN makes for the receive ring. -/
def lineInRecord (f : ReceivedFrame) : ReceiveRecord :=
  ⟨.lineCharacter, f.parityError, f.framingError, f.noise, false, f.character⟩

section
variable (s : State) (f : ReceivedFrame)

/-- R70: remote pause after a frame. -/
theorem flowAfterFrame_pause :
    (let flow := flowAfterFrame f s
     if pausesLine f s.receiver then
      flow.remotePause = true ∧
        flow.remotePauseTimer = (if s.flow.timeoutCode = 0 then none else some (s.flow.timeoutCode * 5000))
     else if resumesLine f s.receiver then flow.remotePause = false ∧ flow.remotePauseTimer = none
     else flow.remotePause = s.flow.remotePause ∧ flow.remotePauseTimer = s.flow.remotePauseTimer) := by
  unfold flowAfterFrame
  split
  · exact ⟨rfl, rfl⟩
  · split
    · exact ⟨rfl, rfl⟩
    · exact ⟨rfl, rfl⟩

/-- R70: a frame moves nothing but remote pause in the Flow Controller. -/
theorem flowAfterFrame_eq : flowAfterFrame f s = { s.flow with
    remotePause := (flowAfterFrame f s).remotePause, remotePauseTimer := (flowAfterFrame f s).remotePauseTimer } := by
  unfold flowAfterFrame
  split
  · rfl
  · split <;> rfl

/-- R110, R111: what a trigger, or none, leaves in the Answerback Unit and the arbiter. -/
theorem triggerIf_blocks (triggers : Bool) {t : State} (ht : t = if triggers then triggerAnswerback s else s) :
    t.answerback = (if triggers = true ∧ s.answerback.running = false ∧ s.answerback.length ≠ 0 then
      { s.answerback with
        running := true, pointer := s.answerback.base, remaining := s.answerback.length, prefetched := none
        lastResult := .noResult }
      else s.answerback) ∧
    t.arbiter = { s.arbiter with
      answerback := waitAfterRequest
        (triggers && decide (s.answerback.running = false) && decide (s.answerback.length ≠ 0)) .answerback s } ∧
    changesOnly [.answerback, .arbiter] s t := by
  by_cases starts : triggers = true ∧ s.answerback.running = false ∧ s.answerback.length ≠ 0
  · obtain ⟨asked, idle, filled⟩ := starts
    let started := s.onAnswerback fun a =>
      { a with running := true, pointer := a.base, remaining := a.length, prefetched := none, lastResult := .noResult }
    have taken : judgeTrigger s = .taken := by simp [judgeTrigger, idle, filled]
    have runs : t = requestAnswerbackRead started := by
      rw [ht, if_pos asked, triggerAnswerback, if_pos taken]
    have asks := requestAnswerbackRead_frame started
    rw [runs, if_pos ⟨asked, idle, filled⟩]
    refine ⟨asks .answerback (by decide), ?_, asks.after (by decide)
      ((onAnswerback_frame s _).mono (by decide))⟩
    rw [requestAnswerbackRead_arbiter]
    simp [started, waitAfterRequest, grantLive, Nat.pos_iff_ne_zero, asked, idle, filled]
  · have stays : t = s := by
      rw [ht]
      refine ite_eq_right_iff.2 fun asked => if_neg fun taken => starts ⟨asked, ?_⟩
      unfold judgeTrigger at taken
      grind
    have unasked : (triggers && decide (s.answerback.running = false) && decide (s.answerback.length ≠ 0)) = false := by
      rw [Bool.eq_false_iff]
      simpa [and_assoc] using starts
    rw [stays, if_neg starts, unasked, waitAfterRequest_false]
    exact ⟨rfl, rfl, changesOnly_refl _ s⟩

/-- R11: what an entry for PRINT that cannot wait, or none, leaves in the queue, the switch, the flags and the requests. -/
theorem printIf_blocks (joined : Bool) (entry : PrintEntry) {t : State}
    (ht : t = if joined then (if printRoom s then appendPrint entry s else setPrintOverrun s) else s) :
    (let printed := joined && decide (s.carriage.queue.length < 48)
     let overrun := joined && decide (48 ≤ s.carriage.queue.length)
     t.carriage = { s.carriage with queue := if printed then s.carriage.queue ++ [entry] else s.carriage.queue } ∧
     t.switch = { s.switch with freedPlace := if printed then false else s.switch.freedPlace } ∧
     t.status = { s.status with printOverrun := s.status.printOverrun || overrun } ∧
     t.attention = { s.attention with
      flags := s.attention.flags ||| flagIf (overrun && !s.status.printOverrun) .loss } ∧
     changesOnly [.carriage, .switch, .status, .attention] s t) := by
  subst ht
  cases joined with
  | false => simp [changesOnly_refl]
  | true =>
    by_cases room : s.carriage.queue.length < 48
    · have appends : appendPrint entry s =
          (s.onCarriage fun c => { c with queue := c.queue ++ [entry] }).onSwitch fun c => { c with freedPlace := false } := by
        rcases appendPrint_cases entry s with ⟨_, h⟩ | ⟨full, _⟩
        · exact h
        · omega
      have frame := (appendPrint_frame entry s).mono (m := [.carriage, .switch, .status, .attention]) (by decide)
      rw [if_pos rfl, if_pos (show printRoom s = true from decide_eq_true room)]
      rw [appends] at frame ⊢
      simp [room, Nat.not_le.2 room, frame]
    · have frame := (setPrintOverrun_frame s).mono (m := [.carriage, .switch, .status, .attention]) (by decide)
      rw [if_pos rfl, if_neg (show ¬ printRoom s = true from mt of_decide_eq_true room)]
      rw [setPrintOverrun_eq] at frame ⊢
      simp [room, Nat.not_lt.1 room, frame]

/-- R71, R11, R12: what a frame at the sinks of LINE-IN, or none, leaves. -/
theorem takeLineInIf_blocks (taken : Bool) {t : State} (ht : t = if taken then takeLineIn f s else s) :
    (let printed := taken && s.switch.lineIn.print && decide (s.carriage.queue.length < 48)
     let overrun := taken && s.switch.lineIn.print && decide (48 ≤ s.carriage.queue.length)
     let offered := taken && s.switch.lineIn.ring && decide (s.rings.receiveSize ≠ 0)
     t.carriage = { s.carriage with
      queue := if printed then s.carriage.queue ++ [lineInEntry f] else s.carriage.queue } ∧
     t.switch = { s.switch with freedPlace := if printed then false else s.switch.freedPlace } ∧
     t.rings = ringsAfterOffer offered (lineInRecord f) s ∧
     t.arbiter = { s.arbiter with receiveWriter := waitAfterRequest (offered && recordFits s) .receiveWriter s } ∧
     t.status = { s.status with
      printOverrun := s.status.printOverrun || overrun, ringLoss := s.status.ringLoss || losesRecord offered s } ∧
     t.attention = { s.attention with
      flags := s.attention.flags ||| flagIf ((overrun && !s.status.printOverrun) ||
        (losesRecord offered s && !s.status.ringLoss)) .loss } ∧
     changesOnly [.carriage, .switch, .status, .attention, .rings, .arbiter] s t) := by
  let joined := taken && s.switch.lineIn.print
  let offered := taken && s.switch.lineIn.ring && decide (s.rings.receiveSize ≠ 0)
  let p := if joined then (if printRoom s then appendPrint (lineInEntry f) s else setPrintOverrun s) else s
  have splits : t = if offered then offerRecord (lineInRecord f) p else p := by
    rw [ht]
    cases taken with
    | false => rfl
    | true => rfl
  obtain ⟨carriage, switch, pStatus, pAttention, toP⟩ := printIf_blocks s joined (lineInEntry f) (t := p) rfl
  obtain ⟨rings, arbiter, status, attention, toT⟩ := offerIf_blocks p offered (lineInRecord f) splits
  have pRings : p.rings = s.rings := toP .rings (by decide)
  have pArbiter : p.arbiter = s.arbiter := toP .arbiter (by decide)
  have fits : recordFits p = recordFits s := by simp only [recordFits, pRings]
  refine ⟨(toT .carriage (by decide)).trans carriage, (toT .switch (by decide)).trans switch, ?_, ?_, ?_, ?_,
    toT.after (by decide) (toP.mono (by decide))⟩
  · rw [rings, ringsAfterOffer_congr s pRings]
  · rw [arbiter, fits, waitAfterRequest_congr pArbiter, pArbiter]
  · rw [status, pStatus, losesRecord, fits]
    rfl
  · rw [attention, pAttention, pStatus, losesRecord, fits]
    dsimp only
    rw [BitVec.or_assoc, flagIf_or]
    rfl

/-- R69 to R71: of the flow codes, the ENQ and the sinks, one has the frame. -/
theorem judgeFrame_cases :
    judgeFrame f s =
      if pausesLine f s.receiver then setRemotePause s
      else if resumesLine f s.receiver then clearRemotePause s
      else if enquiresLine f s.receiver then triggerAnswerback s
      else takeLineIn f s := by
  refine ite_congr rfl (fun _ => rfl) fun pauses => ?_
  have resumes : resumesLine f s.receiver =
      (!f.parityError && !f.framingError && s.receiver.options.inboundFlow && f.character = s.receiver.resumeCode) := by
    unfold pausesLine at pauses
    unfold resumesLine
    grind
  refine ite_congr (by rw [resumes]) (fun _ => rfl) fun other => ?_
  simp [enquiresLine, pauses, other]

/-- R69 to R71: the frame moves the Flow Controller or triggers the answerback, and goes to the sinks otherwise. -/
theorem judgeFrame_eq :
    judgeFrame f s =
      (let w := if enquiresLine f s.receiver then triggerAnswerback s else s
       let v := w.onFlow fun _ => flowAfterFrame f s
       if sinksLine f s.receiver then takeLineIn f v else v) := by
  have kept : (triggerAnswerback s).flow = s.flow := triggerAnswerback_frame s .flow (by decide)
  rw [judgeFrame_cases]
  simp only [sinksLine, flowAfterFrame]
  cases pauses : pausesLine f s.receiver with
  | true => simp [enquiresLine, pauses, setRemotePause, State.onFlow]
  | false =>
    cases resumes : resumesLine f s.receiver with
    | true => simp [enquiresLine, pauses, resumes, clearRemotePause, State.onFlow]
    | false =>
      cases enquires : enquiresLine f s.receiver with
      | true => simp [State.onFlow, ← kept]
      | false => simp [State.onFlow]

/-- R69 to R71, R11, R12, R111: what a frame that is no break leaves, block by block. -/
theorem judgeFrame_blocks :
    (let u := judgeFrame f s
     let taken := sinksLine f s.receiver
     let printed := taken && s.switch.lineIn.print && decide (s.carriage.queue.length < 48)
     let overrun := taken && s.switch.lineIn.print && decide (48 ≤ s.carriage.queue.length)
     let offered := taken && s.switch.lineIn.ring && decide (s.rings.receiveSize ≠ 0)
     let enquires := enquiresLine f s.receiver
     u.flow = flowAfterFrame f s ∧
     u.answerback = (if enquires = true ∧ s.answerback.running = false ∧ s.answerback.length ≠ 0 then
      { s.answerback with
        running := true, pointer := s.answerback.base, remaining := s.answerback.length, prefetched := none
        lastResult := .noResult }
      else s.answerback) ∧
     u.switch = { s.switch with freedPlace := if printed then false else s.switch.freedPlace } ∧
     u.rings = ringsAfterOffer offered (lineInRecord f) s ∧
     u.arbiter = { s.arbiter with
      receiveWriter := waitAfterRequest (offered && recordFits s) .receiveWriter s
      answerback := waitAfterRequest
        (enquires && decide (s.answerback.running = false) && decide (s.answerback.length ≠ 0)) .answerback s } ∧
     u.carriage = { s.carriage with
      queue := if printed then s.carriage.queue ++ [lineInEntry f] else s.carriage.queue } ∧
     u.status = { s.status with
      printOverrun := s.status.printOverrun || overrun, ringLoss := s.status.ringLoss || losesRecord offered s } ∧
     u.attention = { s.attention with
      flags := s.attention.flags ||| flagIf ((overrun && !s.status.printOverrun) ||
        (losesRecord offered s && !s.status.ringLoss)) .loss }) := by
  let w := if enquiresLine f s.receiver then triggerAnswerback s else s
  let v := w.onFlow fun _ => flowAfterFrame f s
  obtain ⟨answerback, arbiter, toW⟩ := triggerIf_blocks s (enquiresLine f s.receiver) (t := w) rfl
  have toV : changesOnly [.answerback, .arbiter, .flow] s v :=
    (onFlow_frame w _).after (by decide) (toW.mono (by decide))
  obtain ⟨carriage, switch, rings, writer, status, attention, toU⟩ :=
    takeLineInIf_blocks v f (sinksLine f s.receiver) (judgeFrame_eq s f)
  have vSwitch : v.switch = s.switch := toV .switch (by decide)
  have vCarriage : v.carriage = s.carriage := toV .carriage (by decide)
  have vRings : v.rings = s.rings := toV .rings (by decide)
  have vStatus : v.status = s.status := toV .status (by decide)
  have vAttention : v.attention = s.attention := toV .attention (by decide)
  have vArbiter : v.arbiter = _ := arbiter
  have fits : recordFits v = recordFits s := by simp only [recordFits, vRings]
  have writes (requested : Bool) :
      waitAfterRequest requested .receiveWriter v = waitAfterRequest requested .receiveWriter s := by
    unfold waitAfterRequest grantLive
    rw [vArbiter]
    rfl
  rw [vSwitch, vCarriage] at carriage switch
  rw [vSwitch, vRings, ringsAfterOffer_congr s vRings] at rings
  rw [vSwitch, vRings, fits, writes, vArbiter] at writer
  rw [vSwitch, vCarriage, vStatus, vRings, losesRecord, fits] at status
  rw [vSwitch, vCarriage, vStatus, vAttention, vRings, losesRecord, fits] at attention
  exact ⟨toU .flow (by decide), (toU .answerback (by decide)).trans answerback, switch, rings, writer, carriage, status,
    attention⟩

end
end Sys2Proof.Machine

namespace Sys2Proof.Machine

/-- Settles O31: the sample ends the frame, `readFrame_eq` says what it carries and `judgeFrame_blocks` what that
leaves. -/
theorem frameReceived : Obligations.FrameReceived := by
  intro s line energy tone p character hears data present loud known framing ends mark carried
  let q := recordSample energy s
  let w := setFramer (.hunt tone) q
  let f : ReceivedFrame := ⟨character, frameParityError s.receiver.formatCode p, !votedMark p 9, p.noise⟩
  let u := judgeFrame f w
  have votes : p.votes.length = 10 := ends.2.2
  have reads : readFrame s.receiver.formatCode { p with sample := 16 } = f :=
    readFrame_eq (p := { p with sample := 16 }) known votes carried
  have taken : sampleLine line s = settle u := by
    rw [sampleLine_data hears data present loud, advanceFramer_recorded, framing, framerStep_atFrameEnd known ends mark]
    exact congrArg (fun g => settle (judgeFrame g w)) reads
  obtain ⟨recorded, ticked, clocked, toQ⟩ := recordSample_blocks s energy
  have toW : changesOnly [.receiver, .transmitter] s w :=
    (setFramer_frame _ _).after (by decide) (toQ.mono (by decide))
  have toU := judgeFrame_frame f w
  obtain ⟨flow, answerback, switch, rings, arbiter, carriage, status, attention⟩ := judgeFrame_blocks w f
  have wSwitch : w.switch = s.switch := toW .switch (by decide)
  have wFlow : w.flow = s.flow := toW .flow (by decide)
  have wRings : w.rings = s.rings := toW .rings (by decide)
  have wAnswerback : w.answerback = s.answerback := toW .answerback (by decide)
  have wArbiter : w.arbiter = s.arbiter := toW .arbiter (by decide)
  have wCarriage : w.carriage = s.carriage := toW .carriage (by decide)
  have wStatus : w.status = s.status := toW .status (by decide)
  have wAttention : w.attention = s.attention := toW .attention (by decide)
  have wReceiver : w.receiver = { sampledReceiver energy s with framer := .hunt tone } := by
    rw [← recorded]
    rfl
  have uTransmitter : u.transmitter = q.transmitter := toU .transmitter (by decide)
  have fits : recordFits w = recordFits s := by simp only [recordFits, wRings]
  have sinks : sinksLine f w.receiver = sinksLine f s.receiver := by rw [wReceiver]; rfl
  have enquires : enquiresLine f w.receiver = enquiresLine f s.receiver := by rw [wReceiver]; rfl
  have flowAfter : flowAfterFrame f w = flowAfterFrame f s := by rw [flowAfterFrame, wReceiver, wFlow]; rfl
  dsimp only at answerback switch rings arbiter carriage status attention
  rw [flowAfter] at flow
  rw [enquires, wAnswerback] at answerback
  rw [sinks, wSwitch, wCarriage] at switch carriage
  rw [sinks, wSwitch, wRings, ringsAfterOffer_congr s wRings] at rings
  rw [sinks, enquires, wSwitch, wAnswerback, wRings, fits, waitAfterRequest_congr wArbiter,
    waitAfterRequest_congr wArbiter, wArbiter] at arbiter
  rw [sinks, wSwitch, wCarriage, wRings, wStatus, losesRecord, fits] at status
  rw [sinks, wSwitch, wCarriage, wRings, wStatus, losesRecord, fits, wAttention] at attention
  have clock := settle_clock u
  rw [uTransmitter] at clock
  have pause : (settle u).flow.remotePause = u.flow.remotePause ∧
      (settle u).flow.remotePauseTimer = u.flow.remotePauseTimer := by
    rw [(settle_touches u).2.1]
    exact ⟨rfl, rfl⟩
  refine ⟨settle u, (exec_frameReceived hears data present loud known framing ends mark).trans
    (congrArg Host.Outcome.next taken), ?_, ?_, ?_, ?_, ?_, ?_, ?_, ?_, ?_, ?_, ?_⟩
  · rw [settle_receiver, ← wReceiver]
    exact toU .receiver (by decide)
  · unfold clockTicked
    rw [clock.1, clock.2]
    exact ticked
  · rw [pause.1, pause.2, show u.flow = _ from flow]
    exact flowAfterFrame_pause s f
  · rw [settle_arbiter]
    exact arbiter
  · rw [settle_answerback, show u.answerback = _ from answerback]
    split
    · next starts => exact if_pos starts
    · next stays => exact if_neg stays
  · rw [settle_carriage]
    exact carriage
  · rw [settle_rings]
    exact rings
  · rw [settle_status]
    exact status
  · rw [settle_attention]
    exact attention
  · exact (settle_changesOnly u).after (by decide) (toU.after (by decide) (toW.mono (by decide)))
  · refine onlySettles_of_settle switch ?_ ?_
    · rw [pause.1, pause.2, show u.flow = _ from flow]
      exact flowAfterFrame_eq s f
    · rw [clock.1, clock.2, uTransmitter]
      exact clocked

end Sys2Proof.Machine

namespace Sys2Proof.Machine

/-! ## The line state changes that request LINE (R52, R53, R55, R57, R59, R190) -/

section
variable (s : State)

/-! ### The judgement of the demands (R97, R98, R100) -/

/-- R97, R98: the demands that the judgement leaves are the ones it would find again. -/
theorem demandsJudged_settle : demandsJudged (settle s) := by
  obtain ⟨print, ring⟩ := judgeDemands_flow_demands s
  have heldPrint : (settle s).flow.printDemand = judgedPrintDemand s := print
  have heldRing : (settle s).flow.ringDemand = judgedRingDemand s := ring
  have lineIn : (settle s).switch.lineIn = s.switch.lineIn := by rw [settle_switch]
  have level : workingPauseLevel (settle s) = workingPauseLevel s := by
    rw [workingPauseLevel, settle_rings, (settle_touches s).2.1]
    rfl
  have active : flowActive (settle s) = flowActive s := by rw [flowActive, settle_receiver]; rfl
  refine ⟨?_, ?_⟩
  · rw [heldPrint]
    conv_lhs => rw [judgedPrintDemand, active, lineIn, settle_carriage, heldPrint]
    unfold judgedPrintDemand Config.printDemandWithdraw Config.printDemandHold
    grind
  · rw [heldRing]
    conv_lhs => rw [judgedRingDemand, active, lineIn, joinedRing, settle_rings, level, heldRing]
    have room : s.rings.receiveSize ≠ 0 → 0 < s.rings.receiveCapacity := fun size => by
      rw [Rings.receiveCapacity, ringCapacity, ringSlots, if_neg size]
      have : 2 ^ 3 ≤ 2 ^ (s.rings.receiveSize + 3) := Nat.pow_le_pow_right (by omega) (by omega)
      omega
    have below : workingPauseLevel s ≤ s.rings.receiveCapacity - 1 := min_le_right _ _
    unfold judgedRingDemand joinedRing
    grind

/-- R100: from CLEAR with no demand held, the state follows the demands that the event raises. -/
theorem settle_flowState_of_clear (clear : s.flow.state = .clear) (print : s.flow.printDemand = false)
    (ring : s.flow.ringDemand = false) :
    (settle s).flow.state =
      if (settle s).flow.printDemand || (settle s).flow.ringDemand then .pausePending else .clear := by
  obtain ⟨heldPrint, heldRing⟩ := judgeDemands_flow_demands s
  have state : (settle s).flow.state = _ := judgeDemands_state s
  rw [state, show (settle s).flow.printDemand = _ from heldPrint, show (settle s).flow.ringDemand = _ from heldRing, clear,
    print, ring]
  cases judgedPrintDemand s || judgedRingDemand s <;> rfl

theorem settle_transmitterState : (settle s).transmitter.state = s.transmitter.state := by
  rw [(settle_touches s).2.2.1]

/-! ### The entry to IDLE at the end of an event (R57) -/

/-- R57: an event that enters IDLE, whatever command and requests it leaves. -/
theorem enteredIdle_settle {u : State} (late : changesOnly [.command, .attention] (enterIdle s) u) :
    enteredIdle s (settle u) := by
  obtain ⟨receiver, transmitter, tones, flow, status, _, _, answerback, arbiter, switch⟩ := enterIdle_blocks s
  have uReceiver : u.receiver = idleReceiver s := (late .receiver (by decide)).trans receiver
  have uTransmitter : u.transmitter = idleTransmitter s := (late .transmitter (by decide)).trans transmitter
  have uFlow : u.flow = idleFlow s := (late .flow (by decide)).trans flow
  have uAnswerback : u.answerback = _ := (late .answerback (by decide)).trans answerback
  have uArbiter : u.arbiter = _ := (late .arbiter (by decide)).trans arbiter
  have uSwitch : u.switch = _ := (late .switch (by decide)).trans switch
  obtain ⟨tTransmitter, tFlow⟩ := settle_idle (s := s) (u := u) (by rw [uReceiver]; rfl) uFlow
  refine ⟨by rw [settle_receiver, uReceiver], tTransmitter.trans uTransmitter, ?_, tFlow, ?_, ?_, ?_,
    onlySettles_of_settle uSwitch uFlow uTransmitter⟩
  · rw [settle_tones]
    exact (late .tones (by decide)).trans tones
  · rw [settle_status]
    exact (late .status (by decide)).trans status
  · unfold answerbackAborted
    rw [settle_answerback, settle_arbiter, settle_rowAnswerback, settle_deferred, uAnswerback, uSwitch]
    cases aborts : abortsAnswerback s with
    | true =>
      rw [aborts] at uArbiter
      refine ⟨rfl, by rw [uArbiter]; rfl, grantLive_of_aborted s ?_, rfl, rfl⟩
      rw [settle_arbiter, uArbiter]
      rfl
    | false => rfl
  · rw [settle_arbiter, uArbiter]

/-- R59, R190: the requests after an entry to IDLE that requests LINE. -/
theorem raiseLine_enterIdle_attention (cause : LineCause) :
    (raiseLine cause (enterIdle s)).attention = { s.attention with
      flags := s.attention.flags ||| idleRequests s ||| flagIf true .line, lineCause := cause
      severalChanges := s.attention.severalChanges || s.attention.flags.getLsbD 0 } := by
  obtain ⟨_, _, _, _, _, attention, _⟩ := enterIdle_blocks s
  simp [raiseLine, attention, flagIf, idleRequests_line, AttentionSource.bit]

/-- R52, R55, R57: what a timer that ends a call, or the waiting for one, leaves. -/
theorem idleExpiry_leaves (cause : LineCause) :
    (let t := settle (raiseLine cause (enterIdle s))
     enteredIdle s t ∧
     t.command = (if cutsCommandBreak s then { s.command with result := .refusedState, running := none }
      else s.command) ∧
     t.attention = { s.attention with
      flags := s.attention.flags ||| idleRequests s ||| flagIf true .line, lineCause := cause
      severalChanges := s.attention.severalChanges || s.attention.flags.getLsbD 0 } ∧
     changesOnly [.receiver, .transmitter, .tones, .flow, .status, .answerback, .switch, .arbiter, .command,
      .attention] s t) := by
  have raised := raiseLine_frame cause (enterIdle s)
  obtain ⟨_, _, _, _, _, _, command, _⟩ := enterIdle_blocks s
  refine ⟨enteredIdle_settle s (raised.mono (by decide)), ?_, ?_, ?_⟩
  · rw [settle_command]
    exact (raised .command (by decide)).trans command
  · rw [settle_attention]
    exact raiseLine_enterIdle_attention s cause
  · exact (settle_changesOnly _).after (by decide) (raised.after (by decide) ((enterIdle_frame s).mono (by decide)))

end

/-- Settles O33: the timer that the line state runs expires, and the entry to IDLE or to DATA is made and reported. -/
theorem lineTimers : Obligations.LineTimers := by
  refine ⟨fun s waits sound => ?_, fun s fade sound => ?_, fun s qualify sound quiet => ?_⟩
  all_goals obtain ⟨listens, qualifies, fades, _⟩ := sound
  · exact ⟨_, congrArg Host.Outcome.next (if_pos ⟨waits, listens.2 waits⟩), idleExpiry_leaves s .noAnswer⟩
  · exact ⟨_, congrArg Host.Outcome.next (if_pos ⟨fade, fades.2 fade⟩), idleExpiry_leaves s .carrierLost⟩
  · obtain ⟨_, _, _, _, _, _, clear, print, ring, _⟩ := quiet (by rw [qualify]; rfl)
    let u := raiseLine .qualified (enterData s)
    have raised := raiseLine_frame .qualified (enterData s)
    have toU : changesOnly [.receiver, .transmitter, .tones, .flow, .attention] s u :=
      raised.after (by decide) ((enterData_frame s).mono (by decide))
    obtain ⟨receiver, transmitter, tones, flow⟩ := enterData_blocks s
    have uTransmitter : u.transmitter = _ := (raised .transmitter (by decide)).trans transmitter
    have uTones : u.tones = _ := (raised .tones (by decide)).trans tones
    have uFlow : u.flow = s.flow := by
      rw [show u.flow = _ from (raised .flow (by decide)).trans flow, ← clear]
    have clock := settle_clock u
    refine ⟨settle u, congrArg Host.Outcome.next (if_pos ⟨qualify, qualifies.2 qualify⟩), ?_, fun originate => ?_,
      fun answer => ?_, settle_flowState_of_clear u (by rw [uFlow, clear]) (by rw [uFlow, print]) (by rw [uFlow, ring]),
      demandsJudged_settle u, ?_, (settle_changesOnly u).after (by decide) (toU.mono (by decide)),
      onlySettles_of_settle (toU .switch (by decide)) uFlow ?_⟩
    · rw [settle_receiver]
      exact (raised .receiver (by decide)).trans receiver
    · rw [leftOff, settle_transmitterState, clock.1, clock.2, settle_tones, uTransmitter, uTones, if_pos originate, if_pos originate,
        originate]
      exact ⟨rfl, rfl, rfl, rfl⟩
    · rw [settle_transmitterState, clock.1, clock.2, settle_tones, uTransmitter, uTones, if_neg (by simp [answer]),
        if_neg (by simp [answer])]
      exact ⟨rfl, rfl, rfl, rfl⟩
    · rw [settle_attention]
      have attention : (enterData s).attention = s.attention := enterData_frame s .attention (by decide)
      simp [u, raiseLine, attention, flagIf, AttentionSource.bit]
    · rw [settle_transmitterState, clock.1, clock.2, uTransmitter]
      split <;> rfl

end Sys2Proof.Machine

namespace Sys2Proof.Machine

/-! ## The line commands (R50, R56, R178) -/

/-- R160, R176: the host's write of a command is on the memory side, and the code is the last one taken. -/
def commandTaken (code : Byte) (s : State) : State :=
  (hostDriven 0x00#6 code s).onCommand fun c => { c with last := code }

section
variable {s : State} {code : Byte}

theorem commandTaken_frame : changesOnly [.command, .pins] s (commandTaken code s) :=
  (onCommand_frame _ _).after (by decide) ((hostDriven_frame _ code s).mono (by decide))

/-- R169: with the port free and no command running, the write of a code is taken, and the event settles. -/
theorem writeCommand_settles (free : portFree s) (idle : commandFree s) :
    writeCommand code s = settle (takeCommand code (hostDriven 0x00#6 code s)) :=
  writeAt_of_portFree free code fun _ => idle

/-- What follows the taking of a command leaves the write on the memory side. -/
theorem hostWrote_of_taken {u : State} (pins : u.pins = (commandTaken code s).pins) :
    hostWrote 0x00#6 code s (settle u) := by
  rw [hostWrote, settle_pins, pins]
  rfl

theorem exec_lineOn (free : portFree s) (idle : commandFree s) (answer : Bool) :
    exec (if answer then .lineOnAnswer else .lineOnOriginate) s =
      .next (settle (lineOnEffect (if answer then .answer else .originate)
        (commandTaken (if answer then 0x02#8 else 0x01#8) s))) := by
  cases answer <;> exact congrArg Host.Outcome.next (writeCommand_settles free idle)

theorem exec_lineOff (free : portFree s) (idle : commandFree s) :
    exec .lineOff s = .next (settle (lineOffEffect (commandTaken 0x03#8 s))) :=
  congrArg Host.Outcome.next (writeCommand_settles free idle)

end

/-- Settles O14: in IDLE the command writes the channel and enters LISTEN, of which `enterListen_blocks` says what it
leaves; elsewhere it leaves its result alone. -/
theorem lineOnCommands : Obligations.LineOnCommands := by
  intro s answer free idle
  let channel : Channel := if answer then .answer else .originate
  let code : Byte := if answer then 0x02#8 else 0x01#8
  let w := commandTaken code s
  let u := lineOnEffect channel w
  have frame : changesOnly [.command, .receiver, .transmitter, .tones] w u := by
    unfold u lineOnEffect
    split
    · exact (onCommand_frame _ _).after (by decide) ((enterListen_frame _).after (by decide)
        ((onReceiver_frame _ _).mono (by decide)))
    · exact (onCommand_frame _ _).mono (by decide)
  have toW : changesOnly [.command, .pins] s w := commandTaken_frame
  have toU : changesOnly [.command, .pins, .receiver, .transmitter, .tones] s u :=
    frame.after (by decide) (toW.mono (by decide))
  refine ⟨settle u, exec_lineOn free idle answer, hostWrote_of_taken (frame .pins (by decide)), fun active => ?_,
    fun hung => ?_⟩
  · have refuses : u = setResult .refusedState w := if_neg active
    rw [settle_command, refuses]
    exact ⟨rfl, settlesOnly_of_settle ((onCommand_frame _ _).after (by decide) toW) (by decide)⟩
  · let x := w.onReceiver fun r => { r with channel := channel }
    have enters : u = setResult .done (enterListen x) := if_pos hung
    have toX : changesOnly [.receiver] w x := onReceiver_frame _ _
    have listens := enterListen_frame x
    have ends : changesOnly [.command] (enterListen x) u := enters ▸ onCommand_frame _ _
    obtain ⟨receiver, transmitter, tones⟩ := enterListen_blocks x
    have uTransmitter : u.transmitter = _ := (ends .transmitter (by decide)).trans transmitter
    have uTones : u.tones = _ := (ends .tones (by decide)).trans tones
    have clock := settle_clock u
    rw [settle_command, settle_receiver, settle_tones, settle_transmitterState, clock.1, clock.2]
    refine ⟨?_, ?_, fun answers => ?_, fun originates => ?_,
      (settle_changesOnly u).after (by decide) (toU.mono (by decide)),
      onlySettles_of_settle (toU .switch (by decide)) (toU .flow (by decide)) ?_⟩
    · rw [enters]
      exact congrArg (fun c : CommandUnit => { c with result := .done }) (listens .command (by decide))
    · exact (ends .receiver (by decide)).trans receiver
    · have answering : x.receiver.channel = .answer := if_pos answers
      rw [uTransmitter, uTones, if_pos answering, if_pos answering]
      exact ⟨rfl, rfl, rfl, rfl⟩
    · have originating : ¬ x.receiver.channel = .answer := by simp [x, channel, originates]
      rw [uTransmitter, uTones, if_neg originating, if_neg originating]
      exact ⟨rfl, rfl⟩
    · rw [uTransmitter]
      split <;> rfl

/-- Settles O15: off a call the command leaves its result alone; elsewhere the line enters IDLE. -/
theorem lineOffCommand : Obligations.LineOffCommand := by
  intro s free idle
  let w := commandTaken 0x03#8 s
  let u := lineOffEffect w
  have toW : changesOnly [.command, .pins] s w := commandTaken_frame
  have taken := exec_lineOff free idle
  by_cases hung : s.receiver.line = .idle
  · have ends : u = setResult .done w := congrArg (setResult .done) (if_pos hung)
    have toU : changesOnly [.command] w u := ends ▸ onCommand_frame _ _
    refine ⟨settle u, taken, hostWrote_of_taken (toU .pins (by decide)), ?_,
      fun _ => settlesOnly_of_settle (toU.after (by decide) toW) (by decide), fun active => absurd hung active⟩
    rw [settle_command, ends, if_neg fun cut => cut.1 hung]
    rfl
  · have enters : u = setResult .done (enterIdle w) := congrArg (setResult .done) (if_neg hung)
    have toU : changesOnly [.command] (enterIdle w) u := enters ▸ onCommand_frame _ _
    have toIdle := enterIdle_frame w
    obtain ⟨_, _, _, _, _, attention, command, _⟩ := enterIdle_blocks w
    refine ⟨settle u, taken, hostWrote_of_taken ((toU .pins (by decide)).trans (toIdle .pins (by decide))), ?_,
      fun rest => absurd rest hung, fun _ => ⟨enteredIdle_settle w (toU.mono (by decide)), ?_, ?_⟩⟩
    · have coded : w.command = { s.command with last := 0x03#8 } := rfl
      have cuts : cutsCommandBreak w = cutsCommandBreak s := rfl
      rw [settle_command, enters, setResult, State.onCommand_command, command, coded, cuts]
      cases cutsCommandBreak s <;> simp [hung]
    · rw [settle_attention]
      exact (toU .attention (by decide)).trans attention
    · exact (settle_changesOnly u).after (by decide)
        (toU.after (by decide) (toIdle.after (by decide) (toW.mono (by decide))))

/-! ## The line setup (R64, R72, R104) -/

/-- Settles O9: `writeLineSetup` and `writeLineOptions` take the byte, and the event settles. -/
theorem lineSetupWrites : Obligations.LineSetupWrites := by
  refine ⟨fun s data free => ?_, fun s data free => ?_⟩
  · let w := hostDriven 0x0E#6 data s
    let u := writeLineSetup data w
    have frame : changesOnly [.receiver, .status] w u := by
      unfold u writeLineSetup
      split
      · exact (onReceiver_frame _ _).mono (by decide)
      · exact (onStatus_frame _ _).mono (by decide)
    obtain ⟨writes, wrote, toU⟩ := setupWrite_settles (offset := 0x0E#6) free (by decide) (u := u) rfl frame (by decide)
    refine ⟨settle u, congrArg Host.Outcome.next writes, ?_, wrote,
      settlesOnly_of_settle (toU.mono (by decide)) (by decide)⟩
    rw [settle_receiver, settle_status]
    split
    · next hung =>
      have taken : u = w.onReceiver fun r =>
          { r with
            channel := channelOfBit (data.getLsbD 0), rateCode := min (field data 1 3) 3
            formatCode := field data 4 3 } := by
        rw [← clamp_zero]
        exact if_pos hung
      rw [taken]
      exact ⟨rfl, rfl⟩
    · next active =>
      have refused : u = setSetupRefused w := if_neg active
      rw [refused]
      exact ⟨rfl, rfl⟩
  · let w := hostDriven 0x0F#6 data s
    let u := writeLineOptions data w
    have frame : changesOnly [.receiver, .flow] w u := by
      unfold u writeLineOptions
      split
      · exact (onReceiver_frame _ _).mono (by decide)
      · exact (clearRemotePause_frame _).after (by decide) ((onReceiver_frame _ _).mono (by decide))
    obtain ⟨writes, wrote, toU⟩ := setupWrite_settles (offset := 0x0F#6) free (by decide) (u := u) rfl frame (by decide)
    have receiver : u.receiver = { s.receiver with options := optionsOfByte data } := by
      unfold u writeLineOptions
      split <;> rfl
    have flow : u.flow =
        if data.getLsbD 0 then s.flow else { s.flow with remotePause := false, remotePauseTimer := none } := by
      unfold u writeLineOptions
      split <;> rfl
    have pause : (settle u).flow.remotePause = u.flow.remotePause ∧
        (settle u).flow.remotePauseTimer = u.flow.remotePauseTimer := by
      rw [(settle_touches u).2.1]
      exact ⟨rfl, rfl⟩
    rw [flow] at pause
    refine ⟨settle u, congrArg Host.Outcome.next writes, by rw [settle_receiver, receiver]; rfl, ?_, wrote,
      (settle_changesOnly u).after (by decide) (toU.mono (by decide)),
      onlySettles_of_settle (toU .switch (by decide)) ?_ (toU .transmitter (by decide))⟩
    · rw [pause.1, pause.2]
      split <;> exact ⟨rfl, rfl⟩
    · rw [pause.1, pause.2, flow]
      split <;> rfl

/-! ## The frame of a character (R64, R86) -/

section
variable {format : Nat} (character : Byte)

/-- R86: a frame is nine bits, of start, data and parity, and the stop bits of its format. -/
theorem frameBits_eq_front_append_stops (known : format ≤ 7) : ∃ front : List Tone, front.length = 9 ∧
    frameBits format character = front ++ List.replicate (formatStopBits format) .mark := by
  refine ⟨_, ?_, rfl⟩
  interval_cases format <;> rfl

theorem frameBits_length (known : format ≤ 7) :
    (frameBits format character).length = if format < 5 then 10 else 11 := by
  obtain ⟨front, nine, bits⟩ := frameBits_eq_front_append_stops character known
  rw [bits, List.length_append, nine, List.length_replicate, formatStopBits]
  split <;> rfl

theorem frameBits_getElem?_data {i : Nat} (data : i < formatDataBits format) :
    (frameBits format character)[i + 1]? = some (toneOfBit (character.getLsbD i)) := by
  simp [frameBits, dataBits, List.getElem?_append, data]

theorem frameBits_getElem?_parity (seven : formatDataBits format = 7) {parity : Bool}
    (bit : parityBit format (dataBits format character) = some parity) :
    (frameBits format character)[8]? = some (toneOfBit parity) := by
  have data : (dataBits format character).length = 7 := by simp [dataBits, seven]
  simp [frameBits, data, bit]

theorem frameBits_getElem?_stop (known : format ≤ 7) {i : Nat} (first : 9 ≤ i)
    (last : i < 9 + formatStopBits format) : (frameBits format character)[i]? = some .mark := by
  obtain ⟨front, nine, bits⟩ := frameBits_eq_front_append_stops character known
  rw [bits, List.getElem?_append_right (by omega), List.getElem?_replicate, if_pos (by omega)]

end

theorem toneOfBit_not (b : Bool) : toneOfBit (!b) = if b then .space else .mark := by cases b <;> rfl

/-- Settles O34: the start bit, the data bits, the parity bit of each format that has one, and the stop bits. -/
theorem frameLayout : Obligations.FrameLayout := by
  intro format character
  have known : format.val ≤ 7 := by omega
  refine ⟨frameBits_length character known, rfl, fun i data => frameBits_getElem?_data character data, fun seven => ?_,
    frameBits_getElem?_stop character known le_rfl ?_, fun two => frameBits_getElem?_stop character known (by omega) ?_⟩
  · fin_cases format
    · exact frameBits_getElem?_parity (format := 0) character rfl rfl
    · exact (frameBits_getElem?_parity (format := 1) character rfl rfl).trans (congrArg some (toneOfBit_not _))
    · exact frameBits_getElem?_parity (format := 2) character rfl rfl
    · exact frameBits_getElem?_parity (format := 3) character rfl rfl
    · exact absurd seven (by decide)
    · exact frameBits_getElem?_parity (format := 5) character rfl rfl
    · exact (frameBits_getElem?_parity (format := 6) character rfl rfl).trans (congrArg some (toneOfBit_not _))
    · exact absurd seven (by decide)
  · unfold formatStopBits
    split <;> omega
  · rw [formatStopBits, if_neg (by omega)]
    omega

end Sys2Proof.Machine

namespace Sys2Proof.Machine

/-! ## The bit boundaries of the Line Transmitter (R84 to R91) -/

section
variable {s : State}

/-- R97 to R99: the demands judged depend on the line, the switch, the print queue and the rings, and on the Flow
Controller but for the outbound flow state. -/
theorem demandsJudged_congr {u : State} (receiver : u.receiver = s.receiver) (switch : u.switch = s.switch)
    (carriage : u.carriage = s.carriage) (rings : u.rings = s.rings)
    (flow : ∃ state, u.flow = { s.flow with state := state }) (judged : demandsJudged s) : demandsJudged u := by
  obtain ⟨state, flow⟩ := flow
  unfold demandsJudged judgedPrintDemand judgedRingDemand flowActive joinedRing workingPauseLevel
  rw [receiver, switch, carriage, rings, flow]
  exact judged

/-- Where the demands held are the ones judged, the end of an event moves the waits for PRINT alone. -/
theorem settle_frame_of_judged (judged : demandsJudged s) : changesOnly [.switch] s (settle s) := by
  rw [settle_of_judged judged]
  exact onSwitch_frame s _

theorem settle_line_of_judged (judged : demandsJudged s) :
    (settle s).transmitter = s.transmitter ∧ (settle s).flow = s.flow :=
  ⟨settle_frame_of_judged judged .transmitter (by decide), settle_frame_of_judged judged .flow (by decide)⟩

/-- The boundary that is due is taken, and its effect is still to come. -/
def boundaryTaken (s : State) : State := s.onTransmitter fun t => { t with boundaryDue := false }

theorem bitBoundary_of_due (due : s.transmitter.boundaryDue = true) :
    bitBoundary s = settle (boundaryEffect (boundaryTaken s)) := if_pos due

theorem endsFrame_of_due (due : s.transmitter.boundaryDue = true) : endsFrame s.transmitter = frameCloses s := by
  unfold endsFrame frameCloses
  rw [due, Bool.true_and]
  cases s.transmitter.shifter <;> rfl

theorem frameCloses_iff :
    frameCloses s = true ↔ s.transmitter.state = .sending ∧
      ∃ f, s.transmitter.shifter = some f ∧ f.bits.length ≤ f.reached + 1 := by
  simp [frameCloses, Option.any_eq_true]

/-! ### What a boundary brings about -/

theorem lineTone_tones (tone : Tone) : (lineTone tone s).tones = tonesOn tone s := by
  cases channel : s.receiver.channel <;> cases tone <;>
    simp [lineTone, tonesOn, Voice.retune, lineIncrement, channel]

/-- R89: the report moves the outbound flow state on if it waits for the code that starts, whatever else the event
has done. -/
theorem reportFlowStarted_flow {kind : FlowCode} {code : Byte} (slot : s.transmitter.slot = .flow kind code) {u : State}
    (flow : u.flow = s.flow) : (reportFlowStarted kind u).flow = { s.flow with state := flowAfterStart s } := by
  unfold reportFlowStarted flowAfterStart
  rw [slot, flow]
  cases state : s.flow.state <;> cases kind <;> simp [flow, ← state]

/-- R86, R89: the frame of the code in the slot begins, on the start bit's space; a flow code reports its start. -/
theorem startFrame_blocks {code : Byte} (full : slotCode s = some code) :
    (startFrame s).transmitter = frameBegun s code ∧ (startFrame s).tones = tonesOn .space s ∧
      (startFrame s).flow = { s.flow with state := flowAfterStart s } := by
  let begun := lineTone .space (s.onTransmitter fun _ => frameBegun s code)
  have tones : begun.tones = tonesOn .space s := lineTone_tones _
  unfold slotCode at full
  cases slot : s.transmitter.slot with
  | empty => simp [slot] at full
  | character c =>
    obtain rfl : c = code := by simpa [slot] using full
    have starts : startFrame s = begun := by unfold startFrame; rw [slot]; rfl
    rw [starts, flowAfterStart, slot]
    exact ⟨rfl, tones, rfl⟩
  | flow kind c =>
    obtain rfl : c = code := by simpa [slot] using full
    have starts : startFrame s = reportFlowStarted kind begun := by unfold startFrame; rw [slot]; rfl
    have report := reportFlowStarted_frame kind begun
    rw [starts]
    exact ⟨report .transmitter (by decide), (report .tones (by decide)).trans tones, reportFlowStarted_flow slot rfl⟩

theorem slotCode_eq_none : slotCode s = none ↔ s.transmitter.slot = .empty := by
  unfold slotCode
  cases s.transmitter.slot <;> simp

/-- R86 to R91: the shifter is free after a state that agrees with `s` on the line but for the boundary just taken. -/
theorem freeBoundary_afterFrame {w : State} (transmitter : w.transmitter = (boundaryTaken s).transmitter)
    (tones : w.tones = s.tones) (receiver : w.receiver = s.receiver) (flow : w.flow = s.flow) :
    freeBoundary s (afterFrame w) := by
  have voice : ∀ tone, tonesOn tone w = tonesOn tone s := fun tone => by
    unfold tonesOn
    rw [tones, receiver]
  have pending : w.transmitter.breakPending = s.transmitter.breakPending := by rw [transmitter]; rfl
  have code : slotCode w = slotCode s := by rw [slotCode, transmitter]; rfl
  unfold freeBoundary afterFrame
  rw [pending]
  split
  · refine ⟨?_, (lineTone_tones _).trans (voice _), flow⟩
    show { w.transmitter with
      state := .breaking, breakPending := false, shifter := none
      breakTimer := some (breakLength w.transmitter.breakLengthCode) } = _
    rw [transmitter]
    rfl
  · unfold frameOrIdle
    cases held : slotCode s with
    | some c =>
      have full : w.transmitter.slot ≠ .empty := fun empty => by
        rw [← code, slotCode_eq_none.2 empty] at held
        cases held
      obtain ⟨startsTransmitter, startsTones, startsFlow⟩ := startFrame_blocks (code.trans held)
      have reported : flowAfterStart w = flowAfterStart s := by rw [flowAfterStart, transmitter, flow]; rfl
      rw [if_neg full, startsTransmitter, startsTones, startsFlow, voice, flow, reported, frameBegun, transmitter,
        receiver]
      exact ⟨rfl, rfl, rfl⟩
    | none =>
      rw [if_pos (slotCode_eq_none.1 (code.trans held))]
      refine ⟨?_, (lineTone_tones _).trans (voice _), flow⟩
      show { w.transmitter with state := .markIdle, shifter := none } = _
      rw [transmitter]
      rfl

theorem freeBoundary_congr {t u : State} (transmitter : t.transmitter = u.transmitter) (tones : t.tones = u.tones)
    (flow : t.flow = u.flow) (free : freeBoundary s u) : freeBoundary s t := by
  unfold freeBoundary at *
  rwa [transmitter, tones, flow]

/-! ### The states of the transmitter, one by one -/

/-- R87, R90: in MARK-IDLE, with a break pending or a code in the slot, the shifter is free. -/
theorem boundaryEffect_markIdle (idle : s.transmitter.state = .markIdle)
    (waits : s.transmitter.slot ≠ .empty ∨ s.transmitter.breakPending = true) : boundaryEffect s = afterFrame s := by
  unfold boundaryEffect afterFrame frameOrIdle
  rw [idle]
  by_cases pending : s.transmitter.breakPending = true
  · simp [pending]
  · simp [pending, waits.resolve_right pending]

theorem boundaryEffect_rest (idle : s.transmitter.state = .markIdle) (empty : s.transmitter.slot = .empty)
    (noBreak : s.transmitter.breakPending = false) : boundaryEffect s = s := by
  simp [boundaryEffect, idle, empty, noBreak]

theorem boundaryEffect_breaking (breaking : s.transmitter.state = .breaking) : boundaryEffect s = s := by
  simp [boundaryEffect, breaking]

theorem boundaryEffect_frameCloses (closes : frameCloses s = true) : boundaryEffect s = afterFrame s := by
  obtain ⟨sending, f, shifter, last⟩ := frameCloses_iff.1 closes
  simp [boundaryEffect, sending, shifter, Shifting.lastBit, last]

theorem boundaryEffect_nextBit {f : Shifting} (sending : s.transmitter.state = .sending)
    (shifter : s.transmitter.shifter = some f) (more : f.reached + 1 < f.bits.length) :
    boundaryEffect s = nextBit f s := by
  simp [boundaryEffect, sending, shifter, Shifting.lastBit, Nat.not_le.2 more]

theorem boundaryEffect_postBreak_counts {n : Nat} (post : s.transmitter.state = .postBreak n) (early : n < 2) :
    boundaryEffect s = s.onTransmitter fun t => { t with state := .postBreak (n + 1) } := by
  simp [boundaryEffect, post, early]

theorem boundaryEffect_postBreak_ends {n : Nat} (post : s.transmitter.state = .postBreak n) (late : ¬ n < 2) :
    boundaryEffect s = endPostBreak s := by
  simp [boundaryEffect, post, late]

/-- R84 to R91: what a boundary can bring about. -/
theorem boundaryEffect_cases :
    boundaryEffect s = s ∨ boundaryEffect s = afterFrame s ∨ (∃ f, boundaryEffect s = nextBit f s) ∨
    (∃ n, boundaryEffect s = s.onTransmitter fun t => { t with state := .postBreak (n + 1) }) ∨
    ((∃ n, s.transmitter.state = .postBreak n ∧ ¬ n < 2) ∧ boundaryEffect s = endPostBreak s) := by
  cases state : s.transmitter.state with
  | off => exact .inl (by simp [boundaryEffect, state])
  | markIdle =>
    by_cases waits : s.transmitter.slot ≠ .empty ∨ s.transmitter.breakPending = true
    · exact .inr (.inl (boundaryEffect_markIdle state waits))
    · obtain ⟨empty, noBreak⟩ := not_or.1 waits
      exact .inl (boundaryEffect_rest state (not_not.1 empty) (Bool.not_eq_true _ ▸ noBreak))
  | sending =>
    cases shifter : s.transmitter.shifter with
    | none => exact .inl (by simp [boundaryEffect, state, shifter])
    | some f =>
      by_cases more : f.reached + 1 < f.bits.length
      · exact .inr (.inr (.inl ⟨f, boundaryEffect_nextBit state shifter more⟩))
      · exact .inr (.inl (boundaryEffect_frameCloses (frameCloses_iff.2 ⟨state, f, shifter, Nat.not_lt.1 more⟩)))
  | breaking => exact .inl (boundaryEffect_breaking state)
  | postBreak n =>
    by_cases early : n < 2
    · exact .inr (.inr (.inr (.inl ⟨n, boundaryEffect_postBreak_counts state early⟩)))
    · exact .inr (.inr (.inr (.inr ⟨⟨n, rfl, early⟩, boundaryEffect_postBreak_ends state early⟩)))

/-! ### The flow state at a boundary (R89) -/

theorem startFrame_flow : ∃ state, (startFrame s).flow = { s.flow with state := state } := by
  cases held : slotCode s with
  | some code => exact ⟨_, (startFrame_blocks held).2.2⟩
  | none =>
    have rests : startFrame s = s := by unfold startFrame; rw [slotCode_eq_none.1 held]
    exact ⟨_, congrArg State.flow rests⟩

theorem frameOrIdle_flow : ∃ state, (frameOrIdle s).flow = { s.flow with state := state } := by
  unfold frameOrIdle
  split
  · exact ⟨_, rfl⟩
  · exact startFrame_flow

/-- R91: the Attention Controller and the Command Unit hear of the end of a SEND-BREAK's break; nothing else does. -/
def breakEnded (s : State) : State := if s.transmitter.breakByCommand then endCommand .sendBreak .done s else s

theorem breakEnded_frame : changesOnly [.command, .attention] s (breakEnded s) := by
  unfold breakEnded
  split
  · exact endCommand_frame _ _ s
  · exact changesOnly_refl _ s

theorem endPostBreak_eq :
    endPostBreak s = frameOrIdle ((breakEnded s).onTransmitter fun t => { t with breakByCommand := false }) := rfl

/-- Whatever a boundary brings about, of the Flow Controller the outbound flow state alone moves. -/
theorem boundaryEffect_flow : ∃ state, (boundaryEffect s).flow = { s.flow with state := state } := by
  rcases boundaryEffect_cases (s := s) with h | h | ⟨f, h⟩ | ⟨n, h⟩ | ⟨_, h⟩ <;> rw [h]
  · exact ⟨_, rfl⟩
  · unfold afterFrame
    split
    · exact ⟨_, rfl⟩
    · exact frameOrIdle_flow
  · exact ⟨_, rfl⟩
  · exact ⟨_, rfl⟩
  · have ended : (breakEnded s).flow = s.flow := breakEnded_frame .flow (by decide)
    rw [endPostBreak_eq, ← ended]
    exact frameOrIdle_flow

/-- R91: the Command Unit and the Attention Controller hear of a boundary that ends POST-BREAK alone. -/
theorem boundaryEffect_frame_of_early (early : ∀ n, s.transmitter.state = .postBreak n → n < 2) :
    changesOnly [.transmitter, .tones, .flow] s (boundaryEffect s) := by
  rcases boundaryEffect_cases (s := s) with h | h | ⟨f, h⟩ | ⟨n, h⟩ | ⟨⟨n, post, late⟩, h⟩ <;> rw [h]
  · exact changesOnly_refl _ s
  · exact afterFrame_frame s
  · exact (nextBit_frame f s).mono (by decide)
  · exact (onTransmitter_frame s _).mono (by decide)
  · exact absurd (early n post) late

/-! ### The boundary and the end of its event -/

/-- What a boundary that is due leaves, before the waits for PRINT are judged. -/
def boundaryLeft (s : State) : State := boundaryEffect (boundaryTaken s)

theorem boundaryLeft_frame :
    changesOnly [.transmitter, .tones, .flow, .command, .attention] s (boundaryLeft s) :=
  (boundaryEffect_frame _).after (by decide) ((onTransmitter_frame s _).mono (by decide))

/-- R99: a boundary moves nothing that the demands are judged by. -/
theorem demandsJudged_boundaryLeft (judged : demandsJudged s) : demandsJudged (boundaryLeft s) :=
  demandsJudged_congr (boundaryLeft_frame .receiver (by decide)) (boundaryLeft_frame .switch (by decide))
    (boundaryLeft_frame .carriage (by decide)) (boundaryLeft_frame .rings (by decide)) boundaryEffect_flow judged

theorem boundary_onlySettles :
    onlySettles { s with transmitter := (boundaryLeft s).transmitter, flow := (boundaryLeft s).flow }
      (settle (boundaryLeft s)) :=
  onlySettles_of_settle (boundaryLeft_frame .switch (by decide)) rfl rfl

/-- The blocks that a boundary leaves stand at the end of its event. -/
theorem settle_boundaryLeft (judged : demandsJudged s) :
    (settle (boundaryLeft s)).transmitter = (boundaryLeft s).transmitter ∧
      (settle (boundaryLeft s)).flow = (boundaryLeft s).flow :=
  settle_line_of_judged (demandsJudged_boundaryLeft judged)

/-- What an event that leaves the transmitter, the line voice and the flow to a free shifter leaves at its end. -/
theorem freeBoundary_settle {u : State} (judged : demandsJudged u) (free : freeBoundary s u) :
    freeBoundary s (settle u) :=
  freeBoundary_congr (settle_line_of_judged judged).1 (settle_tones u) (settle_line_of_judged judged).2 free

/-- R86 to R91: at a boundary in MARK-IDLE with something to send, or at the end of a frame, the shifter is free. -/
theorem boundaryLeft_frees
    (frees : s.transmitter.state = .markIdle ∧ (s.transmitter.slot ≠ .empty ∨ s.transmitter.breakPending = true) ∨
      frameCloses s = true) :
    freeBoundary s (boundaryLeft s) ∧ boundaryLeft s = afterFrame (boundaryTaken s) := by
  have follows : boundaryLeft s = afterFrame (boundaryTaken s) := by
    rcases frees with ⟨idle, waits⟩ | closes
    · exact boundaryEffect_markIdle (s := boundaryTaken s) idle waits
    · exact boundaryEffect_frameCloses (s := boundaryTaken s) closes
  exact ⟨follows ▸ freeBoundary_afterFrame rfl rfl rfl rfl, follows⟩

theorem boundaryLeft_frame_of_early (early : ∀ n, s.transmitter.state = .postBreak n → n < 2) :
    changesOnly [.transmitter, .tones, .flow] s (boundaryLeft s) :=
  (boundaryEffect_frame_of_early (s := boundaryTaken s) early).after (by decide)
    ((onTransmitter_frame s _).mono (by decide))

/-! ### The rows that name what a boundary brings about (log 16) -/

theorem exec_bitBoundary (due : s.transmitter.boundaryDue = true) :
    exec .bitBoundary s = .next (settle (boundaryLeft s)) :=
  congrArg Host.Outcome.next (bitBoundary_of_due due)

theorem exec_frameStart (due : s.transmitter.boundaryDue = true)
    (frees : s.transmitter.state = .markIdle ∨ frameCloses s = true ∨ s.transmitter.state = .postBreak 2)
    (noBreak : s.transmitter.breakPending = false) (full : s.transmitter.slot ≠ .empty) :
    exec .frameStart s = .next (settle (boundaryLeft s)) := by
  have starts : startsFrame s.transmitter = true := by
    unfold startsFrame
    rw [endsFrame_of_due due]
    rcases frees with idle | closes | post
    · simp [due, idle, noBreak, full]
    · simp [due, closes, noBreak, full]
    · simp [due, endsPostBreak, post, noBreak, full]
  exact congrArg Host.Outcome.next ((if_pos starts).trans (bitBoundary_of_due due))

theorem exec_frameEnd (due : s.transmitter.boundaryDue = true) (closes : frameCloses s = true) :
    exec .frameEnd s = .next (settle (boundaryLeft s)) :=
  congrArg Host.Outcome.next ((if_pos ((endsFrame_of_due due).trans closes)).trans (bitBoundary_of_due due))

theorem exec_breakStart (due : s.transmitter.boundaryDue = true)
    (frees : s.transmitter.state = .markIdle ∨ frameCloses s = true) (pending : s.transmitter.breakPending = true) :
    exec .breakStart s = .next (settle (boundaryLeft s)) := by
  have starts : startsBreak s.transmitter = true := by
    unfold startsBreak
    rw [endsFrame_of_due due]
    rcases frees with idle | closes
    · simp [due, idle, pending]
    · simp [due, closes, pending]
  exact congrArg Host.Outcome.next ((if_pos starts).trans (bitBoundary_of_due due))

theorem exec_postBreakEnd (due : s.transmitter.boundaryDue = true) (post : s.transmitter.state = .postBreak 2) :
    exec .postBreakEnd s = .next (settle (boundaryLeft s)) := by
  have ends : endsPostBreak s.transmitter = true := by simp [endsPostBreak, due, post]
  exact congrArg Host.Outcome.next ((if_pos ends).trans (bitBoundary_of_due due))

/-- R86 to R91: a boundary at which the shifter is free, at the end of its event. -/
theorem boundary_frees (judged : demandsJudged s)
    (frees : s.transmitter.state = .markIdle ∧ (s.transmitter.slot ≠ .empty ∨ s.transmitter.breakPending = true) ∨
      frameCloses s = true) :
    (let t := settle (boundaryLeft s)
     freeBoundary s t ∧ changesOnly [.transmitter, .tones, .flow, .switch] s t ∧
     onlySettles { s with transmitter := t.transmitter, flow := t.flow } t) := by
  obtain ⟨free, follows⟩ := boundaryLeft_frees frees
  have toLeft : changesOnly [.transmitter, .tones, .flow] s (boundaryLeft s) :=
    follows ▸ (afterFrame_frame _).after (by decide) ((onTransmitter_frame s _).mono (by decide))
  obtain ⟨transmitter, flow⟩ := settle_boundaryLeft judged
  refine ⟨freeBoundary_settle (demandsJudged_boundaryLeft judged) free,
    (settle_changesOnly _).after (by decide) (toLeft.mono (by decide)), ?_⟩
  rw [transmitter, flow]
  exact boundary_onlySettles

end

/-- Settles O35: at a free shifter `boundary_frees` says what follows; elsewhere the boundary's effect is one update. -/
theorem bitBoundaries : Obligations.BitBoundaries := by
  refine ⟨fun s rest => ?_, fun s due judged idle full noBreak => ?_, fun s f due judged sending shifter last => ?_,
    fun s due judged => ?_, fun s due => ?_⟩
  · exact congrArg Host.Outcome.next (if_neg (by simp [rest]))
  · exact ⟨_, exec_frameStart due (.inl idle) noBreak full, boundary_frees judged (.inl ⟨idle, .inl full⟩)⟩
  · have closes := frameCloses_iff.2 ⟨sending, f, shifter, last⟩
    exact ⟨_, exec_frameEnd due closes, boundary_frees judged (.inr closes)⟩
  · let w := boundaryTaken s
    obtain ⟨transmitter, flow⟩ := settle_boundaryLeft judged
    refine ⟨_, exec_bitBoundary due, ?_⟩
    rw [transmitter, flow, settle_tones, settle_command, settle_attention]
    refine ⟨fun f sending shifter more => ?_, fun idle empty noBreak => ?_, fun breaking => ?_, fun post => ?_,
      fun post => ?_, fun state => ?_, boundary_onlySettles,
      (settle_changesOnly _).after (by decide) (boundaryLeft_frame.mono (by decide))⟩
    · have next : boundaryLeft s = nextBit f w := boundaryEffect_nextBit (s := w) sending shifter more
      rw [next]
      refine ⟨rfl, fun tone bit => ?_, rfl⟩
      rw [nextBit, lineTone_tones, List.getD_eq_getElem?_getD, bit]
      rfl
    · have stays : boundaryLeft s = w := boundaryEffect_rest (s := w) idle empty noBreak
      rw [stays]
      exact ⟨rfl, rfl, rfl⟩
    · have stays : boundaryLeft s = w := boundaryEffect_breaking (s := w) breaking
      rw [stays]
      exact ⟨rfl, rfl, rfl⟩
    · have counts := boundaryEffect_postBreak_counts (s := w) post (by decide)
      rw [boundaryLeft, counts]
      exact ⟨rfl, rfl, rfl⟩
    · have counts := boundaryEffect_postBreak_counts (s := w) post (by decide)
      rw [boundaryLeft, counts]
      exact ⟨rfl, rfl, rfl⟩
    · have early : ∀ n, s.transmitter.state = .postBreak n → n < 2 := fun n post => by
        rw [post] at state
        simp only [reduceCtorEq, TxState.postBreak.injEq, false_or] at state
        omega
      have same := boundaryLeft_frame_of_early early
      exact ⟨same .command (by decide), same .attention (by decide)⟩
  · exact ⟨_, exec_bitBoundary due, exec_frameStart due, exec_frameEnd due,
      exec_breakStart due, exec_postBreakEnd due⟩

end Sys2Proof.Machine

namespace Sys2Proof.Machine

/-! ## Breaks (R90, R91, R179) -/

section
variable {s : State}

/-- R91, R176: what the Command Unit and the Attention Controller hold after the end of a break. -/
theorem breakEnded_reports :
    if s.transmitter.breakByCommand = true ∧ s.command.running = some .sendBreak then
      (breakEnded s).command = { s.command with result := .done, running := none } ∧
      (breakEnded s).attention = { s.attention with flags := s.attention.flags ||| flagIf true .commandEnd }
    else (breakEnded s).command = s.command ∧ (breakEnded s).attention = s.attention := by
  unfold breakEnded
  cases byCommand : s.transmitter.breakByCommand with
  | false => simp
  | true =>
    rcases endCommand_cases .sendBreak .done s with ⟨runs, ends⟩ | ⟨rests, ends⟩
    · simp [ends, runs, raise, flagIf]
    · simp [ends, rests]

/-- With no break pending a free shifter is followed by a frame or by MARK-IDLE. -/
theorem afterFrame_of_noBreak (noBreak : s.transmitter.breakPending = false) : afterFrame s = frameOrIdle s := by
  simp [afterFrame, noBreak]

/-- R91: the Line Transmitter after a break, without the mark of a SEND-BREAK. -/
def unmarked (s : State) : State := { s with transmitter := { s.transmitter with breakByCommand := false } }

/-- R91: at the third boundary the end of the break is reported, and the shifter is free. -/
theorem boundaryLeft_endsPostBreak (post : s.transmitter.state = .postBreak 2)
    (noBreak : s.transmitter.breakPending = false) :
    freeBoundary (unmarked s) (boundaryLeft s) ∧
      changesOnly [.transmitter, .tones, .flow] (breakEnded (boundaryTaken s)) (boundaryLeft s) := by
  let x := unmarked (breakEnded (boundaryTaken s))
  have ended := breakEnded_frame (s := boundaryTaken s)
  have line : x.transmitter = (boundaryTaken (unmarked s)).transmitter :=
    congrArg (fun t : LineTransmitter => { t with breakByCommand := false }) (ended .transmitter (by decide))
  have still : x.transmitter.breakPending = false := by rw [line]; exact noBreak
  have ends : boundaryLeft s = frameOrIdle x := boundaryEffect_postBreak_ends (s := boundaryTaken s) post (by decide)
  refine ⟨?_, ends ▸ (frameOrIdle_frame x).after (fun _ h => h)
    ((onTransmitter_frame _ fun t => { t with breakByCommand := false }).mono (by decide))⟩
  rw [ends, ← afterFrame_of_noBreak still]
  exact freeBoundary_afterFrame line (ended .tones (by decide)) (ended .receiver (by decide)) (ended .flow (by decide))

end

/-- Settles O36: a break begins where the shifter is free, and its end is reported before the shifter is free. -/
theorem breaks : Obligations.Breaks := by
  refine ⟨fun s due judged idle pending => ?_, fun s breaking timer => ?_, fun s due judged post noBreak => ?_⟩
  · obtain ⟨free, follows⟩ := boundaryLeft_frees (.inl ⟨idle, .inr pending⟩)
    have begins : boundaryLeft s = startBreak (boundaryTaken s) := follows.trans (if_pos pending)
    have toLeft : changesOnly [.transmitter, .tones] s (boundaryLeft s) :=
      begins ▸ (startBreak_frame _).after (by decide) ((onTransmitter_frame s _).mono (by decide))
    refine ⟨_, exec_breakStart due (.inl idle) pending,
      freeBoundary_settle (demandsJudged_boundaryLeft judged) free,
      (settle_frame_of_judged (demandsJudged_boundaryLeft judged)).after (by decide) (toLeft.mono (by decide)), ?_⟩
    rw [(settle_boundaryLeft judged).1]
    exact onlySettles_of_settle (toLeft .switch (by decide)) (toLeft .flow (by decide)) rfl
  · exact ⟨_, congrArg Host.Outcome.next (if_pos ⟨breaking, timer⟩), rfl, lineTone_tones _,
      (lineTone_frame _ _).after (by decide) ((onTransmitter_frame s _).mono (by decide))⟩
  · obtain ⟨free, follows⟩ := boundaryLeft_endsPostBreak post noBreak
    obtain ⟨transmitter, flow⟩ := settle_boundaryLeft judged
    refine ⟨_, exec_postBreakEnd due post, freeBoundary_settle (demandsJudged_boundaryLeft judged) free, ?_,
      (settle_changesOnly _).after (by decide) (boundaryLeft_frame.mono (by decide)), ?_⟩
    · rw [settle_command, settle_attention, show (boundaryLeft s).command = _ from follows .command (by decide),
        show (boundaryLeft s).attention = _ from follows .attention (by decide)]
      exact breakEnded_reports (s := boundaryTaken s)
    · rw [transmitter, flow]
      exact boundary_onlySettles

/-- R176, R179: what follows the taking of SEND-BREAK. -/
theorem exec_sendBreak {s : State} (free : portFree s) (idle : commandFree s) :
    exec .sendBreak s = .next (settle (sendBreakEffect (commandTaken 0x04#8 s))) :=
  congrArg Host.Outcome.next (writeCommand_settles free idle)

/-- R90: a break request is taken on a call with none pending or under way. -/
theorem sendBreakEffect_taken {s : State} (call : s.receiver.line = .data ∨ s.receiver.line = .fade)
    (quiet : s.transmitter.breakBusy = false) :
    sendBreakEffect s = startCommand .sendBreak (requestBreak true s) := by
  simp [sendBreakEffect, judgeBreak, (LineState.onCall_iff _).2 call, quiet]

/-- R90: a break request is refused off a call, or while a break is pending or under way. -/
theorem sendBreakEffect_refused {s : State}
    (refused : ¬ ((s.receiver.line = .data ∨ s.receiver.line = .fade) ∧ s.transmitter.breakBusy = false)) :
    sendBreakEffect s =
      setResult (if s.receiver.line = .data ∨ s.receiver.line = .fade then .refusedBusy else .refusedState) s := by
  unfold sendBreakEffect judgeBreak
  by_cases call : s.receiver.line = .data ∨ s.receiver.line = .fade
  · have busy : s.transmitter.breakBusy = true := by simpa [call] using refused
    simp [(LineState.onCall_iff _).2 call, busy, call]
  · have off : s.receiver.line.onCall = false := by
      rwa [← Bool.not_eq_true, LineState.onCall_iff]
    simp [off, call]

/-- R179: SEND-BREAK reports its judgement, and of the Line Transmitter moves the break request alone. -/
theorem sendBreakEffect_frame (s : State) : changesOnly [.command, .transmitter] s (sendBreakEffect s) := by
  unfold sendBreakEffect
  split
  · exact (onCommand_frame _ _).after (by decide) ((requestBreak_frame true s).mono (by decide))
  · exact (onCommand_frame s _).mono (by decide)
  · exact (onCommand_frame s _).mono (by decide)

theorem sendBreakEffect_transmitter (s : State) :
    (sendBreakEffect s).transmitter = { s.transmitter with
      breakPending := (sendBreakEffect s).transmitter.breakPending
      breakByCommand := (sendBreakEffect s).transmitter.breakByCommand } := by
  unfold sendBreakEffect
  split <;> rfl

/-- R176: a code outside the table is the last command, with result UNKNOWN. -/
theorem takeCommand_unknown {code : Byte} (s : State) (unknown : isCommandCode code = false) :
    takeCommand code s = setResult .unknown (s.onCommand fun c => { c with last := code }) := by
  unfold takeCommand
  dsimp only
  split
  case h_13 => rfl
  all_goals
    next known => simp [isCommandCode, known] at unknown

theorem settle_break {s : State} : (settle s).transmitter.breakPending = s.transmitter.breakPending ∧
    (settle s).transmitter.breakByCommand = s.transmitter.breakByCommand := by
  rw [(settle_touches s).2.2.1]
  exact ⟨rfl, rfl⟩

/-- Settles O16: the request is taken or refused as `judgeBreak` says, and a code outside the table leaves its result
alone. -/
theorem sendBreakAndUnknown : Obligations.SendBreakAndUnknown := by
  refine ⟨fun s free idle => ?_, fun s code free idle formed => ?_⟩
  · let w := commandTaken 0x04#8 s
    let u := sendBreakEffect w
    have toW : changesOnly [.command, .pins] s w := commandTaken_frame
    have frame : changesOnly [.command, .transmitter] w u := sendBreakEffect_frame w
    have toU : changesOnly [.command, .pins, .transmitter] s u := frame.after (by decide) (toW.mono (by decide))
    obtain ⟨pending, byCommand⟩ := settle_break (s := u)
    refine ⟨settle u, exec_sendBreak free idle, hostWrote_of_taken (frame .pins (by decide)), ?_,
      (settle_changesOnly u).after (by decide) (toU.mono (by decide)),
      onlySettles_of_settle (toU .switch (by decide)) (toU .flow (by decide)) ?_⟩
    · rw [settle_command, pending, byCommand]
      dsimp only
      split
      · next taken =>
        have takes : u = _ := sendBreakEffect_taken (s := w) taken.1 taken.2
        rw [takes]
        exact ⟨rfl, rfl, rfl⟩
      · next refused =>
        have refuses : u = _ := sendBreakEffect_refused (s := w) refused
        rw [refuses]
        exact ⟨rfl, rfl, rfl⟩
    · rw [pending, byCommand]
      exact sendBreakEffect_transmitter w
  · have unknown : isCommandCode code = false := by simpa [Instr.wellFormed] using formed
    let u := setResult .unknown (commandTaken code s)
    have toU : changesOnly [.command, .pins] s u := (onCommand_frame _ _).after (by decide) commandTaken_frame
    have takes : exec (.unknown code) s = .next (settle u) :=
      congrArg Host.Outcome.next ((writeCommand_settles free idle).trans
        (congrArg settle (takeCommand_unknown (hostDriven 0x00#6 code s) unknown)))
    refine ⟨settle u, takes, hostWrote_of_taken rfl, ?_, settlesOnly_of_settle toU (by decide)⟩
    rw [settle_command]
    rfl

end Sys2Proof.Machine

namespace Sys2Proof.Machine

/-! ## The flow code, the timers and the voices (R74 to R76, R82, R88, R105) -/

/-- Settles O37: the placing moves nothing that the demands are judged by, and each expiry is one update. -/
theorem flowCodeAndTimers : Obligations.FlowCodeAndTimers := by
  refine ⟨fun s kind asked empty judged => ?_, fun s timer => ?_, fun s timer => ?_⟩
  · let u := placeFlowCode kind s
    have frame : changesOnly [.transmitter] s u := onTransmitter_frame s _
    have judgedU : demandsJudged u := demandsJudged_congr (s := s) rfl rfl rfl rfl ⟨_, rfl⟩ judged
    have transmitter := (settle_line_of_judged judgedU).1
    have places : exec .flowCodePlaced s = .next (settle u) := by
      simp only [exec, execFlowCodePlaced, asked]
      rw [if_pos empty]
    refine ⟨settle u, places, ?_, (settle_frame_of_judged judgedU).after (by decide) (frame.mono (by decide)), ?_⟩
    · rw [transmitter]
      cases kind <;> rfl
    · rw [transmitter]
      exact onlySettles_of_settle rfl rfl rfl
  · exact ⟨_, congrArg Host.Outcome.next (if_pos timer), rfl, onFlow_frame s _⟩
  · exact ⟨_, congrArg Host.Outcome.next (if_pos timer), rfl, onTones_frame s _⟩

/-- R75: the model's table, whose second half is the first with its sign changed, is the one of the four quarters. -/
theorem sineTable_eq_sineEntry : ∀ i < 64, sineTable i = sineEntry i := by decide

theorem sineEntry_bounds : ∀ i < 64, -120 ≤ sineEntry i ∧ sineEntry i ≤ 120 := by decide

/-- R75, R76: the DAC output lies between 8 and 248, so that the byte holds it as it is. -/
theorem dacOutput_toNat (level : BitVec 4) (accumulator : BitVec 16) :
    ((dacOutput level accumulator).toNat : Int) =
      128 + Int.fdiv (level.toNat * sineEntry (accumulator.toNat / 1024)) 15 := by
  have index : accumulator.toNat / 1024 < 64 := by omega
  obtain ⟨low, high⟩ := sineEntry_bounds _ index
  have loud : (level.toNat : Int) ≤ 15 := by omega
  have above : -(15 * 120) ≤ (level.toNat : Int) * sineEntry (accumulator.toNat / 1024) := by nlinarith
  have below : (level.toNat : Int) * sineEntry (accumulator.toNat / 1024) ≤ 15 * 120 := by nlinarith
  rw [dacOutput, sineTable_eq_sineEntry _ index, BitVec.toNat_ofInt, Int.fdiv_eq_ediv_of_nonneg _ (by decide)]
  omega

/-- R74 to R76: the sample of a voice. -/
theorem voiceSampled_sample (level : BitVec 4) (v : Voice) : voiceSampled level v (v.sample level) := by
  unfold voiceSampled Voice.sample
  split
  · exact ⟨dacOutput_toNat level v.accumulator, BitVec.toNat_add _ _, rfl⟩
  · rfl

/-- Settles O39: from the release of pin reset on, each voice is sampled at its own level. -/
theorem synthesisSample : Obligations.SynthesisSample := by
  refine ⟨fun s runs => ?_, fun s holding => ?_⟩
  · exact ⟨_, congrArg Host.Outcome.next (if_neg runs), voiceSampled_sample _ _, voiceSampled_sample _ _, rfl,
      onTones_frame s _⟩
  · exact congrArg Host.Outcome.next (if_pos holding)

end Sys2Proof.Machine

namespace Sys2Proof.Machine

/-! ## The flow demands and the outbound flow state (R96 to R103)

An event either ends with the judgement of the demands, or moves nothing of `demandPart`, which names what they are
judged by and what the Flow Controller holds of them. The judgement finds its own demands again, and it moves the
outbound flow state as demand arises and is withdrawn; between two judgements only the start of a flow code's frame and
the entries to DATA and IDLE move that state. -/

/-- What the demands are judged by (R97, R98), the demands held and the outbound flow state. -/
structure DemandPart where
  active : Bool
  lineIn : Row
  entries : Nat
  receiveSize : Nat
  receiveFree : Nat
  pauseLevel : Nat
  printDemand : Bool
  ringDemand : Bool
  state : FlowState

def demandPart (s : State) : DemandPart where
  active := flowActive s
  lineIn := s.switch.lineIn
  entries := s.carriage.queue.length
  receiveSize := s.rings.receiveSize
  receiveFree := s.rings.receiveFree
  pauseLevel := s.flow.ringPauseLevel
  printDemand := s.flow.printDemand
  ringDemand := s.flow.ringDemand
  state := s.flow.state

/-- What leads from `s` to `t` leaves the outbound flow state as the demands give it. -/
def KeepsPause (s t : State) : Prop := flowFollowsDemand s → flowFollowsDemand t

/-- What leads from `s` to `t` leaves the demands as the state gives them, and the outbound flow state as they give
it. -/
def KeepsDemands (s t : State) : Prop := (demandsJudged s → demandsJudged t) ∧ KeepsPause s t

section
variable {s t u : State}

theorem demandPart_of_frame {blocks : List Block} (h : changesOnly blocks s t)
    (hb : ∀ b ∈ [Block.receiver, .switch, .carriage, .rings, .flow], b ∉ blocks) : demandPart t = demandPart s := by
  have receiver : t.receiver = s.receiver := h .receiver (hb _ (by decide))
  have switch : t.switch = s.switch := h .switch (hb _ (by decide))
  have carriage : t.carriage = s.carriage := h .carriage (hb _ (by decide))
  have rings : t.rings = s.rings := h .rings (hb _ (by decide))
  have flow : t.flow = s.flow := h .flow (hb _ (by decide))
  simp only [demandPart, flowActive, receiver, switch, carriage, rings, flow]

/-! ### Moves of the outbound flow state -/

theorem KeepsPause.refl (s : State) : KeepsPause s s := id

theorem KeepsPause.trans (h : KeepsPause s t) (h' : KeepsPause t u) : KeepsPause s u := h' ∘ h

theorem KeepsPause.of_flow (h : t.flow = s.flow) : KeepsPause s t := by
  unfold KeepsPause flowFollowsDemand
  rw [h]
  exact id

theorem KeepsPause.of_frame {blocks : List Block} (h : changesOnly blocks s t) (hb : .flow ∉ blocks) : KeepsPause s t :=
  .of_flow (h .flow hb)

theorem KeepsPause.from_flow (h : KeepsPause t u) (ht : t.flow = s.flow) : KeepsPause s u :=
  (KeepsPause.of_flow ht).trans h

/-- What leaves the line as it is leaves the Flow Controller. -/
theorem KeepsPause.of_line (h : linePart t = linePart s) : KeepsPause s t := .of_flow (congrArg LinePart.flow h)

theorem KeepsPause.ite {a b : State} {c : Prop} [Decidable c] (ha : c → KeepsPause s a) (hb : ¬ c → KeepsPause s b) :
    KeepsPause s (if c then a else b) := by
  split
  · next h => exact ha h
  · next h => exact hb h

/-! ### Events that keep both -/

theorem KeepsDemands.refl (s : State) : KeepsDemands s s := ⟨id, id⟩

theorem KeepsDemands.trans (h : KeepsDemands s t) (h' : KeepsDemands t u) : KeepsDemands s u :=
  ⟨h'.1 ∘ h.1, h.2.trans h'.2⟩

theorem KeepsDemands.ite {a b : State} {c : Prop} [Decidable c] (ha : c → KeepsDemands s a)
    (hb : ¬ c → KeepsDemands s b) : KeepsDemands s (if c then a else b) := by
  split
  · next h => exact ha h
  · next h => exact hb h

/-- An event that moves nothing of the demands keeps them as the state gives them. -/
theorem KeepsDemands.of_eq (h : demandPart t = demandPart s) : KeepsDemands s t := by
  obtain ⟨active, lineIn, entries, size, free, level, print, ring, state⟩ := DemandPart.mk.inj h
  unfold KeepsDemands KeepsPause demandsJudged judgedPrintDemand judgedRingDemand joinedRing workingPauseLevel
    Rings.receiveCapacity flowFollowsDemand
  simp only [active, lineIn, entries, size, free, level, print, ring, state, imp_self, and_self]

theorem KeepsDemands.of_frame {blocks : List Block} (h : changesOnly blocks s t)
    (hb : ∀ b ∈ [Block.receiver, .switch, .carriage, .rings, .flow], b ∉ blocks) : KeepsDemands s t :=
  .of_eq (demandPart_of_frame h hb)

theorem KeepsDemands.next (h : Host.Outcome.next (φ := Fault) (ρ := Refusal) u = .next t) (hu : KeepsDemands s u) :
    KeepsDemands s t := Host.Outcome.next.inj h ▸ hu

theorem KeepsDemands.ite_next {a b : State} {c : Prop} [Decidable c]
    (h : Host.Outcome.next (φ := Fault) (ρ := Refusal) (if c then a else b) = .next t) (ha : c → KeepsDemands s a)
    (hb : ¬ c → KeepsDemands s b) : KeepsDemands s t := .next h (.ite ha hb)

end

/-! ### The judgement of the demands (R99 to R101) -/

section
variable (s : State)

/-- R100, R101: as demand arises, the outbound flow state becomes PAUSE-PENDING or PAUSED. -/
theorem demandArises_pauses :
    (demandArises s).flow.state = .pausePending ∨ (demandArises s).flow.state = .paused := by
  unfold demandArises
  cases state : s.flow.state with
  | clear => exact .inl rfl
  | pausePending => exact .inl state
  | paused => exact .inr state
  | resumePending => exact .inr rfl

/-- R100, R101: as demand is withdrawn, the outbound flow state becomes CLEAR or RESUME-PENDING. -/
theorem demandWithdrawn_resumes :
    ¬ ((demandWithdrawn s).flow.state = .pausePending ∨ (demandWithdrawn s).flow.state = .paused) := by
  unfold demandWithdrawn
  cases state : s.flow.state with
  | clear | resumePending => simp [state]
  | pausePending => simp [cancelFlowCode]
  | paused => simp [requestFlowCode]

/-- R99: the judgement moves the outbound flow state where demand as a whole arises or is withdrawn. -/
theorem settle_keepsPause : KeepsPause s (settle s) := by
  intro follows
  obtain ⟨print, ring⟩ := judgeDemands_flow_demands s
  show flowFollowsDemand (judgeDemands s)
  unfold flowFollowsDemand at follows ⊢
  rw [print, ring]
  unfold judgeDemands
  dsimp only
  split
  · next arises => exact iff_of_true (demandArises_pauses _) (Bool.or_eq_true .. ▸ arises.2)
  · next noRise =>
    split
    · next withdrawn =>
      refine iff_of_false (demandWithdrawn_resumes _) ?_
      rw [← Bool.or_eq_true, withdrawn.2]
      exact Bool.false_ne_true
    · next noFall =>
      have same : (s.flow.printDemand || s.flow.ringDemand) = (judgedPrintDemand s || judgedRingDemand s) := by grind
      refine follows.trans ?_
      rw [← Bool.or_eq_true, ← Bool.or_eq_true, same]

end

/-- R99: an event that ends with the judgement leaves the demands judged, whatever it moved. -/
theorem KeepsDemands.settled {s u : State} (h : KeepsPause s u) : KeepsDemands s (settle u) :=
  ⟨fun _ => demandsJudged_settle u, h.trans (settle_keepsPause u)⟩

end Sys2Proof.Machine

namespace Sys2Proof.Machine

section
variable (s : State)

/-! ### The line and the transmitter (R53, R57, R89) -/

/-- R57, R103: the entry to IDLE withdraws both demands and leaves the outbound flow state CLEAR. -/
theorem enterIdle_keepsPause : KeepsPause s (enterIdle s) := by
  obtain ⟨_, _, _, flow, _⟩ := enterIdle_blocks s
  intro _
  rw [flowFollowsDemand, flow]
  simp [idleFlow]

/-- R53, R96: the entry to DATA, before which no demand is held, leaves the outbound flow state CLEAR. -/
theorem enterData_keepsPause (quiet : offCallQuiet s) (qualify : s.receiver.line = .qualify) :
    KeepsPause s (enterData s) := by
  obtain ⟨_, _, _, _, _, _, _, print, ring, _⟩ := quiet (by rw [qualify]; rfl)
  obtain ⟨_, _, _, flow⟩ := enterData_blocks s
  intro _
  rw [flowFollowsDemand, flow]
  simp [print, ring]

/-- R89: a flow code that starts sending moves PAUSE-PENDING to PAUSED and RESUME-PENDING to CLEAR. -/
theorem reportFlowStarted_keepsPause (kind : FlowCode) : KeepsPause s (reportFlowStarted kind s) := by
  unfold reportFlowStarted
  split
  · next state => simp [KeepsPause, flowFollowsDemand, state]
  · next state => simp [KeepsPause, flowFollowsDemand, state]
  · exact .refl s

theorem startFrame_keepsPause : KeepsPause s (startFrame s) := by
  unfold startFrame
  split
  · exact .refl s
  · exact id
  · exact (reportFlowStarted_keepsPause _ _).from_flow rfl

theorem frameOrIdle_keepsPause : KeepsPause s (frameOrIdle s) := .ite (fun _ => id) fun _ => startFrame_keepsPause s

theorem endPostBreak_keepsPause : KeepsPause s (endPostBreak s) := by
  refine KeepsPause.trans ?_ (frameOrIdle_keepsPause _)
  refine .trans (.ite (fun _ => .of_frame (endCommand_frame _ _ s) (by decide)) fun _ => .refl s) id

/-- R84 to R91: of the effects of a bit boundary only the start of a flow code's frame moves the flow state. -/
theorem boundaryEffect_keepsPause : KeepsPause s (boundaryEffect s) := by
  unfold boundaryEffect
  split
  · exact .refl s
  · exact .ite (fun _ => id) fun _ => .ite (fun _ => .refl s) fun _ => startFrame_keepsPause s
  · split
    · exact .ite (fun _ => .ite (fun _ => id) fun _ => frameOrIdle_keepsPause s) fun _ => id
    · exact .refl s
  · exact .refl s
  · exact .ite (fun _ => id) fun _ => endPostBreak_keepsPause s

theorem bitBoundary_keepsDemands : KeepsDemands s (bitBoundary s) :=
  .ite (fun _ => .settled ((boundaryEffect_keepsPause _).from_flow rfl)) fun _ => .refl s

/-! ### The samples of the line (R51 to R71) -/

theorem judgeFrame_keepsPause (f : ReceivedFrame) : KeepsPause s (judgeFrame f s) := by
  unfold judgeFrame
  exact .ite (fun _ => id) fun _ => .ite (fun _ => id) fun _ => .ite (fun _ => .of_line (by simp)) fun _ =>
    .of_line (by simp)

/-- R68: of the Flow Controller a received break moves remote pause alone. -/
theorem receiveBreak_keepsPause : KeepsPause s (receiveBreak s) := by
  refine KeepsPause.trans (.of_line ?_) (id : KeepsPause (abortAnswerback _) (clearRemotePause (abortAnswerback _)))
  rw [linePart_abortAnswerback]
  split
  · rw [linePart_flushPrintQueue]
    split <;> simp
  · split <;> simp

theorem advanceFramer_keepsPause (tone : Tone) : KeepsPause s (advanceFramer tone s) := by
  unfold advanceFramer
  split
  · exact id
  · exact (judgeFrame_keepsPause _ _).from_flow rfl
  · exact (receiveBreak_keepsPause _).from_flow rfl

theorem carrierArrives_keepsPause (tone : Tone) : KeepsPause s (carrierArrives tone s) := by
  unfold carrierArrives
  dsimp only
  split
  · exact id
  · exact (advanceFramer_keepsPause _ _).from_flow rfl
  · exact id

theorem carrierLeaves_keepsPause : KeepsPause s (carrierLeaves s) := by
  unfold carrierLeaves
  dsimp only
  split <;> exact id

theorem sampleLine_keepsDemands (line : LineInput) : KeepsDemands s (sampleLine line s) := by
  unfold sampleLine lineSample
  refine .ite (fun _ => .refl s) fun _ => .settled ?_
  refine KeepsPause.trans (t := recordSample (heard line s.receiver).energy s) id ?_
  exact .ite (fun _ => carrierArrives_keepsPause _ _) fun _ => .ite (fun _ => carrierLeaves_keepsPause _) fun _ =>
    .ite (fun _ => advanceFramer_keepsPause _ _) fun _ => .refl _

/-! ### Local functions, commands and setup -/

theorem lineLocalFunction_keepsPause : KeepsPause s (lineLocalFunction s) := by
  refine .ite (fun _ => ?_) fun _ => ?_
  · exact (KeepsPause.of_frame (enterListen_frame s) (by decide)).trans (.of_line (linePart_applyPreset _ _))
  · exact (enterIdle_keepsPause s).trans (.of_line (by simp))

/-- R42: of the keys only LINE/LOCAL reaches the outbound flow state, by the entry to IDLE. -/
theorem actOnCode_keepsPause (code : Byte) : KeepsPause s (actOnCode code s) := by
  have records : ∀ {act : State → State}, (∀ t, KeepsPause t (act t)) →
      KeepsPause s (finishEvent (act (recordFunction code s))) := fun acts =>
    ((KeepsPause.of_line (linePart_recordFunction s code)).trans (acts _)).trans (.of_line (linePart_finishEvent _))
  unfold actOnCode
  split
  · exact .of_line (by simp)
  · exact id
  · exact records fun t => .of_frame (breakFunction_frame t) (by decide)
  · exact records lineLocalFunction_keepsPause
  · exact records fun t => .of_line (by simp)
  · exact records fun t => .of_line (by simp)
  · exact records fun t => .of_frame (tabClearFunction_frame t) (by decide)
  · exact records fun t => id
  · exact .of_frame (feedFunction_frame s) (by decide)
  · exact records fun t => .of_line (by simp)
  · exact records fun t => id

theorem translate_keepsPause (data : Byte) : KeepsPause s (translate data s) := by
  unfold translate
  split
  · exact .refl s
  · exact actOnCode_keepsPause s _

/-- R182: the units that RESTART stops after its entry to IDLE are none of the line's. -/
theorem linePart_restartUnits : linePart (restartUnits s) = linePart s := by
  have keyboard : ∀ t, linePart (restartKeyboard t) = linePart t := fun t => by
    rw [restartKeyboard, linePart_discardTranslation]
    rfl
  have firing : ∀ t, linePart (restartFiring t) = linePart t := fun t =>
    (linePart_of_frame (restartDot_frame _) (by decide)).trans (linePart_dropRequest t (by decide))
  have rings : linePart (restartRings s) = linePart s := by simp [restartRings]
  have carriage : ∀ t, linePart (restartCarriage t) = linePart t := fun _ => rfl
  have tones : ∀ t, linePart (restartTones t) = linePart t := fun _ => rfl
  have clears : ∀ t, linePart (restartClears t) = linePart t := fun _ => rfl
  rw [restartUnits, clears, firing, carriage, tones, keyboard, rings]

/-- R182: RESTART reaches the outbound flow state by its entry to IDLE alone. -/
theorem restartEffect_keepsPause : KeepsPause s (restartEffect s) := by
  obtain ⟨_, _, _, _, flow, _⟩ := restartLine_blocks s
  have idle : KeepsPause s (restartLine s) := fun _ => by
    rw [flowFollowsDemand, flow]
    simp [idleFlow]
  rw [restartEffect_eq]
  exact idle.trans (.of_line ((linePart_restartUnits _).trans (linePart_abortAnswerback _)))

theorem takeCommand_keepsPause (code : Byte) : KeepsPause s (takeCommand code s) := by
  refine KeepsPause.from_flow (t := s.onCommand fun c => { c with last := code }) ?_ rfl
  have listens : ∀ channel t, KeepsPause t (lineOnEffect channel t) := fun channel t =>
    .ite (fun _ => .of_flow (enterListen_frame (t.onReceiver fun r => { r with channel := channel }) .flow (by decide)))
      fun _ => id
  unfold takeCommand
  dsimp only
  split
  · exact listens _ _
  · exact listens _ _
  · exact KeepsPause.ite (fun _ => .refl _) fun _ => enterIdle_keepsPause _
  · exact .of_frame (sendBreakEffect_frame _) (by decide)
  · unfold sendAnswerbackEffect
    split <;> exact .of_line (by simp)
  · unfold setModeEffect
    split <;> exact .of_line (by simp)
  · exact .of_line (by simp [flushPrintEffect])
  · exact .ite (fun _ => .of_line (by simp)) fun _ => id
  · exact .ite (fun _ => .ite (fun _ => id) fun _ => id) fun _ => id
  · exact .ite (fun _ => id) fun _ => id
  · exact id
  · exact restartEffect_keepsPause _
  · exact id

theorem writeControl_keepsPause (offset : Offset) (data : Byte) : KeepsPause s (writeControl offset data s) := by
  unfold writeControl
  split
  case h_1 => exact takeCommand_keepsPause s data
  case h_9 => exact .ite (fun _ => id) fun _ => id
  case h_10 => exact .ite (fun _ => id) fun _ => id
  case h_21 | h_22 | h_23 | h_24 => exact .of_frame (setRow_frame _ _ s) (by decide)
  case h_25 | h_26 | h_27 | h_30 | h_31 | h_32 => exact .of_frame (writeRingPlacement_frame _ data s) (by decide)
  case h_34 | h_35 => exact .of_line ((linePart_requestHeaderLoad _).trans rfl)
  case h_37 => exact .ite (fun _ => id) fun _ => id
  case h_42 | h_43 | h_44 => exact .of_frame (writeAnswerbackSetup_frame s _ data) (by decide)
  all_goals exact id

/-! ### Host cycles and grants -/

/-- R21: the send ring's head is no part of what the demands are judged by. -/
theorem demandPart_captureHead : demandPart (captureHead s) = demandPart s := by
  unfold captureHead
  split
  · rfl
  · exact (demandPart_of_frame (requestSendFetch_frame _) (by decide)).trans rfl

/-- R160: a cycle that reaches a field's owner or takes a record ends with the judgement; any other one moves nothing
that the demands are judged by. -/
theorem passCycle_keepsDemands (c : HostCycle) : KeepsDemands s (passCycle c s) := by
  cases c with
  | read address data outcome =>
    cases outcome with
    | control offset =>
      exact .ite (fun _ => .of_eq ((demandPart_of_frame (takeAttention_frame _) (by decide)).trans rfl)) fun _ => .of_eq rfl
    | passed consume =>
      exact .ite (fun _ => .settled (.of_flow (consumeRecord_frame _ .flow (by decide)))) fun _ => .of_eq rfl
  | write address data outcome =>
    cases outcome with
    | commandBusy => exact .of_eq rfl
    | withheld cause => exact .of_eq rfl
    | control offset =>
      exact .settled ((writeControl_keepsPause (driveMemory [.write address data] s) offset data).from_flow rfl)
    | passed head entry =>
      have headers : ∀ t, demandPart (reportWrite head entry data t) = demandPart (if head then captureHead t else t) :=
        fun t => by cases entry <;> rfl
      refine .of_eq ((headers _).trans ?_)
      split
      · exact (demandPart_captureHead _).trans rfl
      · rfl

theorem runCycle_keepsDemands (c : HostCycle) : KeepsDemands s (runCycle c s) :=
  .ite (fun _ => .of_eq rfl) fun _ =>
    .ite (fun _ => .of_eq ((demandPart_of_frame (startNextGrant_frame _) (by decide)).trans rfl)) fun _ =>
      passCycle_keepsDemands s c

theorem passHeld_keepsDemands : KeepsDemands s (passHeld s) := by
  unfold passHeld
  split
  · exact .refl s
  · next c _ =>
    have released : KeepsDemands s (s.onArbiter fun a => { a with held := none }) := .of_eq rfl
    exact (released.trans (passCycle_keepsDemands _ c)).trans (.of_eq rfl)

/-- R171: the end of a grant is judged, and so is the held cycle that passes then. -/
theorem finishGrant_keepsDemands (cycles : List MemCycle) {act : State → State} (h : ∀ t, KeepsPause t (act t)) :
    KeepsDemands s (finishGrant cycles act s) :=
  (KeepsDemands.settled ((h (grantEnded cycles s)).from_flow rfl)).trans (passHeld_keepsDemands _)

/-- A grant whose owner's action on the data, where it is not discarded, leaves the line alone. -/
theorem finishOther_keepsDemands (cycles : List MemCycle) (discarded : Bool) {act : State → State}
    (h : ∀ t, linePart (act t) = linePart t) : KeepsDemands s (finishGrant cycles (unlessDiscarded discarded act) s) :=
  finishGrant_keepsDemands s cycles fun t => .ite (fun _ => .refl t) fun _ => .of_line (h t)

/-! ### Every step -/

/-- An event of the printer or the keyboard ends with the judgement and leaves the Flow Controller alone. -/
theorem KeepsDemands.settledLine {s u : State} (h : linePart u = linePart s) : KeepsDemands s (settle u) :=
  .settled (.of_line h)

/-- R12: a delivered character reaches the holding slot, the print queue and the staged records. -/
theorem deliver_keepsPause (source : WaitingSource) (character : Byte) : KeepsPause s (deliver source character s) := by
  have sent : KeepsPause s (if (s.switch.row source).lineOut then deliverLineOut source character s else s) :=
    .ite (fun _ => .of_frame (deliverLineOut_frame s source character) (by decide)) fun _ => .refl s
  have printed := KeepsPause.ite (c := (s.switch.row source).print = true)
    (fun _ => sent.trans (.of_line (linePart_appendPrint _ (.character (printCode character))))) fun _ => sent
  exact .ite (fun _ => printed.trans (.of_line (linePart_offerRecord _ _))) fun _ => printed

/-- R36: the expiry of the repeat timer offers an event to the key queue. -/
theorem repeatExpiry_frame : changesOnly [.keyboard, .translator, .arbiter] s (repeatExpiry s) := by
  refine (onKeyboard_frame _ _).after (by decide) ?_
  split
  · split
    · exact offerRepeat_frame _ s
    · exact changesOnly_refl _ s
  · exact changesOnly_refl _ s

theorem exec_keepsDemands {t : State} (i : Instr) (quiet : offCallQuiet s) (h : exec i s = .next t) :
    KeepsDemands s t := by
  cases hc : hostCycleOf i s with
  | some c =>
    rw [exec_of_hostCycleOf s hc] at h
    exact .ite_next h (fun _ => runCycle_keepsDemands s c) fun _ => .refl s
  | none =>
    cases i with
    | pinReset =>
      cases h
      exact ⟨fun _ => ⟨rfl, rfl⟩, fun _ => by simp [flowFollowsDemand, State.reset]⟩
    | rstiRelease =>
      exact .ite_next h (fun _ => .of_eq ((demandPart_of_frame (requestGrant_frame _ _) (by decide)).trans rfl))
        fun _ => .refl s
    | startUpFetch o0 o1 mv md =>
      refine .ite_next h (fun _ => finishGrant_keepsDemands s _ fun t => ?_) fun _ => .refl s
      exact KeepsPause.from_flow (t := takeOptions o0 o1 t) (.of_line (by simp [beginBlocks])) rfl
    | carrierPresent low high | carrierAbsent low high | frameReceived low high | receivedBreak low high =>
      exact .ite_next h (fun _ => sampleLine_keepsDemands s ⟨low, high⟩) fun _ => .refl s
    | lineSample low high => exact .next h (sampleLine_keepsDemands s ⟨low, high⟩)
    | listenExpiry | fadeExpiry =>
      exact .ite_next h (fun _ => .settled (enterIdle_keepsPause s)) fun _ => .refl s
    | qualifyExpiry =>
      exact .ite_next h (fun expires => .settled (enterData_keepsPause s quiet expires.1)) fun _ => .refl s
    | frameStart | frameEnd | breakStart | postBreakEnd =>
      exact .ite_next h (fun _ => bitBoundary_keepsDemands s) fun _ => .refl s
    | bitBoundary => exact .next h (bitBoundary_keepsDemands s)
    | flowCodePlaced =>
      refine .next h ?_
      split
      · exact .ite (fun _ => .settled id) fun _ => .refl s
      · exact .refl s
    | take source =>
      refine .next h ?_
      split
      · next character _ =>
        refine .ite (fun _ => .settled ?_) fun _ => .refl s
        exact (deliver_keepsPause s source character).trans (.of_line (linePart_leaveSource _ source))
      · exact .refl s
    | translationRead data =>
      refine .next h ?_
      split
      · exact finishGrant_keepsDemands s _ fun t => .ite (fun _ => .refl t) fun _ => translate_keepsPause t data
      · exact .refl s
    | headerLoad | glyphFetch | receivePlacement | sendFetch | answerbackRead =>
      refine .next h ?_
      split
      · exact finishOther_keepsDemands s _ _ fun t => by simp
      · exact .refl s
    | eligibilityRead data =>
      refine .next h ?_
      split
      · exact finishGrant_keepsDemands s _ fun t => .of_line (by simp)
      · exact .refl s
    | scanPass readings =>
      refine .ite_next h (fun _ => ?_) fun _ => .refl s
      rw [scanPass_eq]
      exact .settledLine (linePart_scanEnded s _)
    | entryHandling =>
      refine .next h ?_
      split
      · exact .refl s
      · next e rest _ =>
        exact .ite (fun _ => .settledLine ((linePart_handleEntry (consumeEntry rest s) e).trans rfl)) fun _ => .refl s
    | settleExpiry =>
      refine .ite_next h (fun _ => ?_) fun _ => .refl s
      exact .ite (fun _ => .of_eq rfl) fun _ => .settledLine ((linePart_beginFiring _).trans rfl)
    | columnTimerExpiry =>
      refine .ite_next h (fun _ => .settledLine ?_) fun _ => .refl s
      unfold expireColumn
      dsimp only
      split <;> simp
    | paperOut =>
      exact .ite_next h (fun _ => .ite (fun _ => .settledLine (by simp)) fun _ => .of_eq rfl) fun _ => .refl s
    | feedAppend | motionEnd | returnEnd | feedEnd | paperTimerExpiry | homeFound | seekTimerExpiry | strobeRelease
    | sensorReading => exact .ite_next h (fun _ => .settledLine (by simp)) fun _ => .refl s
    | backStep =>
      refine .next h ?_
      split
      · next made _ =>
        unfold completeBackStep
        exact .ite (fun _ => .of_eq rfl) fun _ => .ite (fun _ => .of_eq rfl) fun _ => .of_eq rfl
      · exact .refl s
    | repeatTimerExpiry =>
      exact .ite_next h (fun _ => .of_frame (repeatExpiry_frame s) (by decide)) fun _ => .refl s
    | groupStart => exact .ite_next h (fun _ => .of_frame (startGroup_frame s) (by decide)) fun _ => .refl s
    | grantStart => exact .ite_next h (fun _ => .of_frame (startNextGrant_frame s) (by decide)) fun _ => .refl s
    | waitTimerExpiry r => exact .ite_next h (fun _ => .of_eq rfl) fun _ => .refl s
    | paperPresent | synthesisSample => exact .ite_next h (fun _ => .refl s) fun _ => .of_eq rfl
    | breakTimerExpiry | remotePauseTimerExpiry | sounderTimerExpiry | homeSeekStart =>
      exact .ite_next h (fun _ => .of_eq rfl) fun _ => .refl s
    | maskWrite byte data | joinRowWrite byte data | ringPlacementWrite byte data | keymapBaseWrite byte data
    | answerbackSetupWrite byte data | headerCapture byte data => cases byte <;> cases hc
    | _ => cases hc

/-- Every step keeps both clauses; the commands that wait are no part of what they say. -/
theorem step_keepsDemands {t : State} (quiet : offCallQuiet s) (h : step s = .next t) : KeepsDemands s t := by
  unfold step at h
  split at h
  · exact .next h (.refl s)
  · next command rest _ => exact exec_keepsDemands { s with pending := rest } command quiet h

end

/-- Settles O59: every event ends with the judgement or moves nothing of the demands, and the outbound flow state moves
with them; the entry to DATA, which leaves it CLEAR, finds no demand held. -/
theorem demandsInvariant : Obligations.DemandsInvariant := by
  refine ⟨fun s t sound h => ?_, fun s t sound h => ?_⟩
  · obtain ⟨quiet, judged⟩ := sound
    exact (step_keepsDemands s quiet h).1 judged
  · obtain ⟨quiet, follows⟩ := sound
    exact (step_keepsDemands s quiet h).2 follows

end Sys2Proof.Machine

namespace Sys2Proof.Machine

/-! ## SEND-ANSWERBACK and SET-MODE (R4, R110, R111, R180) -/

section
variable {s : State}

theorem exec_sendAnswerback (free : portFree s) (idle : commandFree s) :
    exec .sendAnswerback s = .next (settle (sendAnswerbackEffect (commandTaken 0x05#8 s))) :=
  congrArg Host.Outcome.next (writeCommand_settles free idle)

theorem exec_setMode (free : portFree s) (idle : commandFree s) :
    exec .setMode s = .next (settle (setModeEffect (commandTaken 0x06#8 s))) :=
  congrArg Host.Outcome.next (writeCommand_settles free idle)

/-- R110: a trigger of a running unit is refused. -/
theorem judgeTrigger_of_running (running : s.answerback.running = true) : judgeTrigger s = .refusedRunning :=
  if_pos running

/-- R110: a trigger of an idle unit of length 0 is refused. -/
theorem judgeTrigger_of_empty (running : ¬ s.answerback.running = true) (empty : s.answerback.length = 0) :
    judgeTrigger s = .refusedEmpty :=
  (if_neg running).trans (if_pos empty)

/-- R110: a trigger of an idle unit of length 1 or more is taken. -/
theorem judgeTrigger_of_filled (running : ¬ s.answerback.running = true) (filled : ¬ s.answerback.length = 0) :
    judgeTrigger s = .taken :=
  (if_neg running).trans (if_neg filled)

theorem sendAnswerbackEffect_frame (s : State) :
    changesOnly [.command, .answerback, .arbiter] s (sendAnswerbackEffect s) := by
  unfold sendAnswerbackEffect
  split
  · exact (setResult_frame _ _).after (by decide) ((triggerAnswerback_frame s).mono (by decide))
  · exact (setResult_frame _ s).mono (by decide)
  · exact (setResult_frame _ s).mono (by decide)

end

/-- R110, R111, R180: SEND-ANSWERBACK reports how its trigger is judged, and a taken one starts the run. -/
theorem sendAnswerbackEffect_blocks (s : State) :
    if s.answerback.running = true then
      (sendAnswerbackEffect s).command = { s.command with result := .refusedBusy } ∧
        (sendAnswerbackEffect s).answerback = s.answerback ∧ (sendAnswerbackEffect s).arbiter = s.arbiter
    else if s.answerback.length = 0 then
      (sendAnswerbackEffect s).command = { s.command with result := .refusedState } ∧
        (sendAnswerbackEffect s).answerback = s.answerback ∧ (sendAnswerbackEffect s).arbiter = s.arbiter
    else
      (sendAnswerbackEffect s).command = { s.command with result := .done } ∧
      (sendAnswerbackEffect s).answerback = { s.answerback with
        running := true, pointer := s.answerback.base, remaining := s.answerback.length, prefetched := none
        lastResult := .noResult } ∧
      (sendAnswerbackEffect s).arbiter = { s.arbiter with answerback := waitAfterRequest true .answerback s } := by
  split
  · next running =>
    rw [sendAnswerbackEffect, judgeTrigger_of_running running]
    exact ⟨rfl, rfl, rfl⟩
  · next running =>
    split
    · next empty =>
      rw [sendAnswerbackEffect, judgeTrigger_of_empty running empty]
      exact ⟨rfl, rfl, rfl⟩
    · next filled =>
      obtain ⟨answerback, arbiter, frame⟩ := triggerIf_blocks (s := s) true rfl
      rw [sendAnswerbackEffect, judgeTrigger_of_filled running filled]
      refine ⟨?_, answerback.trans (if_pos ⟨rfl, by simpa using running, filled⟩), arbiter.trans ?_⟩
      · rw [setResult, State.onCommand_command, show (triggerAnswerback s).command = _ from frame .command (by decide)]
      · simp [running, filled]

/-- R4, R180: the operands 0 to 2 name a preset, whose sending rows hold LINE-OUT but for operand 0 and PRINT but for
operand 1. -/
theorem presetOfOperand_of_lt {operand : Byte} (known : operand.toNat < 3) :
    ∃ p, presetOfOperand operand = some p ∧ p.keyboardRow.lineOut = decide (operand ≠ 0) ∧
      p.keyboardRow.print = decide (operand ≠ 1) := by
  have named : operand = 0#8 ∨ operand = 1#8 ∨ operand = 2#8 := by bv_omega
  rcases named with rfl | rfl | rfl
  · exact ⟨.localMode, rfl, rfl, rfl⟩
  · exact ⟨.full, rfl, rfl, rfl⟩
  · exact ⟨.half, rfl, rfl, rfl⟩

theorem presetOfOperand_of_not_lt {operand : Byte} (unknown : ¬ operand.toNat < 3) : presetOfOperand operand = none := by
  unfold presetOfOperand
  split
  case h_4 => rfl
  all_goals omega

theorem setModeEffect_frame (s : State) : changesOnly [.command, .switch] s (setModeEffect s) := by
  unfold setModeEffect
  split
  · exact (setResult_frame _ _).after (by decide) ((applyPreset_frame _ s).mono (by decide))
  · exact (setResult_frame _ s).mono (by decide)

/-- R4, R5, R180: with an operand that names a preset SET-MODE gives each row the preset's. -/
theorem setModeEffect_of_named {s : State} (known : s.passage.operand.toNat < 3) :
    (setModeEffect s).command = { s.command with result := .done } ∧
    (setModeEffect s).switch = rowsPreset (decide (s.passage.operand ≠ 0)) (decide (s.passage.operand ≠ 1))
      s.answerback.running s.switch := by
  obtain ⟨p, names, lineOut, print⟩ := presetOfOperand_of_lt known
  rw [setModeEffect, names, ← lineOut, ← print]
  exact ⟨congrArg (fun c : CommandUnit => { c with result := .done }) (applyPreset_frame p s .command (by decide)),
    applyPreset_switch s p⟩

/-- R180: any other operand is refused. -/
theorem setModeEffect_of_unnamed {s : State} (unknown : ¬ s.passage.operand.toNat < 3) :
    setModeEffect s = setResult .badOperand s := by
  rw [setModeEffect, presetOfOperand_of_not_lt unknown]

theorem setModeEffect_printWaits (s : State) : (setModeEffect s).switch.printWaits = s.switch.printWaits := by
  by_cases known : s.passage.operand.toNat < 3
  · rw [(setModeEffect_of_named known).2]
    rfl
  · rw [setModeEffect_of_unnamed known]
    rfl

/-- Settles O17: the trigger is taken or refused as `judgeTrigger` says, and the operand names a preset or none. -/
theorem answerbackAndModeCommands : Obligations.AnswerbackAndModeCommands := by
  refine ⟨fun s free idle => ?_, fun s free idle => ?_⟩
  · let w := commandTaken 0x05#8 s
    let u := sendAnswerbackEffect w
    have frame : changesOnly [.command, .answerback, .arbiter] w u := sendAnswerbackEffect_frame w
    have toU : changesOnly [.command, .pins, .answerback, .arbiter] s u :=
      frame.after (by decide) (commandTaken_frame.mono (by decide))
    refine ⟨settle u, exec_sendAnswerback free idle, hostWrote_of_taken (frame .pins (by decide)), ?_,
      settlesOnly_of_settle toU (by decide)⟩
    rw [settle_command, settle_answerback, settle_arbiter]
    exact sendAnswerbackEffect_blocks w
  · let w := commandTaken 0x06#8 s
    let u := setModeEffect w
    have frame : changesOnly [.command, .switch] w u := setModeEffect_frame w
    have toU : changesOnly [.command, .pins, .switch] s u :=
      frame.after (by decide) (commandTaken_frame.mono (by decide))
    have waits : u.switch.printWaits = s.switch.printWaits := setModeEffect_printWaits w
    refine ⟨settle u, exec_setMode free idle, hostWrote_of_taken (frame .pins (by decide)), ?_,
      (settle_changesOnly u).after (by decide) (toU.mono (by decide)),
      onlySettles_of_settle ?_ (toU .flow (by decide)) (toU .transmitter (by decide))⟩
    · rw [settle_command, settle_switch]
      dsimp only
      split
      · next known =>
        obtain ⟨command, switch⟩ := setModeEffect_of_named (s := w) known
        refine ⟨command, ?_⟩
        rw [show u.switch = _ from switch]
        rfl
      · next unknown =>
        rw [show u = _ from setModeEffect_of_unnamed (s := w) unknown]
        exact ⟨rfl, rfl⟩
    · show u.switch = { (settle u).switch with printWaits := s.switch.printWaits }
      rw [settle_switch, ← waits]

end Sys2Proof.Machine

namespace Sys2Proof.Machine

/-! ## The print commands (R119, R133, R134, R181) -/

section
variable {s : State} (free : portFree s) (idle : commandFree s)
include free idle

theorem exec_flushPrint : exec .flushPrint s = .next (settle (flushPrintEffect (commandTaken 0x07#8 s))) :=
  congrArg Host.Outcome.next (writeCommand_settles free idle)

theorem exec_feedLine : exec .feedLine s = .next (settle (feedLineEffect (commandTaken 0x08#8 s))) :=
  congrArg Host.Outcome.next (writeCommand_settles free idle)

theorem exec_setTab : exec .setTab s = .next (settle (setTabEffect (commandTaken 0x09#8 s))) :=
  congrArg Host.Outcome.next (writeCommand_settles free idle)

theorem exec_clearTab : exec .clearTab s = .next (settle (clearTabEffect (commandTaken 0x0A#8 s))) :=
  congrArg Host.Outcome.next (writeCommand_settles free idle)

theorem exec_clearAllTabs : exec .clearAllTabs s = .next (settle (clearAllTabsEffect (commandTaken 0x0B#8 s))) :=
  congrArg Host.Outcome.next (writeCommand_settles free idle)

end

/-- Settles O18: FLUSH-PRINT flushes as `flushIf_blocks` says, and FEED-LINE appends where the queue has room. -/
theorem printCommands : Obligations.PrintCommands := by
  refine ⟨fun s free idle => ?_, fun s free idle => ?_⟩
  · let w := commandTaken 0x07#8 s
    let flushed := flushPrintQueue w
    let u := flushPrintEffect w
    obtain ⟨carriage, switch, attention, flushes⟩ := flushIf_blocks w true (t := flushed) rfl
    have ends : changesOnly [.command] flushed u := setResult_frame _ _
    have toW : changesOnly [.command, .pins] s w := commandTaken_frame
    have toU : changesOnly [.command, .pins, .carriage, .switch, .attention] s u :=
      ends.after (by decide) (flushes.after (by decide) (toW.mono (by decide)))
    have command : u.command = { w.command with result := .done } :=
      congrArg (fun c : CommandUnit => { c with result := .done }) (flushes .command (by decide))
    have due : (true && decide (w.carriage.state = .ready) && w.carriage.consumedSinceIdle) =
        decide (s.carriage.state = .ready ∧ s.carriage.consumedSinceIdle = true) := by
      rw [Bool.true_and, Bool.decide_and, Bool.decide_eq_true]
      rfl
    refine ⟨settle u, exec_flushPrint free idle,
      hostWrote_of_taken ((ends .pins (by decide)).trans (flushes .pins (by decide))), ?_, ⟨?_, ?_⟩,
      (settle_changesOnly u).after (by decide) (toU.mono (by decide)),
      onlySettles_of_settle ((ends .switch (by decide)).trans switch) (toU .flow (by decide))
        (toU .transmitter (by decide))⟩
    · rw [settle_command, command]
      rfl
    · rw [settle_carriage, show u.carriage = flushed.carriage from rfl, carriage, due,
        show w.carriage = s.carriage from rfl]
      by_cases done : s.carriage.state = .ready ∧ s.carriage.consumedSinceIdle = true <;> simp [done]
    · rw [settle_attention, show u.attention = flushed.attention from rfl, attention, due]
      rfl
  · let w := commandTaken 0x08#8 s
    let u := feedLineEffect w
    have toW : changesOnly [.command, .pins] s w := commandTaken_frame
    by_cases room : s.carriage.queue.length < 48
    · have appends : u = setResult .done (appendPrint .feed w) := if_pos (decide_eq_true room)
      have appended : appendPrint .feed w = (w.onCarriage fun c => { c with queue := c.queue ++ [.feed] }).onSwitch
          fun c => { c with freedPlace := false } := if_pos (decide_eq_true room)
      have toU : changesOnly [.command, .pins, .carriage, .switch] s u := by
        rw [appends]
        exact (setResult_frame _ _).after (by decide)
          ((appendPrint_frame _ _).after (by decide) (toW.mono (by decide)))
      rw [appended] at appends
      refine ⟨settle u, exec_feedLine free idle, hostWrote_of_taken (by rw [appends]; rfl), ?_,
        (settle_changesOnly u).after (by decide) (toU.mono (by decide)),
        onlySettles_of_settle ?_ (toU .flow (by decide)) (toU .transmitter (by decide))⟩
      · rw [if_pos room, settle_command, settle_carriage, appends]
        exact ⟨rfl, rfl⟩
      · rw [if_pos room, appends]
        rfl
    · have refuses : u = setResult .refusedBusy w := if_neg (mt of_decide_eq_true room)
      have toU : changesOnly [.command, .pins] s u := by
        rw [refuses]
        exact (setResult_frame _ _).after (by decide) toW
      refine ⟨settle u, exec_feedLine free idle, hostWrote_of_taken (by rw [refuses]; rfl), ?_,
        (settle_changesOnly u).after (by decide) (toU.mono (by decide)),
        onlySettles_of_settle ?_ (toU .flow (by decide)) (toU .transmitter (by decide))⟩
      · rw [if_neg room, settle_command, settle_carriage, refuses]
        exact ⟨rfl, rfl⟩
      · rw [if_neg room]
        exact toU .switch (by decide)

/-! ## The tab stops (R126, R127) -/

theorem mem_insertStop (cell c : Nat) (stops : List Nat) : c ∈ insertStop cell stops ↔ c = cell ∨ c ∈ stops := by
  induction stops with
  | nil => simp [insertStop]
  | cons stop rest ih =>
    unfold insertStop
    split
    · simp
    · split
      · next same => simp [same]
      · rw [List.mem_cons, ih, List.mem_cons]
        exact or_left_comm

theorem insertStop_pairwise (cell : Nat) {stops : List Nat} (ordered : stops.Pairwise (· < ·)) :
    (insertStop cell stops).Pairwise (· < ·) := by
  induction stops with
  | nil => simp [insertStop]
  | cons stop rest ih =>
    obtain ⟨above, rest_ordered⟩ := List.pairwise_cons.1 ordered
    unfold insertStop
    split
    · next before =>
      refine List.pairwise_cons.2 ⟨fun c mem => ?_, ordered⟩
      rcases List.mem_cons.1 mem with rfl | later
      · exact before
      · exact before.trans (above c later)
    · next notBefore =>
      split
      · exact ordered
      · next other =>
        refine List.pairwise_cons.2 ⟨fun c mem => ?_, ih rest_ordered⟩
        rcases (mem_insertStop cell c rest).1 mem with rfl | later
        · omega
        · exact above c later

/-- R127: a cell of the set is not added a second time. -/
theorem insertStop_of_mem {cell : Nat} {stops : List Nat} (ordered : stops.Pairwise (· < ·)) (mem : cell ∈ stops) :
    insertStop cell stops = stops := by
  induction stops with
  | nil => cases mem
  | cons stop rest ih =>
    obtain ⟨above, rest_ordered⟩ := List.pairwise_cons.1 ordered
    unfold insertStop
    rcases List.mem_cons.1 mem with rfl | later
    · simp
    · have beyond : stop < cell := above cell later
      rw [if_neg (by omega), if_neg (by omega), ih rest_ordered later]

theorem insertStop_length (cell : Nat) (stops : List Nat) : (insertStop cell stops).length ≤ stops.length + 1 := by
  induction stops with
  | nil => simp [insertStop]
  | cons stop rest ih =>
    unfold insertStop
    split
    · simp
    · split
      · simp
      · simpa using ih

theorem isTabCell_iff (cell : Nat) : isTabCell cell = true ↔ 1 ≤ cell ∧ cell ≤ 79 := by simp [isTabCell]

theorem stopFits_iff (cell : Nat) (s : State) :
    stopFits cell s = true ↔ cell ∈ s.carriage.tabStops ∨ s.carriage.tabStops.length < 16 := by
  rw [stopFits, Bool.or_eq_true, List.contains_iff_mem, decide_eq_true_iff]
  rfl

/-- Settles O19: each command edits the set with `insertStop`, by a filter, or to the empty set, or is refused. -/
theorem tabCommands : Obligations.TabCommands := by
  refine ⟨fun s free idle ordered => ?_, fun s free idle => ?_, fun s free idle => ?_⟩
  · let w := commandTaken 0x09#8 s
    let cell := s.passage.operand.toNat
    let u := setTabEffect w
    have toW : changesOnly [.command, .pins] s w := commandTaken_frame
    have legal : isTabCell cell = true ↔ 1 ≤ cell ∧ cell ≤ 79 := isTabCell_iff cell
    have room : stopFits cell w = true ↔ cell ∈ s.carriage.tabStops ∨ s.carriage.tabStops.length < 16 :=
      stopFits_iff cell w
    have branches : u = if isTabCell cell then
        if stopFits cell w then setResult .done (addStop cell w) else setResult .refusedState w
      else setResult .badOperand w := rfl
    have toU : changesOnly [.command, .carriage] w u := by
      rw [branches]
      split
      · split
        · exact (setResult_frame _ _).after (by decide) ((addStop_frame _ _).mono (by decide))
        · exact (setResult_frame _ _).mono (by decide)
      · exact (setResult_frame _ _).mono (by decide)
    refine ⟨settle u, exec_setTab free idle, hostWrote_of_taken (toU .pins (by decide)), ?_,
      settlesOnly_of_settle (toU.after (by decide) (toW.mono (by decide))) (by decide)⟩
    rw [settle_command, settle_carriage, branches]
    by_cases h : 1 ≤ cell ∧ cell ≤ 79
    · rw [if_pos h, if_pos (legal.2 h)]
      by_cases fits : cell ∈ s.carriage.tabStops ∨ s.carriage.tabStops.length < 16
      · rw [if_pos fits, if_pos (room.2 fits)]
        exact ⟨rfl, rfl, insertStop_pairwise cell ordered.1, fun c => mem_insertStop cell c _⟩
      · rw [if_neg fits, if_neg (mt room.1 fits)]
        exact ⟨rfl, rfl⟩
    · rw [if_neg h, if_neg (mt legal.1 h)]
      exact ⟨rfl, rfl⟩
  · let w := commandTaken 0x0A#8 s
    let cell := s.passage.operand.toNat
    let u := clearTabEffect w
    have toW : changesOnly [.command, .pins] s w := commandTaken_frame
    have legal : isTabCell cell = true ↔ 1 ≤ cell ∧ cell ≤ 79 := isTabCell_iff cell
    have branches : u = if isTabCell cell then setResult .done (removeStop cell w) else setResult .badOperand w := rfl
    have toU : changesOnly [.command, .carriage] w u := by
      rw [branches]
      split
      · exact (setResult_frame _ _).after (by decide) ((removeStop_frame _ _).mono (by decide))
      · exact (setResult_frame _ _).mono (by decide)
    refine ⟨settle u, exec_clearTab free idle, hostWrote_of_taken (toU .pins (by decide)), ?_,
      settlesOnly_of_settle (toU.after (by decide) (toW.mono (by decide))) (by decide)⟩
    rw [settle_command, settle_carriage, branches]
    by_cases h : 1 ≤ cell ∧ cell ≤ 79
    · rw [if_pos h, if_pos (legal.2 h)]
      exact ⟨rfl, rfl⟩
    · rw [if_neg h, if_neg (mt legal.1 h)]
      exact ⟨rfl, rfl⟩
  · let w := commandTaken 0x0B#8 s
    let u := clearAllTabsEffect w
    have toW : changesOnly [.command, .pins] s w := commandTaken_frame
    have toU : changesOnly [.command, .carriage] w u :=
      (setResult_frame _ _).after (by decide) ((onCarriage_frame _ _).mono (by decide))
    refine ⟨settle u, exec_clearAllTabs free idle, hostWrote_of_taken (toU .pins (by decide)), ?_, ?_,
      settlesOnly_of_settle (toU.after (by decide) (toW.mono (by decide))) (by decide)⟩
    · rw [settle_command]
      rfl
    · rw [settle_carriage]
      rfl

end Sys2Proof.Machine

namespace Sys2Proof.Machine

/-! ## The boundary between operations (R121, R130, R134)

`Boundary w u` says all that the end of an operation makes of the state `w` it leaves; the ends of motions, returns, feeds
and cells, the home seek and the last cause's end are each one use of it. -/

/-- R121, R130, R134: `u` is what the boundary between operations makes of `w`. -/
structure Boundary (w u : State) : Prop where
  carriage : u.carriage = { w.carriage with
    state := u.carriage.state, pending := u.carriage.pending, motionTimer := u.carriage.motionTimer
    consumedSinceIdle := u.carriage.consumedSinceIdle }
  follows : operationFollows w.carriage.pending w.dot w u
  attention : u.attention = { w.attention with
    flags := w.attention.flags ||| flagIf (boundaryIdle w.carriage.pending w u) .printIdle }
  frame : changesOnly [.carriage, .dot, .arbiter, .attention] w u

/-- The two states agree on what a boundary reads and does not judge: the queue, what is pending, the arbiter, the readings. -/
structure SameWork (s w : State) : Prop where
  queue : w.carriage.queue = s.carriage.queue
  mark : w.carriage.consumedSinceIdle = s.carriage.consumedSinceIdle
  pending : w.carriage.pending = s.carriage.pending
  arbiter : w.arbiter = s.arbiter
  sensor : w.sensor = s.sensor

theorem SameWork.onCarriage {s : State} {f : Carriage → Carriage} (queue : (f s.carriage).queue = s.carriage.queue)
    (mark : (f s.carriage).consumedSinceIdle = s.carriage.consumedSinceIdle)
    (pending : (f s.carriage).pending = s.carriage.pending) : SameWork s (s.onCarriage f) :=
  ⟨queue, mark, pending, rfl, rfl⟩

theorem Boundary.anyCause {w u : State} (b : Boundary w u) : u.carriage.anyCause = w.carriage.anyCause := by
  rw [b.carriage]
  rfl

/-- The boundary as a statement about the state `s` in which the event came gives it. -/
theorem Boundary.settled {s w u : State} (b : Boundary w u) (same : SameWork s w) :
    operationFollows s.carriage.pending w.dot s (settle u) ∧
    (settle u).attention = { w.attention with
      flags := w.attention.flags ||| flagIf (boundaryIdle s.carriage.pending s (settle u)) .printIdle } := by
  obtain ⟨queue, mark, pending, arbiter, sensor⟩ := same
  have follows := b.follows
  have attention := b.attention
  unfold operationFollows boundaryIdle at *
  rw [queue, mark, pending] at attention
  rw [queue, mark, pending, arbiter, sensor] at follows
  rw [settle_carriage, settle_dot, settle_arbiter, settle_attention]
  exact ⟨follows, attention⟩

/-! ### What `operationFollows` asks, case by case -/

section
variable {pending rest : List Operation} {d : DotFiring} {s t : State}

theorem operationFollows_of_cause (caused : t.carriage.anyCause = true) :
    operationFollows pending d s t ↔ t.carriage.state = .halted ∧ t.carriage.pending = pending ∧
      t.carriage.consumedSinceIdle = s.carriage.consumedSinceIdle ∧ t.dot = d ∧ t.arbiter = s.arbiter :=
  Iff.of_eq (if_pos caused)

variable (clear : t.carriage.anyCause = false)
include clear

theorem operationFollows_ready :
    operationFollows [] d s t ↔ t.carriage.state = .ready ∧ t.carriage.pending = [] ∧
      t.carriage.consumedSinceIdle = (s.carriage.consumedSinceIdle && s.carriage.queue ≠ []) ∧ t.dot = d ∧
      t.arbiter = s.arbiter :=
  Iff.of_eq (if_neg (by simp [clear]))

theorem operationFollows_feed :
    operationFollows (.feed :: rest) d s t ↔ t.carriage.state = .feeding ∧ t.carriage.pending = rest ∧
      t.carriage.motionTimer = some 24 ∧ t.carriage.consumedSinceIdle = s.carriage.consumedSinceIdle ∧ t.dot = d ∧
      t.arbiter = s.arbiter :=
  Iff.of_eq (if_neg (by simp [clear]))

theorem operationFollows_print {glyph : BitVec 7} :
    operationFollows (.print glyph :: rest) d s t ↔ t.carriage.state = .printing ∧ t.carriage.pending = rest ∧
      t.carriage.consumedSinceIdle = s.carriage.consumedSinceIdle ∧
      t.dot = handedDot glyph (t.carriage.position = some 80) d s.sensor ∧ t.arbiter.font ≠ .absent ∧
      t.arbiter = { s.arbiter with font := t.arbiter.font } :=
  Iff.of_eq (if_neg (by simp [clear]))

end

/-- No request is raised. -/
theorem attention_of_not_due {a : Attention} {b : Bool} {source : AttentionSource} (h : b = false) :
    a = { a with flags := a.flags ||| flagIf b source } := by
  rw [h, flagIf_false]
  exact congrArg (fun f => { a with flags := f }) BitVec.or_zero.symm

section
variable {w : State}

/-- R134: with no operation left the carriage enters READY, and PRINT-IDLE is requested where it is due. -/
theorem enterReady_boundary (clear : w.carriage.anyCause = false) (last : w.carriage.pending = []) :
    Boundary w (enterReady w) := by
  let x := w.onCarriage fun c => { c with state := .ready, motionTimer := none }
  have frame := (enterReady_frame w).mono (m := [.carriage, .dot, .arbiter, .attention]) (by decide)
  have uncaused : x.carriage.anyCause = false := clear
  rw [show enterReady w = judgePrintIdle x from rfl] at frame ⊢
  rcases judgePrintIdle_cases x with ⟨⟨_, empty, consumed⟩, h⟩ | ⟨busy, h⟩
  · have empty' : w.carriage.queue = [] := empty
    have consumed' : w.carriage.consumedSinceIdle = true := consumed
    rw [h] at frame ⊢
    have still : (raise .printIdle (x.onCarriage fun c => { c with consumedSinceIdle := false })).carriage.anyCause =
      false := clear
    refine ⟨rfl, ?_, ?_, frame⟩
    · rw [last, operationFollows_ready still]
      exact ⟨rfl, last, by simp [raise, empty'], rfl, rfl⟩
    · rw [boundaryIdle, still, last, empty', consumed']
      rfl
  · have notDue : (decide (w.carriage.queue = []) && w.carriage.consumedSinceIdle) = false := by
      rw [Bool.eq_false_iff, Ne, Bool.and_eq_true, decide_eq_true_iff]
      exact fun ⟨empty, consumed⟩ => busy ⟨rfl, empty, consumed⟩
    rw [h] at frame ⊢
    refine ⟨rfl, ?_, attention_of_not_due (by rw [boundaryIdle, Bool.and_assoc, notDue, Bool.and_false]), frame⟩
    rw [last, operationFollows_ready uncaused]
    refine ⟨rfl, last, ?_, rfl, rfl⟩
    show w.carriage.consumedSinceIdle = _
    cases consumed : w.carriage.consumedSinceIdle with
    | false => rfl
    | true => simpa [consumed] using notDue

/-- R121: the next pending operation begins, a feed or a cell. -/
theorem beginOperation_boundary (clear : w.carriage.anyCause = false) {op : Operation} {rest : List Operation}
    (pending : w.carriage.pending = op :: rest) (follows : op.mayFollow = true) :
    Boundary w (beginOperation op (w.onCarriage fun c => { c with pending := rest, motionTimer := none })) := by
  let x := w.onCarriage fun c => { c with pending := rest, motionTimer := none }
  have frame := (beginOperation_frame op x).after (by decide)
    ((onCarriage_frame w _).mono (m := [.carriage, .dot, .arbiter, .attention]) (by decide))
  have notIdle : ∀ u, boundaryIdle w.carriage.pending w u = false := fun u => by simp [boundaryIdle, pending]
  cases op with
  | feed =>
    refine ⟨rfl, ?_, attention_of_not_due (notIdle _), frame⟩
    rw [pending, operationFollows_feed (by exact clear)]
    exact ⟨rfl, rfl, rfl, rfl, rfl, rfl⟩
  | print glyph =>
    let printing := x.onCarriage fun c => { c with state := .printing }
    let back := decide (x.carriage.position.getD 0 = 80)
    obtain ⟨handed, asked, kept⟩ := handOver_blocks printing glyph back
    have carriage : (handOver glyph back printing).carriage = printing.carriage := handOver_frame _ _ _ .carriage (by decide)
    have attention : (handOver glyph back printing).attention = w.attention := handOver_frame _ _ _ .attention (by decide)
    have margin : back = decide (w.carriage.position = some 80) := by
      refine decide_eq_decide.2 ?_
      show w.carriage.position.getD 0 = 80 ↔ _
      cases w.carriage.position <;> simp
    rw [show beginOperation (.print glyph) x = handOver glyph back printing from rfl] at frame ⊢
    refine ⟨by rw [carriage]; rfl, ?_, attention.trans (attention_of_not_due (notIdle _)), frame⟩
    rw [pending, operationFollows_print (by rw [carriage]; exact clear), carriage]
    refine ⟨rfl, rfl, rfl, ?_, asked, kept⟩
    rw [handed, margin]
    rfl
  | space | backspace | tab | carriageReturn => cases follows

variable (later : ∀ op ∈ w.carriage.pending, op.mayFollow = true)
include later

theorem continueEntry_boundary (clear : w.carriage.anyCause = false) : Boundary w (continueEntry w) := by
  unfold continueEntry
  split
  · next last => exact enterReady_boundary clear last
  · next op rest pending =>
    exact beginOperation_boundary clear pending (later op (by rw [pending]; exact List.mem_cons_self))

/-- R130: with a cause set the carriage halts and the pending operations wait. -/
theorem endOperation_boundary : Boundary w (endOperation w) := by
  unfold endOperation
  split
  · next caused =>
    let u := w.onCarriage fun c => { c with state := .halted, motionTimer := none }
    have still : u.carriage.anyCause = true := caused
    refine ⟨rfl, (operationFollows_of_cause still).2 ⟨rfl, rfl, rfl, rfl, rfl⟩, attention_of_not_due ?_,
      (onCarriage_frame w _).mono (by decide)⟩
    rw [boundaryIdle, still]
    rfl
  · next clear => exact continueEntry_boundary later (Bool.eq_false_iff.2 clear)

end

end Sys2Proof.Machine

namespace Sys2Proof.Machine

/-! ## The ends of operations and the halts (R120 to R131, R141) -/

section
variable (s : State)

/-- R128: the causes take the new values, and a change from clear to set requests PRINT-FAULT. -/
theorem setCauses_eq (paper hot battery jam : Bool) :
    setCauses paper hot battery jam s =
      (s.onCarriage fun c => { c with paper := paper, hot := hot, battery := battery, jam := jam }).onAttention fun a =>
        { a with flags := a.flags ||| flagIf ((paper && !s.carriage.paper) || (hot && !s.carriage.hot) ||
          (battery && !s.carriage.battery) || (jam && !s.carriage.jam)) .printFault } := by
  unfold setCauses
  dsimp only
  split
  · next changed => rw [changed]; rfl
  · next same =>
    rw [Bool.eq_false_iff.2 same, flagIf_false]
    simp [State.onAttention, State.onCarriage]

/-- R176: a running command ends with its result and COMMAND-END. -/
theorem endCommand_blocks (c : RunningCommand) (r : CommandResult) :
    (endCommand c r s).command =
      (if s.command.running = some c then { s.command with result := r, running := none } else s.command) ∧
    (endCommand c r s).attention =
      { s.attention with flags := s.attention.flags ||| flagIf (s.command.running = some c) .commandEnd } := by
  rcases endCommand_cases c r s with ⟨runs, h⟩ | ⟨other, h⟩ <;> rw [h]
  · rw [if_pos runs, decide_eq_true runs]
    exact ⟨rfl, rfl⟩
  · rw [if_neg other]
    exact ⟨rfl, attention_of_not_due (decide_eq_false other)⟩

/-- R130: a cause halts a READY carriage and leaves every other state. -/
theorem judgeHalt_of_cause (caused : s.carriage.anyCause = true) :
    judgeHalt s = s.onCarriage fun c => { c with state := if c.state = .ready then .halted else c.state } := by
  have same : s = s.onCarriage fun c => { c with state := c.state } := rfl
  unfold judgeHalt
  cases state : s.carriage.state <;> simp [caused, State.onCarriage, state] <;> rw [← state]

/-- R130: without a cause only a HALTED carriage goes on. -/
theorem judgeHalt_of_clear (clear : s.carriage.anyCause = false) :
    judgeHalt s = if s.carriage.state = .halted then continueEntry s else s := by
  unfold judgeHalt
  cases state : s.carriage.state <;> simp [clear]

end

/-- Settles O41: each end leaves the position and the causes, and the boundary follows. -/
theorem operationEnds : Obligations.OperationEnds := by
  refine ⟨fun s moving sound => ?_, fun s home returning sound => ?_, fun s feeding sound => ?_⟩ <;>
    obtain ⟨_, _, _, _, later, _⟩ := sound
  · let w := s.onCarriage fun c => { c with position := some c.target }
    have b : Boundary w (endOperation w) := endOperation_boundary later
    obtain ⟨follows, attention⟩ := b.settled (s := s) (.onCarriage rfl rfl rfl)
    refine ⟨settle (endOperation w), congrArg Host.Outcome.next (if_pos moving), ?_, follows, attention,
      settlesOnly_of_settle (b.frame.after (by decide) ((onCarriage_frame s _).mono (by decide))) (by decide)⟩
    rw [settle_carriage]
    exact b.carriage
  · let x := s.onCarriage fun c => { c with position := some 0 }
    let w := if home then x else setCauses s.carriage.paper s.carriage.hot s.carriage.battery true x
    have left : w.carriage = { s.carriage with position := some 0, jam := s.carriage.jam || !home } ∧
        w.attention = { s.attention with
          flags := s.attention.flags ||| flagIf (!home && !s.carriage.jam) .printFault } ∧
        changesOnly [.carriage, .attention] s w := by
      have toX : changesOnly [.carriage, .attention] s x := (onCarriage_frame s _).mono (by decide)
      cases home with
      | true => exact ⟨by simp [w, x], attention_of_not_due rfl, toX⟩
      | false =>
        refine ⟨?_, ?_, (setCauses_frame _ _ _ _ x).after (by decide) toX⟩ <;> simp [w, x, setCauses_eq]
    obtain ⟨carriage, fault, toW⟩ := left
    have b : Boundary w (endOperation w) := endOperation_boundary (by rw [carriage]; exact later)
    obtain ⟨follows, attention⟩ := b.settled (s := s)
      ⟨by rw [carriage], by rw [carriage], by rw [carriage], toW .arbiter (by decide), toW .sensor (by decide)⟩
    rw [show w.dot = s.dot from toW .dot (by decide)] at follows
    refine ⟨settle (endOperation w), congrArg Host.Outcome.next (if_pos returning), ?_, follows, ?_,
      settlesOnly_of_settle (b.frame.after (by decide) (toW.mono (by decide))) (by decide)⟩
    · rw [settle_carriage, b.carriage, carriage]
    · have swap : ∀ x y z : BitVec 10, x ||| y ||| z = x ||| z ||| y := fun x y z => by ac_rfl
      rw [attention, fault]
      exact congrArg (fun f => { s.attention with flags := f }) (swap _ _ _)
  · have b : Boundary s (endOperation s) := endOperation_boundary later
    obtain ⟨follows, attention⟩ := b.settled (s := s) ⟨rfl, rfl, rfl, rfl, rfl⟩
    refine ⟨settle (endOperation s), congrArg Host.Outcome.next (if_pos feeding), ?_, follows, attention,
      settlesOnly_of_settle b.frame (by decide)⟩
    rw [settle_carriage]
    exact b.carriage

/-- Settles O42: out halts a READY carriage; once the paper timer has cleared the last cause a HALTED one goes on. -/
theorem paperSensor : Obligations.PaperSensor := by
  refine ⟨fun s present released => ?_, fun s out => ?_, fun s runs sound => ?_⟩
  · let x := (s.onPins fun p => { p with paper := false }).onCarriage fun c => { c with paperTimer := none }
    let w := setCauses true s.carriage.hot s.carriage.battery s.carriage.jam x
    have lost : losePaper (s.onPins fun p => { p with paper := false }) = judgeHalt w := rfl
    have caused : w.carriage.anyCause = true := by
      simp [w, x, setCauses_eq, Carriage.anyCause]
    have taken : exec .paperOut s = .next (settle (judgeHalt w)) :=
      congrArg Host.Outcome.next ((if_pos present).trans (if_pos (decide_eq_true released)))
    have frame : changesOnly [.pins, .carriage, .attention] s (judgeHalt w) := by
      rw [judgeHalt_of_cause w caused]
      exact (onCarriage_frame _ _).after (by decide) ((setCauses_frame _ _ _ _ x).after (by decide)
        ((onCarriage_frame _ _).after (by decide) ((onPins_frame s _).mono (by decide))))
    refine ⟨settle (judgeHalt w), taken, ?_, ?_, ?_, settlesOnly_of_settle frame (by decide)⟩
    · rw [settle_pins, judgeHalt_of_cause w caused]
      simp [w, x, setCauses_eq]
    · rw [settle_carriage, judgeHalt_of_cause w caused, State.onCarriage_carriage,
        show w = _ from setCauses_eq x _ _ _ _]
      rfl
    · rw [settle_attention, judgeHalt_of_cause w caused]
      simp [w, x, setCauses_eq]
  · exact ⟨_, congrArg Host.Outcome.next (if_neg (by simp [out])), rfl, rfl,
      (onCarriage_frame _ _).after (by decide) ((onPins_frame s _).mono (by decide))⟩
  · obtain ⟨_, _, _, _, later, ready, _⟩ := sound
    let w := s.onCarriage fun c => { c with paper := false, paperTimer := none }
    have taken : exec .paperTimerExpiry s = .next (settle (judgeHalt w)) := congrArg Host.Outcome.next (if_pos runs)
    have toW : changesOnly [.carriage] s w := onCarriage_frame s _
    have others : w.carriage.anyCause = (s.carriage.hot || s.carriage.battery || s.carriage.jam) := by
      simp [w, Carriage.anyCause]
    refine ⟨settle (judgeHalt w), taken, ?_, settlesOnly_of_settle
      ((judgeHalt_frame w).after (by decide) (toW.mono (by decide))) (by decide)⟩
    dsimp only
    rw [← others]
    split
    · next goesOn =>
      obtain ⟨halted, clear⟩ := goesOn
      have b : Boundary w (continueEntry w) := continueEntry_boundary later clear
      obtain ⟨follows, attention⟩ := b.settled (s := s) (.onCarriage rfl rfl rfl)
      rw [judgeHalt_of_clear w clear, if_pos (show w.carriage.state = .halted from halted)]
      refine ⟨?_, follows, attention⟩
      rw [settle_carriage]
      exact b.carriage
    · next stays =>
      have unmoved : judgeHalt w = w := by
        cases caused : w.carriage.anyCause with
        | true =>
          have busy : s.carriage.state ≠ .ready := fun h => by
            have none_set : s.carriage.anyCause = false := (ready h).2
            rw [others] at caused
            simp [Carriage.anyCause] at none_set caused
            simp_all
          rw [judgeHalt_of_cause w caused]
          simp [w, busy, State.onCarriage]
        | false =>
          rw [judgeHalt_of_clear w caused]
          exact if_neg fun halted => stays ⟨halted, caused⟩
      rw [unmoved, settle_carriage, settle_attention, settle_dot, settle_arbiter]
      exact ⟨rfl, rfl, rfl, rfl⟩

/-- R131: a seek that has ended leaves nothing pending, so its boundary moves neither the unit nor the arbiter. -/
theorem endOperation_frame_of_last {w : State} (last : w.carriage.pending = []) :
    changesOnly [.carriage, .attention] w (endOperation w) := by
  unfold endOperation continueEntry
  rw [last]
  split
  · exact (onCarriage_frame w _).mono (by decide)
  · exact enterReady_frame w

/-- Settles O43: the seek begins, finds home and passes the boundary, or fails; `endCommand` ends a running RESTART. -/
theorem homeSeek : Obligations.HomeSeek := by
  refine ⟨fun s seeking stopping stopped => ?_, fun s seeking runs last => ?_, fun s seeking runs => ?_⟩
  · have begun : (beginSeek s).carriage = { s.carriage with
        state := .homeSeek, position := none, stopping := none, seekTimer := some 240 } := rfl
    exact ⟨beginSeek s, congrArg Host.Outcome.next (if_pos ⟨seeking, stopping, stopped⟩), by rw [begun, ← seeking],
      onCarriage_frame s _⟩
  · let w := s.onCarriage fun c => { c with position := some 0, seekTimer := none, stopping := none }
    let u := endOperation w
    let t := endCommand .restart .done u
    have empty : w.carriage.pending = [] := last
    have b : Boundary w u := endOperation_boundary (by rw [empty]; nofun)
    have toU : changesOnly [.carriage, .attention] s u :=
      (endOperation_frame_of_last empty).after (by decide) ((onCarriage_frame s _).mono (by decide))
    have toT : changesOnly [.command, .attention] u t := endCommand_frame _ _ _
    have carriage : t.carriage = u.carriage := toT .carriage (by decide)
    obtain ⟨follows, attention⟩ := b.settled (s := s) (.onCarriage rfl rfl rfl)
    obtain ⟨ended, raised⟩ := endCommand_blocks u .restart .done
    rw [show u.command = s.command from toU .command (by decide)] at ended raised
    have idle : boundaryIdle [] s (settle t) = boundaryIdle [] s (settle u) := by
      simp only [boundaryIdle, settle_carriage, carriage]
    have kept : u.carriage.pending = s.carriage.pending := by
      have boundary := b.follows
      cases causes : u.carriage.anyCause with
      | true => exact ((operationFollows_of_cause causes).1 boundary).2.1
      | false =>
        rw [empty] at boundary
        exact ((operationFollows_ready causes).1 boundary).2.1.trans last.symm
    refine ⟨settle t, congrArg Host.Outcome.next (if_pos ⟨seeking, runs⟩), ?_, ?_, ?_, ?_,
      settlesOnly_of_settle (toT.after (by decide) (toU.mono (by decide))) (by decide)⟩
    · rw [settle_carriage, carriage]
      exact b.carriage.trans (by rw [kept]; rfl)
    · rw [last] at follows
      unfold operationFollows at follows ⊢
      rw [settle_carriage, settle_dot, settle_arbiter] at follows ⊢
      rw [carriage, show t.dot = u.dot from toT .dot (by decide), show t.arbiter = u.arbiter from toT .arbiter (by decide)]
      exact follows
    · exact (settle_command t).trans ended
    · rw [settle_attention] at attention
      rw [settle_attention, raised, attention, idle, last]
      rfl
  · let x := s.onCarriage fun c => { c with state := .halted, position := none, seekTimer := none, stopping := none }
    let u := setCauses s.carriage.paper s.carriage.hot s.carriage.battery true x
    let t := endCommand .restart .done u
    have failed := setCauses_eq x s.carriage.paper s.carriage.hot s.carriage.battery true
    have toU : changesOnly [.carriage, .attention] s u :=
      (setCauses_frame _ _ _ _ x).after (by decide) ((onCarriage_frame s _).mono (by decide))
    have toT : changesOnly [.command, .attention] u t := endCommand_frame _ _ _
    obtain ⟨ended, raised⟩ := endCommand_blocks u .restart .done
    rw [show u.command = s.command from toU .command (by decide)] at ended raised
    refine ⟨settle t, congrArg Host.Outcome.next (if_pos ⟨seeking, runs⟩), ?_, (settle_command t).trans ended, ?_,
      settlesOnly_of_settle (toT.after (by decide) (toU.mono (by decide))) (by decide)⟩
    · rw [settle_carriage, show t.carriage = u.carriage from toT .carriage (by decide), show u = _ from failed]
      rfl
    · rw [settle_attention, raised, show u = _ from failed]
      simp [x]

/-- R141: a column's step as `steppedDot` gives it. -/
theorem columnStep_dot (column : Nat) (s : State) : (columnStep column s).dot = steppedDot column s.dot s.sensor := rfl

/-- Settles O46: in DWELL the expiry steps the next column or ends the cell; in any other state it stops the timer. -/
theorem columnTimerExpiry : Obligations.ColumnTimerExpiry := by
  intro s runs _ sound
  obtain ⟨_, _, _, _, later, _⟩ := sound
  let x := s.onDot fun d => { d with columnTimer := none }
  have toX : changesOnly [.dot] s x := onDot_frame s _
  have expired : ∀ {u}, expireColumn s = u → exec .columnTimerExpiry s = .next (settle u) := fun h => by
    rw [← h]
    exact congrArg Host.Outcome.next (if_pos runs)
  by_cases dwells : s.dot.state = .dwell
  · by_cases more : s.dot.column < 6
    · have steps : expireColumn s = columnStep (s.dot.column + 1) x := (if_pos dwells).trans (if_pos more)
      refine ⟨_, expired steps, ?_⟩
      rw [if_neg (not_not.2 dwells), if_pos more, settle_dot]
      exact ⟨columnStep_dot _ x, settlesOnly_of_settle ((columnStep_frame _ x).after (by decide) toX) (by decide)⟩
    · let w := (dotToIdle x).onCarriage fun c => { c with position := c.position.map positionAfterCell }
      have ends : expireColumn s = endOperation w := (if_pos dwells).trans (if_neg more)
      have toW : changesOnly [.carriage, .dot] s w :=
        (onCarriage_frame _ _).after (by decide) ((dotToIdle_frame x).after (by decide) (toX.mono (by decide)))
      have b : Boundary w (endOperation w) := endOperation_boundary later
      obtain ⟨follows, attention⟩ := b.settled (s := s) ⟨rfl, rfl, rfl, rfl, rfl⟩
      refine ⟨_, expired ends, ?_⟩
      rw [if_neg (not_not.2 dwells), if_neg more]
      refine ⟨fun p at_p => ?_, ?_, follows, attention,
        settlesOnly_of_settle (b.frame.after (by decide) (toW.mono (by decide))) (by decide)⟩
      · rw [settle_carriage, b.carriage]
        exact congrArg (Option.map positionAfterCell) at_p
      · rw [settle_carriage]
        exact b.carriage.trans (by rw [b.carriage]; rfl)
  · refine ⟨_, expired (if_neg dwells), ?_⟩
    rw [if_pos dwells]
    exact ⟨settle_dot x, settlesOnly_of_settle toX (by decide)⟩

/-- R128: HOT is set at 65 °C and more, and stays set above 55. -/
theorem judgeHot_eq (before : Bool) (t : Int) :
    judgeHot before t = (decide (65 ≤ t) || (before && decide (55 < t))) := by
  unfold judgeHot
  by_cases set : 65 ≤ t
  · simp [set]
  · by_cases cleared : t ≤ 55
    · simp [set, cleared, Int.not_lt.2 cleared]
    · simp [set, cleared, Int.not_le.1 cleared]

/-- R128: BATTERY is set below 88 units, and stays set below 94. -/
theorem judgeBattery_eq (before : Bool) (u : Nat) :
    judgeBattery before u = (decide (u < 88) || (before && decide (u < 94))) := by
  unfold judgeBattery
  by_cases set : u < 88
  · simp [set]
  · by_cases cleared : 94 ≤ u
    · simp [set, cleared, Nat.not_lt.2 cleared]
    · simp [set, cleared, Nat.not_le.1 cleared]

/-- Settles O47: the readings are taken and the causes judged, and `judgeHalt` halts the carriage or lets it go on. -/
theorem sensorReading : Obligations.SensorReading := by
  intro s millivolts millidegrees runs sound
  obtain ⟨_, _, _, _, later, _⟩ := sound
  let u := min (millivolts / 50) 255
  let degrees := max (-40) (min (Int.fdiv millidegrees 1000) 100)
  let hot := decide (65 ≤ degrees) || (s.carriage.hot && decide (55 < degrees))
  let battery := decide (u < 88) || (s.carriage.battery && decide (u < 94))
  let fault := flagIf ((hot && !s.carriage.hot) || (battery && !s.carriage.battery)) .printFault
  let caused := s.carriage.paper || hot || battery || s.carriage.jam
  let w := takeReadings millivolts millidegrees s
  have taken : exec (.sensorReading millivolts millidegrees) s = .next (settle (judgeHalt w)) :=
    congrArg Host.Outcome.next (if_pos runs)
  have toW : changesOnly [.sensor, .carriage, .attention] s w := takeReadings_frame _ _ s
  have halts := judgeHalt_frame w
  have read : w = setCauses s.carriage.paper hot battery s.carriage.jam
      (s.onSensor fun m => { m with battery := u, temperature := degrees, sampleTimer := some 100 }) := by
    show setCauses _ (judgeHot _ _) (judgeBattery _ _) _ _ = _
    rw [judgeHot_eq, judgeBattery_eq]
    rfl
  rw [setCauses_eq] at read
  have carriage : w.carriage = { s.carriage with hot := hot, battery := battery } := by rw [read]; rfl
  have attention : w.attention = { s.attention with flags := s.attention.flags ||| fault } := by
    rw [read]
    simp [fault]
  have causes : w.carriage.anyCause = caused := by rw [carriage]; rfl
  have sensor : (settle (judgeHalt w)).sensor = ⟨u, degrees, some 100⟩ := by
    rw [settle_sensor, show (judgeHalt w).sensor = w.sensor from halts .sensor (by decide), read]
    rfl
  refine ⟨settle (judgeHalt w), taken, ⟨sensor, ?_⟩,
    settlesOnly_of_settle (halts.after (by decide) (toW.mono (by decide))) (by decide)⟩
  split
  · next goesOn =>
    obtain ⟨halted, clear⟩ := goesOn
    have uncaused : w.carriage.anyCause = false := causes.trans clear
    have goes : judgeHalt w = continueEntry w :=
      (judgeHalt_of_clear w uncaused).trans (if_pos (by rw [carriage]; exact halted))
    have b : Boundary w (continueEntry w) := continueEntry_boundary (by rw [carriage]; exact later) uncaused
    have same : SameWork { s with sensor := (settle (judgeHalt w)).sensor } w := by
      refine ⟨?_, ?_, ?_, toW .arbiter (by decide), ?_⟩
      · rw [carriage]
      · rw [carriage]
      · rw [carriage]
      · rw [settle_sensor]
        exact (halts .sensor (by decide)).symm
    obtain ⟨follows, raised⟩ := b.settled same
    rw [show w.dot = s.dot from toW .dot (by decide), ← goes] at follows
    rw [attention, ← goes] at raised
    refine ⟨?_, follows, raised⟩
    rw [settle_carriage, goes]
    exact b.carriage.trans (by rw [carriage])
  · next stays =>
    have left : judgeHalt w = w.onCarriage fun c =>
        { c with state := if s.carriage.state = .ready ∧ caused = true then .halted else s.carriage.state } := by
      have state : w.carriage.state = s.carriage.state := by rw [carriage]
      cases h : caused with
      | true =>
        rw [judgeHalt_of_cause w (causes.trans h)]
        simp [State.onCarriage, state]
      | false =>
        rw [judgeHalt_of_clear w (causes.trans h), if_neg fun halted => stays ⟨state.symm.trans halted, h⟩]
        simp [State.onCarriage, ← state]
    rw [left, settle_carriage, settle_dot, settle_arbiter, settle_attention]
    refine ⟨?_, toW .dot (by decide), toW .arbiter (by decide), attention⟩
    rw [State.onCarriage_carriage, carriage]

end Sys2Proof.Machine

namespace Sys2Proof.Machine

/-! ## The printer and the setup values

`printerPart` names the part of the state that the invariants of the printer and the ranges of the setup values speak of.
Most operations leave it as it is; the few that move it keep both, and `KeepsPrinter` is closed under composition. -/

/-- The values that `setupInRange` bounds. -/
structure SetupValues where
  notifyLevel : Nat
  roomLevel : Nat
  receiveSize : Nat
  sendSize : Nat
  ringPauseLevel : Nat
  timeoutCode : Nat
  lineRate : Nat
  format : Nat
  qualifyCode : Nat
  fadeCode : Nat
  listenCode : Nat
  breakLength : Nat
  repeatDelay : Nat
  repeatRate : Nat
  density : Nat
  budget : Nat
  answerbackLength : Nat
  battery : Nat
  temperature : Int

def setupValues (s : State) : SetupValues where
  notifyLevel := s.rings.notifyLevel
  roomLevel := s.rings.roomLevel
  receiveSize := s.rings.receiveSize
  sendSize := s.rings.sendSize
  ringPauseLevel := s.flow.ringPauseLevel
  timeoutCode := s.flow.timeoutCode
  lineRate := s.receiver.rateCode
  format := s.receiver.formatCode
  qualifyCode := s.receiver.qualifyCode
  fadeCode := s.receiver.fadeCode
  listenCode := s.receiver.listenCode
  breakLength := s.transmitter.breakLengthCode
  repeatDelay := s.keyboard.delayCode
  repeatRate := s.keyboard.rateCode
  density := s.dot.density
  budget := s.dot.budget
  answerbackLength := s.answerback.length
  battery := s.sensor.battery
  temperature := s.sensor.temperature

/-- The carriage without what its invariants do not speak of: the queue and its mark, the margin action, the length of a
motion. -/
def Carriage.course (c : Carriage) : Carriage :=
  { c with queue := [], consumedSinceIdle := false, motionTimer := none, wrap := false }

/-- The Dot Firing Unit without its setup values. -/
def DotFiring.work (d : DotFiring) : DotFiring := { d with density := 0, budget := 0, fontBase := 0 }

structure PrinterPart where
  startUp : StartUp
  startUpWait : Wait
  startUpRuns : Bool
  course : Carriage
  work : DotFiring
  paper : Bool
  setup : SetupValues

def printerPart (s : State) : PrinterPart where
  startUp := s.passage.startUp
  startUpWait := s.arbiter.startUp
  startUpRuns := decide (s.arbiter.grant = some .startUp)
  course := s.carriage.course
  work := s.dot.work
  paper := s.pins.paper
  setup := setupValues s

/-- The invariants of the printer, from the release of the host reset on. -/
def printerRuns (s : State) : Prop :=
  startedUp s ∧ tabsOrdered s ∧ carriageSound s ∧ firingSound s ∧ strobesSound s

theorem setupInRange_congr {s t : State} (h : setupValues t = setupValues s) : setupInRange t ↔ setupInRange s := by
  obtain ⟨notify, room, receive, send, pause, timeout, rate, format, qualify, fade, listen, break_, delay, repeat_, density,
    budget, length, battery, temperature⟩ := SetupValues.mk.inj h
  simp only [setupInRange, notify, room, receive, send, pause, timeout, rate, format, qualify, fade, listen, break_, delay,
    repeat_, density, budget, length, battery, temperature]

theorem printerRuns_congr {s t : State} (h : printerPart t = printerPart s) : printerRuns t ↔ printerRuns s := by
  obtain ⟨startUp, wait, runs, course, work, paper, _⟩ := PrinterPart.mk.inj h
  obtain ⟨_, state, position, pending, tabs, paperCause, hot, battery, jam, paperTimer, seekTimer, stopping, target, _⟩ :=
    Carriage.mk.inj course
  obtain ⟨dotState, _, _, _, _, inputs, _, _, _, _, strobes, groups, dotStopping, _⟩ := DotFiring.mk.inj work
  have runs' : t.arbiter.grant = some .startUp ↔ s.arbiter.grant = some .startUp := decide_eq_decide.1 runs
  simp only [printerRuns, startedUp, tabsOrdered, carriageSound, firingSound, strobesSound, Carriage.anyCause, startUp, wait,
    ne_eq, runs', state, position, pending, tabs, paperCause, hot, battery, jam, paperTimer, seekTimer, stopping, target,
    dotState, inputs, strobes, groups, dotStopping, paper]

/-- What leads from `s` to `t` keeps the setup values in range, the start-up state, and the invariants of the printer. -/
structure KeepsPrinter (s t : State) : Prop where
  setup : setupInRange s → setupInRange t
  startUp : t.passage.startUp = s.passage.startUp
  runs : printerRuns s → printerRuns t

theorem KeepsPrinter.of_eq {s t : State} (h : printerPart t = printerPart s) : KeepsPrinter s t :=
  ⟨(setupInRange_congr (congrArg PrinterPart.setup h)).2, congrArg PrinterPart.startUp h, (printerRuns_congr h).2⟩

theorem KeepsPrinter.refl (s : State) : KeepsPrinter s s := ⟨id, rfl, id⟩

theorem KeepsPrinter.trans {s t u : State} (h : KeepsPrinter s t) (h' : KeepsPrinter t u) : KeepsPrinter s u :=
  ⟨h'.setup ∘ h.setup, h'.startUp.trans h.startUp, h'.runs ∘ h.runs⟩

theorem KeepsPrinter.then_eq {s t u : State} (h : KeepsPrinter s t) (hu : printerPart u = printerPart t) :
    KeepsPrinter s u := h.trans (.of_eq hu)

theorem KeepsPrinter.from_eq {s t u : State} (h : KeepsPrinter t u) (ht : printerPart t = printerPart s) :
    KeepsPrinter s u := (KeepsPrinter.of_eq ht).trans h

theorem KeepsPrinter.ite {s a b : State} {c : Prop} [Decidable c] (ha : c → KeepsPrinter s a)
    (hb : ¬ c → KeepsPrinter s b) : KeepsPrinter s (if c then a else b) := by
  split
  · next h => exact ha h
  · next h => exact hb h

/-! ### Operations that leave the printer and the setup values as they are -/

/-- An operation that touches the arbiter alone of the blocks that the part is taken from, and no start-up fetch in it. -/
theorem printerPart_of_line {blocks : List Block} {s t : State} (h : changesOnly blocks s t)
    (hb : ∀ b ∈ [Block.passage, .pins, .rings, .keyboard, .receiver, .transmitter, .flow, .answerback, .carriage, .dot,
      .sensor], b ∉ blocks) (line : linePart t = linePart s) : printerPart t = printerPart s := by
  have passage : t.passage = s.passage := h .passage (hb _ (by decide))
  have pins : t.pins = s.pins := h .pins (hb _ (by decide))
  have rings : t.rings = s.rings := h .rings (hb _ (by decide))
  have keyboard : t.keyboard = s.keyboard := h .keyboard (hb _ (by decide))
  have receiver : t.receiver = s.receiver := h .receiver (hb _ (by decide))
  have transmitter : t.transmitter = s.transmitter := h .transmitter (hb _ (by decide))
  have flow : t.flow = s.flow := h .flow (hb _ (by decide))
  have answerback : t.answerback = s.answerback := h .answerback (hb _ (by decide))
  have carriage : t.carriage = s.carriage := h .carriage (hb _ (by decide))
  have dot : t.dot = s.dot := h .dot (hb _ (by decide))
  have sensor : t.sensor = s.sensor := h .sensor (hb _ (by decide))
  obtain ⟨_, wait, runs, _⟩ := LinePart.mk.inj line
  simp only [printerPart, setupValues, passage, pins, rings, keyboard, receiver, transmitter, flow, answerback, carriage,
    dot, sensor, wait, runs]

/-- An operation that touches none of the blocks that the part is taken from. -/
theorem printerPart_of_frame {blocks : List Block} {s t : State} (h : changesOnly blocks s t)
    (hb : ∀ b ∈ [Block.passage, .pins, .rings, .keyboard, .receiver, .transmitter, .flow, .answerback, .carriage, .dot,
      .sensor], b ∉ blocks) (arbiter : .arbiter ∉ blocks) (tones : .tones ∉ blocks) :
    printerPart t = printerPart s := by
  refine printerPart_of_line h hb (linePart_of_frame h fun b mem => ?_)
  simp only [List.mem_cons, List.not_mem_nil, or_false] at mem
  rcases mem with rfl | rfl | rfl | rfl | rfl | rfl
  · exact hb _ (by decide)
  · exact arbiter
  · exact hb _ (by decide)
  · exact hb _ (by decide)
  · exact tones
  · exact hb _ (by decide)

section
variable (s : State)

/-- R99: the judgement that ends an event moves no setup value of the flow or the transmitter. -/
@[simp] theorem printerPart_settle : printerPart (settle s) = printerPart s := by
  obtain ⟨_, flow, transmitter, _⟩ := settle_touches s
  simp only [printerPart, setupValues, settle_passage, settle_arbiter, settle_carriage, settle_dot, settle_pins,
    settle_rings, settle_receiver, settle_keyboard, settle_answerback, settle_sensor]
  rw [flow, transmitter]

/-! #### Flags and requests to the arbiter -/

@[simp] theorem printerPart_raiseLine (c : LineCause) : printerPart (raiseLine c s) = printerPart s := rfl
@[simp] theorem printerPart_setKeyLost : printerPart (setKeyLost s) = printerPart s :=
  printerPart_of_frame (setKeyLost_frame s) (by decide) (by decide) (by decide)
@[simp] theorem printerPart_setTxDiscarded : printerPart (setTxDiscarded s) = printerPart s :=
  printerPart_of_frame (setTxDiscarded_frame s) (by decide) (by decide) (by decide)
@[simp] theorem printerPart_setPrintOverrun : printerPart (setPrintOverrun s) = printerPart s :=
  printerPart_of_frame (setPrintOverrun_frame s) (by decide) (by decide) (by decide)
@[simp] theorem printerPart_setRingLoss : printerPart (setRingLoss s) = printerPart s :=
  printerPart_of_frame (setRingLoss_frame s) (by decide) (by decide) (by decide)
@[simp] theorem printerPart_setResult (r : CommandResult) : printerPart (setResult r s) = printerPart s := rfl
@[simp] theorem printerPart_endCommand (c : RunningCommand) (r : CommandResult) :
    printerPart (endCommand c r s) = printerPart s :=
  printerPart_of_frame (endCommand_frame c r s) (by decide) (by decide) (by decide)

@[simp] theorem printerPart_requestGrant {r : Requester} (other : r ≠ .startUp) :
    printerPart (requestGrant r s) = printerPart s :=
  printerPart_of_line (requestGrant_frame r s) (by decide) (linePart_requestGrant s other)
@[simp] theorem printerPart_dropRequest {r : Requester} (other : r ≠ .startUp) :
    printerPart (dropRequest r s) = printerPart s :=
  printerPart_of_line (dropRequest_frame r s) (by decide) (linePart_dropRequest s other)
@[simp] theorem printerPart_enqueueKeymap (r : KeymapRead) : printerPart (enqueueKeymap r s) = printerPart s := rfl
@[simp] theorem printerPart_requestPlacement : printerPart (requestPlacement s) = printerPart s :=
  printerPart_of_line (requestPlacement_frame s) (by decide) (linePart_requestPlacement s)
@[simp] theorem printerPart_requestSendFetch : printerPart (requestSendFetch s) = printerPart s :=
  printerPart_of_line (requestSendFetch_frame s) (by decide) (linePart_requestSendFetch s)
@[simp] theorem printerPart_requestAnswerbackRead : printerPart (requestAnswerbackRead s) = printerPart s :=
  printerPart_of_line (requestAnswerbackRead_frame s) (by decide) (linePart_requestAnswerbackRead s)
@[simp] theorem printerPart_requestHeaderLoad : printerPart (requestHeaderLoad s) = printerPart s :=
  printerPart_of_line (requestHeaderLoad_frame s) (by decide) (linePart_requestHeaderLoad s)
@[simp] theorem printerPart_discardTranslation : printerPart (discardTranslation s) = printerPart s := by
  refine printerPart_of_line (blocks := [.arbiter]) ?_ (by decide) (linePart_discardTranslation s)
  unfold discardTranslation
  split
  · exact onArbiter_frame s _
  · exact changesOnly_refl _ s

/-! #### Rings, join table, print queue, sounder and answerback -/

@[simp] theorem printerPart_offerRecord (record : ReceiveRecord) : printerPart (offerRecord record s) = printerPart s := by
  unfold offerRecord
  split
  · rw [printerPart_requestPlacement]; rfl
  · rw [printerPart_setRingLoss]; rfl

@[simp] theorem printerPart_setRow (source : Source) (row : Row) : printerPart (setRow source row s) = printerPart s :=
  printerPart_of_frame (setRow_frame source row s) (by decide) (by decide) (by decide)
@[simp] theorem printerPart_applyPreset (p : Preset) : printerPart (applyPreset p s) = printerPart s :=
  printerPart_of_frame (applyPreset_frame p s) (by decide) (by decide) (by decide)

@[simp] theorem printerPart_appendPrint (e : PrintEntry) : printerPart (appendPrint e s) = printerPart s := by
  rcases appendPrint_cases e s with ⟨_, h⟩ | ⟨_, h⟩ <;> rw [h]
  rfl

@[simp] theorem printerPart_judgePrintIdle : printerPart (judgePrintIdle s) = printerPart s := by
  rcases judgePrintIdle_cases s with ⟨_, h⟩ | ⟨_, h⟩ <;> rw [h]
  rfl

@[simp] theorem printerPart_requestSound (r : Sound) : printerPart (requestSound r s) = printerPart s := by
  rcases requestSound_cases r s with ⟨_, h⟩ | ⟨_, _, _, h⟩ | ⟨_, _, _, h⟩ <;> rw [h] <;> rfl

@[simp] theorem printerPart_requestClick : printerPart (requestClick s) = printerPart s := by
  unfold requestClick; split <;> simp

@[simp] theorem printerPart_triggerAnswerback : printerPart (triggerAnswerback s) = printerPart s := by
  unfold triggerAnswerback
  split
  · rw [printerPart_requestAnswerbackRead]; rfl
  · rfl

@[simp] theorem printerPart_abortAnswerback : printerPart (abortAnswerback s) = printerPart s := by
  unfold abortAnswerback
  split
  · exact (printerPart_dropRequest _ (by decide)).trans rfl
  · rfl

@[simp] theorem printerPart_clearRemotePause : printerPart (clearRemotePause s) = printerPart s := rfl

/-! #### The line -/

@[simp] theorem printerPart_enterListen : printerPart (enterListen s) = printerPart s := by
  unfold enterListen; dsimp only; split <;> rfl

@[simp] theorem printerPart_enterData : printerPart (enterData s) = printerPart s := by
  unfold enterData; dsimp only; split <;> rfl

@[simp] theorem printerPart_transmitterToOff : printerPart (transmitterToOff s) = printerPart s := by
  have cut : printerPart (cutBreak s) = printerPart s := by unfold cutBreak; split <;> simp
  have discarded : printerPart (discardSlot (cutBreak s)) = printerPart s := by
    unfold discardSlot; split <;> simp [cut]
  exact Eq.trans rfl discarded

@[simp] theorem printerPart_enterIdle : printerPart (enterIdle s) = printerPart s := by
  have quiet : printerPart (flowToIdle (transmitterToOff (receiverToIdle s))) = printerPart s :=
    (printerPart_transmitterToOff (receiverToIdle s)).trans rfl
  unfold enterIdle answerbackAtIdle
  split
  · rw [printerPart_abortAnswerback, quiet]
  · exact quiet

@[simp] theorem printerPart_startFrame : printerPart (startFrame s) = printerPart s := by
  have reported : ∀ kind t, printerPart (reportFlowStarted kind t) = printerPart t := fun kind t => by
    unfold reportFlowStarted; split <;> rfl
  unfold startFrame
  split
  · rfl
  · rfl
  · rw [reported]; rfl

@[simp] theorem printerPart_frameOrIdle : printerPart (frameOrIdle s) = printerPart s := by
  unfold frameOrIdle
  split
  · rfl
  · exact printerPart_startFrame s

@[simp] theorem printerPart_boundaryEffect : printerPart (boundaryEffect s) = printerPart s := by
  have afterFrame : printerPart (afterFrame s) = printerPart s := by
    unfold afterFrame
    split
    · rfl
    · exact printerPart_frameOrIdle s
  have endPostBreak : printerPart (endPostBreak s) = printerPart s := by
    refine (printerPart_frameOrIdle _).trans ?_
    refine Eq.trans (b := printerPart (if s.transmitter.breakByCommand then endCommand .sendBreak .done s else s)) rfl ?_
    split <;> simp
  unfold boundaryEffect
  split
  · rfl
  · split
    · rfl
    · split
      · rfl
      · exact printerPart_startFrame s
  · split
    · split
      · exact afterFrame
      · rfl
    · rfl
  · rfl
  · split
    · rfl
    · exact endPostBreak

@[simp] theorem printerPart_bitBoundary : printerPart (bitBoundary s) = printerPart s := by
  unfold bitBoundary
  split
  · rw [printerPart_settle, printerPart_boundaryEffect]; rfl
  · rfl

@[simp] theorem printerPart_recordSample (energy : Byte) : printerPart (recordSample energy s) = printerPart s := by
  have ticked : ∀ t, printerPart (tickBitClock t) = printerPart t := fun t => by
    have code : (tickBitClock t).transmitter.breakLengthCode = t.transmitter.breakLengthCode := by
      unfold tickBitClock
      rw [State.onTransmitter_transmitter]
      split
      · rfl
      · split <;> rfl
    exact congrArg (fun n => { printerPart t with setup := { setupValues t with breakLength := n } }) code
  exact (ticked _).trans rfl

@[simp] theorem printerPart_takeLineIn (f : ReceivedFrame) : printerPart (takeLineIn f s) = printerPart s := by
  unfold takeLineIn
  dsimp only
  split
  · rw [printerPart_offerRecord]
    split
    · split <;> simp
    · rfl
  · split
    · split <;> simp
    · rfl

@[simp] theorem printerPart_judgeFrame (f : ReceivedFrame) : printerPart (judgeFrame f s) = printerPart s := by
  unfold judgeFrame
  dsimp only
  split
  · rfl
  · split
    · rfl
    · split <;> simp

@[simp] theorem printerPart_carrierLeaves : printerPart (carrierLeaves s) = printerPart s := by
  unfold carrierLeaves
  dsimp only
  split <;> rfl

/-! #### The keyboard -/

@[simp] theorem printerPart_wakeTranslator : printerPart (wakeTranslator s) = printerPart s := by
  unfold wakeTranslator; split <;> rfl

@[simp] theorem printerPart_joinQueue (e : KeyEvent) : printerPart (joinQueue e s) = printerPart s :=
  (printerPart_wakeTranslator _).trans rfl

@[simp] theorem printerPart_finishEvent : printerPart (finishEvent s) = printerPart s :=
  (printerPart_wakeTranslator _).trans rfl

@[simp] theorem printerPart_offerPress (e : KeyEvent) : printerPart (offerPress e s) = printerPart s := by
  unfold offerPress; split <;> simp

@[simp] theorem printerPart_judgeRepeatKey : printerPart (judgeRepeatKey s) = printerPart s := by
  unfold judgeRepeatKey
  split
  · rfl
  · split <;> rfl

@[simp] theorem printerPart_chooseRepeat : printerPart (chooseRepeat s) = printerPart s := by
  unfold chooseRepeat
  split
  · rfl
  · split
    · split <;> rfl
    · rfl

@[simp] theorem printerPart_requestEligibility (positions : List Position) :
    printerPart (requestEligibility positions s) = printerPart s := by
  have asked : ∀ (l : List Position) t,
      printerPart (l.foldl (fun acc p => enqueueKeymap (.eligibility p) acc) t) = printerPart t := by
    intro l
    induction l with
    | nil => exact fun t => rfl
    | cons p rest ih => exact fun t => (ih _).trans (printerPart_enqueueKeymap t _)
  unfold requestEligibility
  split
  · rfl
  · exact (asked _ _).trans rfl

@[simp] theorem printerPart_scanEnded (after : Vector KeyState 64) : printerPart (scanEnded after s) = printerPart s := by
  have offered : ∀ (events : List KeyEvent) t, printerPart (offerAll events t) = printerPart t := by
    intro events
    induction events with
    | nil => exact fun t => rfl
    | cons e rest ih => exact fun t => (ih _).trans (printerPart_offerPress t e)
  have judged : printerPart (judgeRepeatKey (scanOffered after s)) = printerPart s := by
    rw [scanOffered_eq, printerPart_judgeRepeatKey]
    exact (offered _ _).trans rfl
  unfold scanEnded
  dsimp only
  split
  · rw [printerPart_requestEligibility, judged]
  · exact judged

@[simp] theorem printerPart_repeatExpiry : printerPart (repeatExpiry s) = printerPart s := by
  have offered : ∀ e, printerPart (offerRepeat e s) = printerPart s := fun e => by
    unfold offerRepeat; split <;> simp
  unfold repeatExpiry
  split
  · split
    · exact Eq.trans rfl (offered _)
    · rfl
  · rfl

@[simp] theorem printerPart_recordFunction (code : Byte) : printerPart (recordFunction code s) = printerPart s := by
  unfold recordFunction; split <;> simp

@[simp] theorem printerPart_breakFunction : printerPart (breakFunction s) = printerPart s := by
  unfold breakFunction
  split
  · rfl
  · exact printerPart_requestSound _ _

@[simp] theorem printerPart_lineLocalFunction : printerPart (lineLocalFunction s) = printerPart s := by
  unfold lineLocalFunction; split <;> simp

@[simp] theorem printerPart_hereIsFunction : printerPart (hereIsFunction s) = printerPart s := by
  unfold hereIsFunction; split <;> simp

@[simp] theorem printerPart_duplexFunction : printerPart (duplexFunction s) = printerPart s := by
  unfold duplexFunction
  dsimp only
  split
  · rw [printerPart_applyPreset]; rfl
  · rfl

@[simp] theorem printerPart_appendFeed : printerPart (appendFeed s) = printerPart s := by simp [appendFeed]

/-! #### Commands that leave the printer alone -/

@[simp] theorem printerPart_lineOnEffect (channel : Channel) : printerPart (lineOnEffect channel s) = printerPart s := by
  unfold lineOnEffect
  split
  · rw [printerPart_setResult, printerPart_enterListen]; rfl
  · rfl

@[simp] theorem printerPart_lineOffEffect : printerPart (lineOffEffect s) = printerPart s := by
  unfold lineOffEffect
  rw [printerPart_setResult]
  split <;> simp

@[simp] theorem printerPart_sendBreakEffect : printerPart (sendBreakEffect s) = printerPart s := by
  unfold sendBreakEffect; split <;> rfl

@[simp] theorem printerPart_sendAnswerbackEffect : printerPart (sendAnswerbackEffect s) = printerPart s := by
  unfold sendAnswerbackEffect; split <;> simp

@[simp] theorem printerPart_setModeEffect : printerPart (setModeEffect s) = printerPart s := by
  unfold setModeEffect; split <;> simp

@[simp] theorem printerPart_feedLineEffect : printerPart (feedLineEffect s) = printerPart s := by
  unfold feedLineEffect; split <;> simp

/-! #### Host cycles, grants and takes -/

@[simp] theorem printerPart_consumeRecord : printerPart (consumeRecord s) = printerPart s := by
  unfold consumeRecord; split <;> rfl

@[simp] theorem printerPart_reportWrite (head : Bool) (entry : Option HeaderEntry) (data : Byte) :
    printerPart (reportWrite head entry data s) = printerPart s := by
  have captured : printerPart (if head then captureHead s else s) = printerPart s := by
    split
    · unfold captureHead
      split
      · rfl
      · rw [printerPart_requestSendFetch]; rfl
    · rfl
  cases entry with
  | none => exact captured
  | some e => exact Eq.trans rfl captured

@[simp] theorem printerPart_takeAttention : printerPart (takeAttention s) = printerPart s :=
  printerPart_of_frame (takeAttention_frame s) (by decide) (by decide) (by decide)

@[simp] theorem printerPart_advanceReceiveHead : printerPart (advanceReceiveHead s) = printerPart s := by
  unfold advanceReceiveHead
  dsimp only
  split
  · rw [printerPart_requestPlacement]; rfl
  · rw [printerPart_requestPlacement]; rfl

@[simp] theorem printerPart_deliver (source : WaitingSource) (character : Byte) :
    printerPart (deliver source character s) = printerPart s := by
  have sent : printerPart (if (s.switch.row source).lineOut then deliverLineOut source character s else s) =
      printerPart s := by
    split
    · unfold deliverLineOut
      split
      · cases source <;> rfl
      · simp
    · rfl
  unfold deliver
  dsimp only
  split
  · rw [printerPart_offerRecord]
    split <;> simp [sent]
  · split <;> simp [sent]

@[simp] theorem printerPart_leaveSource (source : WaitingSource) : printerPart (leaveSource source s) = printerPart s := by
  cases source with
  | keyboard => simp [leaveSource]
  | sendRing =>
    unfold leaveSource advanceSendTail
    dsimp only
    rw [printerPart_requestSendFetch]
    split <;> rfl
  | answerback =>
    unfold leaveSource advanceAnswerback
    dsimp only
    split
    · rfl
    · rw [printerPart_requestAnswerbackRead]; rfl

end

end Sys2Proof.Machine

namespace Sys2Proof.Machine

/-! ### Phases: what an operation of the printer leaves (R120 to R124, R130) -/

theorem startedUp_of_line {s t : State} (started : startedUp s) (passage : t.passage = s.passage)
    (line : linePart t = linePart s) : startedUp t := by
  obtain ⟨_, wait, runs, _⟩ := LinePart.mk.inj line
  obtain ⟨released, asked, grant⟩ := started
  exact ⟨by rw [passage]; exact released, by rw [wait]; exact asked, fun h => grant ((decide_eq_decide.1 runs).1 h)⟩

/-- R155: with the unit at rest no strobe line is driven. -/
def dotRests (d : DotFiring) : Prop := d.state = .idle ∧ d.stopping = false ∧ d.strobes = 0 ∧ d.groups = []

/-- With no line driven and no group left the budget is not exceeded, whatever it is. -/
theorem strobesSound_of_quiet {s : State} (strobes : s.dot.strobes = 0) (groups : s.dot.groups = []) : strobesSound s := by
  refine ⟨fun drives => ?_, ?_, ?_⟩
  · exact (drives.elim (absurd strobes) (absurd groups))
  · rw [strobes]
    exact Nat.zero_le _
  · rw [groups]
    nofun

/-- R152: outside FIRING no strobe line is driven and no group is left. -/
theorem quiet_of_strobesSound {s : State} (sound : strobesSound s) (other : s.dot.state ≠ .firing) :
    s.dot.strobes = 0 ∧ s.dot.groups = [] := by
  have quiet := mt sound.1 other
  exact ⟨not_not.1 fun h => quiet (.inl h), not_not.1 fun h => quiet (.inr h)⟩

theorem firingSound_of_rest {s : State} (idle : s.dot.state = .idle) (still : s.dot.stopping = false)
    (other : s.carriage.state ≠ .printing) : firingSound s :=
  ⟨fun h => absurd h other, fun h => absurd idle h, fun h => by rw [still] at h; cases h⟩

/-- R121: the carriage between two operations: no seek is under way, the unit is at rest, and the next operation may begin
from the position as it stands. -/
structure Between (w : State) : Prop where
  started : startedUp w
  tabs : tabsOrdered w
  located : ∃ p, w.carriage.position = some p ∧ p ≤ 80
  later : ∀ op ∈ w.carriage.pending, op.mayFollow = true
  noSeek : w.carriage.seekTimer = none
  notStopping : w.carriage.stopping = none
  paper : w.carriage.paperTimer ≠ none → w.carriage.paper = true ∧ w.pins.paper = true
  rests : dotRests w.dot

/-- The carriage stands in a state in which no operation of the unit and no seek is under way. -/
theorem rests_of_runs {s : State} (sound : printerRuns s) (notPrinting : s.carriage.state ≠ .printing)
    (notStopping : s.carriage.stopping = none) : dotRests s.dot := by
  obtain ⟨_, _, _, ⟨_, works, stops⟩, strobes⟩ := sound
  have idle : s.dot.state = .idle := not_not.1 fun busy => by
    rcases works busy with printing | ⟨_, _, stopping⟩
    · exact notPrinting printing
    · rw [notStopping] at stopping; cases stopping
  obtain ⟨lines, groups⟩ := quiet_of_strobesSound strobes (by rw [idle]; nofun)
  refine ⟨idle, Bool.eq_false_iff.2 fun stopping => ?_, lines, groups⟩
  rcases stops stopping with firing | ⟨made, stepping⟩
  · rw [idle] at firing; cases firing
  · rw [idle] at stepping; cases stepping

/-- Outside HOME-SEEK no seek is under way and none waits. -/
theorem noSeek_of_runs {s : State} (sound : printerRuns s) (other : s.carriage.state ≠ .homeSeek) :
    s.carriage.seekTimer = none ∧ s.carriage.stopping = none := by
  obtain ⟨_, _, ⟨_, _, _, _, _, _, _, seeks, stops, _⟩, _⟩ := sound
  exact ⟨not_not.1 fun h => other (seeks h).1, not_not.1 fun h => other (stops h)⟩

/-- R120: how the carriage and the unit stand in `u` once the carriage has gone on, or halted, from `w`. -/
inductive Phase (w u : State) : Prop where
  | halted (state : u.carriage.state = .halted) (caused : w.carriage.anyCause = true) (dot : u.dot = w.dot)
  | ready (state : u.carriage.state = .ready) (done : u.carriage.pending = []) (clear : w.carriage.anyCause = false)
    (dot : u.dot = w.dot)
  | moving (state : u.carriage.state = .moving) (target : u.carriage.target ≤ 80) (dot : u.dot = w.dot)
  | returning (state : u.carriage.state = .returning) (dot : u.dot = w.dot)
  | feeding (state : u.carriage.state = .feeding) (dot : u.dot = w.dot)
  | printing (state : u.carriage.state = .printing) (glyph : BitVec 7) (backStep : Bool)
    (dot : u.dot = handedDot glyph backStep w.dot w.sensor)

/-- The position, the causes and the timers stand as they were; the carriage's phase may have changed. -/
structure GoesOn (w u : State) : Prop where
  course : u.carriage.course = { w.carriage with
    state := u.carriage.state, pending := u.carriage.pending, target := u.carriage.target }.course
  passage : u.passage = w.passage
  pins : u.pins = w.pins
  line : linePart u = linePart w
  later : ∀ op ∈ u.carriage.pending, op.mayFollow = true
  phase : Phase w u

/-- R120, R130, R136: from between two operations the printer goes on in any phase. -/
theorem Between.runs {w u : State} (b : Between w) (on : GoesOn w u) : printerRuns u := by
  obtain ⟨started, tabs, ⟨p, at_p, inside⟩, _, noSeek, notStopping, paper, idle, still, lines, groups⟩ := b
  obtain ⟨course, passage, pins, line, later, phase⟩ := on
  obtain ⟨_, _, position, _, stops, paperCause, hot, battery, jam, paperTimer, seekTimer, stopping, _, _⟩ :=
    Carriage.mk.inj course
  have causes : u.carriage.anyCause = w.carriage.anyCause := by
    simp only [Carriage.anyCause, paperCause, hot, battery, jam]
  have placed : u.carriage.position = some p := position.trans at_p
  have carriage : (u.carriage.state ≠ .homeSeek) → (u.carriage.state = .moving → u.carriage.target ≤ 80) →
      (u.carriage.state = .ready → u.carriage.pending = [] ∧ u.carriage.anyCause = false) →
      (u.carriage.state = .halted → u.carriage.anyCause = true) → carriageSound u := fun seek target ready halted => by
    refine ⟨?_, fun lost => ?_, fun h => absurd h seek, target, later, ready, halted, fun h => ?_, fun h => ?_, ?_⟩
    · rw [placed]
      exact decide_eq_true inside
    · rw [placed] at lost; cases lost
    · exact absurd (seekTimer.trans noSeek) h
    · exact absurd (stopping.trans notStopping) h
    · rw [paperTimer, paperCause, pins]
      exact paper
  have ordered : tabsOrdered u := by
    rw [tabsOrdered, stops]
    exact tabs
  have begun : startedUp u := startedUp_of_line started passage line
  have rested : ∀ state, u.carriage.state = state → state ≠ .printing → u.dot = w.dot → firingSound u ∧ strobesSound u :=
    fun state h other dot => by
      refine ⟨firingSound_of_rest ?_ ?_ (by rw [h]; exact other), strobesSound_of_quiet ?_ ?_⟩ <;> rw [dot] <;> assumption
  cases phase with
  | halted state caused dot =>
    exact ⟨begun, ordered, carriage (by rw [state]; nofun) (by rw [state]; nofun) (by rw [state]; nofun)
      fun _ => causes.trans caused, rested _ state nofun dot⟩
  | ready state done clear dot =>
    exact ⟨begun, ordered, carriage (by rw [state]; nofun) (by rw [state]; nofun) (fun _ => ⟨done, causes.trans clear⟩)
      (by rw [state]; nofun), rested _ state nofun dot⟩
  | moving state target dot =>
    exact ⟨begun, ordered, carriage (by rw [state]; nofun) (fun _ => target) (by rw [state]; nofun)
      (by rw [state]; nofun), rested _ state nofun dot⟩
  | returning state dot | feeding state dot =>
    exact ⟨begun, ordered, carriage (by rw [state]; nofun) (by rw [state]; nofun) (by rw [state]; nofun)
      (by rw [state]; nofun), rested _ state nofun dot⟩
  | printing state glyph backStep dot =>
    have works : u.dot.state ≠ .idle ∧ u.dot.stopping = false ∧ u.dot.strobes = 0 ∧ u.dot.groups = [] := by
      rw [dot]
      cases backStep <;> exact ⟨nofun, still, lines, groups⟩
    obtain ⟨busy, going, noLines, noGroups⟩ := works
    exact ⟨begun, ordered, carriage (by rw [state]; nofun) (by rw [state]; nofun) (by rw [state]; nofun)
      (by rw [state]; nofun), ⟨fun _ => ⟨busy, going⟩, fun _ => .inl state, fun h => by rw [going] at h; cases h⟩,
      strobesSound_of_quiet noLines noGroups⟩

/-- R121, R130: the boundary lets the carriage go on in one of its phases. -/
theorem Boundary.goesOn {w u : State} (b : Boundary w u) (line : linePart u = linePart w)
    (later : ∀ op ∈ w.carriage.pending, op.mayFollow = true) : GoesOn w u := by
  have follows := b.follows
  have causes := b.anyCause
  have course : u.carriage.course = { w.carriage with
      state := u.carriage.state, pending := u.carriage.pending, target := u.carriage.target }.course := by
    rw [b.carriage]; rfl
  have on : (∀ op ∈ u.carriage.pending, op.mayFollow = true) → Phase w u → GoesOn w u :=
    fun follows phase => ⟨course, b.frame .passage (by decide), b.frame .pins (by decide), line, follows, phase⟩
  cases caused : u.carriage.anyCause with
  | true =>
    obtain ⟨state, pending, _, dot, _⟩ := (operationFollows_of_cause caused).1 follows
    exact on (by rw [pending]; exact later) (.halted state (causes.symm.trans caused) dot)
  | false =>
    cases pends : w.carriage.pending with
    | nil =>
      rw [pends] at follows
      obtain ⟨state, pending, _, dot, _⟩ := (operationFollows_ready caused).1 follows
      exact on (by rw [pending]; nofun) (.ready state pending (causes.symm.trans caused) dot)
    | cons op rest =>
      rw [pends] at follows later
      have rest_follows : ∀ op ∈ rest, op.mayFollow = true := fun op mem => later op (List.mem_cons_of_mem _ mem)
      have may := later op List.mem_cons_self
      cases op with
      | feed =>
        obtain ⟨state, pending, _, _, dot, _⟩ := (operationFollows_feed caused).1 follows
        exact on (by rw [pending]; exact rest_follows) (.feeding state dot)
      | print glyph =>
        obtain ⟨state, pending, _, dot, _⟩ := (operationFollows_print caused).1 follows
        exact on (by rw [pending]; exact rest_follows) (.printing state glyph _ dot)
      | space | backspace | tab | carriageReturn => cases may

section
variable {w : State} (b : Between w)
include b

theorem Between.endOperation_runs : printerRuns (endOperation w) :=
  b.runs ((endOperation_boundary b.later).goesOn (linePart_endOperation w) b.later)

theorem Between.continueEntry_runs (clear : w.carriage.anyCause = false) : printerRuns (continueEntry w) :=
  b.runs ((continueEntry_boundary b.later clear).goesOn (linePart_continueEntry w) b.later)

end

end Sys2Proof.Machine

namespace Sys2Proof.Machine

section
variable (s : State)

/-! ### The printer's operations leave the setup values alone -/

theorem setupValues_of_part {s t : State} (h : printerPart t = printerPart s) : setupValues t = setupValues s :=
  congrArg PrinterPart.setup h

@[simp] theorem setupValues_settle : setupValues (settle s) = setupValues s := setupValues_of_part (printerPart_settle s)
@[simp] theorem setupValues_onCarriage (f) : setupValues (s.onCarriage f) = setupValues s := rfl
@[simp] theorem setupValues_columnStep (column : Nat) : setupValues (columnStep column s) = setupValues s := rfl
@[simp] theorem setupValues_dotToIdle : setupValues (dotToIdle s) = setupValues s := rfl
@[simp] theorem setupValues_judgePrintIdle : setupValues (judgePrintIdle s) = setupValues s :=
  setupValues_of_part (printerPart_judgePrintIdle s)

@[simp] theorem setupValues_handOver (glyph : BitVec 7) (backStep : Bool) :
    setupValues (handOver glyph backStep s) = setupValues s := by
  have asked : setupValues (requestGrant .font (s.onDot fun d =>
      { d with history := 0, glyph := .requested, code := glyph })) = setupValues s :=
    (setupValues_of_part (printerPart_requestGrant _ (by decide))).trans rfl
  cases backStep <;> exact Eq.trans rfl asked

@[simp] theorem setupValues_beginOperation (op : Operation) : setupValues (beginOperation op s) = setupValues s := by
  cases op with
  | print glyph => exact (setupValues_handOver _ glyph _).trans rfl
  | _ => rfl

@[simp] theorem setupValues_continueEntry : setupValues (continueEntry s) = setupValues s := by
  unfold continueEntry enterReady; split <;> simp

@[simp] theorem setupValues_endOperation : setupValues (endOperation s) = setupValues s := by
  unfold endOperation; split <;> simp

@[simp] theorem setupValues_judgeHalt : setupValues (judgeHalt s) = setupValues s := by
  unfold judgeHalt
  split
  · split <;> simp
  · split <;> simp
  · rfl

@[simp] theorem setupValues_setCauses (paper hot battery jam : Bool) :
    setupValues (setCauses paper hot battery jam s) = setupValues s := by
  rw [setCauses_eq]; rfl

@[simp] theorem setupValues_losePaper : setupValues (losePaper s) = setupValues s := by simp [losePaper]
@[simp] theorem setupValues_findPaper : setupValues (findPaper s) = setupValues s := by simp [findPaper]
@[simp] theorem setupValues_endReturn (home : Bool) : setupValues (endReturn home s) = setupValues s := by
  cases home <;> simp [endReturn]

@[simp] theorem setupValues_endDwell : setupValues (endDwell s) = setupValues s := by
  unfold endDwell endCell; split <;> simp

@[simp] theorem setupValues_endFiring : setupValues (endFiring s) = setupValues s := by
  have dwelt : ∀ t, setupValues (enterDwell t) = setupValues t := fun t => by
    unfold enterDwell
    split
    · rw [setupValues_endDwell]; rfl
    · rfl
  unfold endFiring
  split
  · rfl
  · rw [dwelt]; rfl

@[simp] theorem setupValues_startGroup : setupValues (startGroup s) = setupValues s := by
  unfold startGroup; split <;> rfl

@[simp] theorem setupValues_beginFiring : setupValues (beginFiring s) = setupValues s := by
  unfold beginFiring
  split
  · exact setupValues_endFiring s
  · exact (setupValues_startGroup _).trans rfl

@[simp] theorem setupValues_releaseStrobe (row : Nat) : setupValues (releaseStrobe row s) = setupValues s := by
  unfold releaseStrobe
  dsimp only
  split
  · rw [setupValues_endFiring]; rfl
  · rfl

@[simp] theorem setupValues_holdGlyph (c1 c2 c3 c4 c5 : Byte) :
    setupValues (holdGlyph c1 c2 c3 c4 c5 s) = setupValues s := by
  unfold holdGlyph
  dsimp only
  split
  · rw [setupValues_beginFiring]; rfl
  · rfl

@[simp] theorem setupValues_expireColumn : setupValues (expireColumn s) = setupValues s := by
  unfold expireColumn
  dsimp only
  split
  · rw [setupValues_endDwell]; rfl
  · rfl

@[simp] theorem setupValues_completeBackStep (made : Nat) : setupValues (completeBackStep made s) = setupValues s := by
  unfold completeBackStep
  split
  · rfl
  · split <;> rfl

@[simp] theorem setupValues_restartDot : setupValues (restartDot s) = setupValues s := by
  unfold restartDot; split <;> rfl

@[simp] theorem setupValues_handleEntry (e : PrintEntry) : setupValues (handleEntry e s) = setupValues s := by
  have rung : setupValues (ringBell e s) = setupValues s :=
    setupValues_of_part (printerPart_of_line (ringBell_frame e s) (by decide) (by
      unfold ringBell; split <;> simp))
  unfold handleEntry beginOperations
  split
  · rw [setupValues_judgePrintIdle, rung]
  · rw [setupValues_beginOperation, setupValues_onCarriage, rung]

/-- R157: a new pair of readings lies in its range, and no other value moves. -/
theorem takeReadings_setup (millivolts : Nat) (millidegrees : Int) :
    setupInRange s → setupInRange (takeReadings millivolts millidegrees s) := by
  intro range
  have read : setupInRange (s.onSensor fun m => { m with
      battery := batteryReading millivolts, temperature := temperatureReading millidegrees
      sampleTimer := some Config.samplePeriod }) := by
    obtain ⟨notify, room, receive, send, pause, timeout, rate, format, qualify, fade, listen, break_, delay, repeat_,
      density, budget, length, _, _⟩ := range
    refine ⟨notify, room, receive, send, pause, timeout, rate, format, qualify, fade, listen, break_, delay, repeat_,
      density, budget, length, Nat.min_le_right _ _, Int.le_max_left _ _, ?_⟩
    exact Int.max_le.2 ⟨by decide, Int.min_le_right _ _⟩
  exact (setupInRange_congr (setupValues_setCauses _ _ _ _ _)).2 read

end

/-- An operation of the printer: it leaves the passage and the setup values alone, and keeps what the printer promises. -/
theorem KeepsPrinter.of_runs {blocks : List Block} {s t : State} (frame : changesOnly blocks s t)
    (passage : .passage ∉ blocks) (setup : setupValues t = setupValues s) (runs : printerRuns s → printerRuns t) :
    KeepsPrinter s t :=
  ⟨(setupInRange_congr setup).2, congrArg BusPassage.startUp (frame .passage passage), runs⟩

theorem tabs_of_runs {s : State} (sound : printerRuns s) : tabsOrdered s := by
  obtain ⟨_, tabs, _⟩ := sound
  exact tabs

theorem strobes_of_runs {s : State} (sound : printerRuns s) : strobesSound s := by
  obtain ⟨_, _, _, _, strobes⟩ := sound
  exact strobes

/-- R124: what is pending may follow an operation. -/
theorem later_of_runs {s : State} (sound : printerRuns s) : ∀ op ∈ s.carriage.pending, op.mayFollow = true := by
  obtain ⟨_, _, ⟨_, _, _, _, later, _⟩, _⟩ := sound
  exact later

/-- R130: a READY carriage has no cause, a HALTED one has. -/
theorem causes_of_runs {s : State} (sound : printerRuns s) :
    (s.carriage.state = .ready → s.carriage.anyCause = false) ∧
    (s.carriage.state = .halted → s.carriage.anyCause = true) := by
  obtain ⟨_, _, ⟨_, _, _, _, _, ready, halted, _⟩, _⟩ := sound
  exact ⟨fun h => (ready h).2, halted⟩

/-- R129: the paper timer runs only while PAPER is set and the sensor shows paper. -/
theorem paper_of_runs {s : State} (sound : printerRuns s) :
    s.carriage.paperTimer ≠ none → s.carriage.paper = true ∧ s.pins.paper = true := by
  obtain ⟨_, _, ⟨_, _, _, _, _, _, _, _, _, paper⟩, _⟩ := sound
  exact paper

section
variable (s : State)

/-! ### Ends of operations, causes and halts (R120 to R124, R128 to R131) -/

/-- An operation other than a cell has ended, and has left the position `p`. -/
theorem Between.of_runs {s w : State} (sound : printerRuns s)
    (operates : s.carriage.state = .moving ∨ s.carriage.state = .returning ∨ s.carriage.state = .feeding)
    (started : startedUp w) (dot : w.dot = s.dot) (tabs : w.carriage.tabStops = s.carriage.tabStops)
    (located : ∃ p, w.carriage.position = some p ∧ p ≤ 80) (later : ∀ op ∈ w.carriage.pending, op.mayFollow = true)
    (seekTimer : w.carriage.seekTimer = s.carriage.seekTimer) (stopping : w.carriage.stopping = s.carriage.stopping)
    (paper : w.carriage.paperTimer ≠ none → w.carriage.paper = true ∧ w.pins.paper = true) : Between w := by
  have notSeeking : s.carriage.state ≠ .homeSeek := by rcases operates with h | h | h <;> rw [h] <;> nofun
  have notPrinting : s.carriage.state ≠ .printing := by rcases operates with h | h | h <;> rw [h] <;> nofun
  obtain ⟨noSeek, notStopping⟩ := noSeek_of_runs sound notSeeking
  refine ⟨started, ?_, located, later, seekTimer.trans noSeek, stopping.trans notStopping, paper, ?_⟩
  · rw [tabsOrdered, tabs]
    exact tabs_of_runs sound
  · rw [dot]
    exact rests_of_runs sound notPrinting notStopping

/-- Outside HOME-SEEK, and with JAM clear in HALTED, the position is defined. -/
theorem located_of_runs {s : State} (sound : printerRuns s) (notSeeking : s.carriage.state ≠ .homeSeek)
    (unjammed : s.carriage.state = .halted → s.carriage.jam = false) : ∃ p, s.carriage.position = some p ∧ p ≤ 80 := by
  obtain ⟨_, _, ⟨inside, lost, _⟩, _⟩ := sound
  cases at_p : s.carriage.position with
  | none =>
    rcases lost at_p with h | ⟨halted, jam⟩
    · exact absurd h notSeeking
    · rw [unjammed halted] at jam; cases jam
  | some p =>
    rw [at_p] at inside
    exact ⟨p, rfl, of_decide_eq_true inside⟩

theorem motionEnd_keepsPrinter (moving : s.carriage.state = .moving) :
    KeepsPrinter s (endOperation (s.onCarriage fun c => { c with position := some c.target })) := by
  refine .of_runs (blocks := [.carriage, .dot, .arbiter, .attention])
    ((endOperation_frame _).after (by decide) ((onCarriage_frame s _).mono (by decide))) (by decide) (by simp)
    fun sound => ?_
  have inside : s.carriage.target ≤ 80 := by
    obtain ⟨_, _, ⟨_, _, _, target, _⟩, _⟩ := sound
    exact target moving
  exact (Between.of_runs sound (.inl moving) (w := s.onCarriage fun c => { c with position := some c.target })
    sound.1 rfl rfl ⟨_, rfl, inside⟩ (later_of_runs (s := s) sound) rfl rfl (paper_of_runs (s := s) sound)).endOperation_runs

theorem endReturn_keepsPrinter (home : Bool) (returning : s.carriage.state = .returning) :
    KeepsPrinter s (endReturn home s) := by
  let x := s.onCarriage fun c => { c with position := some 0 }
  let w := if home then x else setCauses s.carriage.paper s.carriage.hot s.carriage.battery true x
  have toW : changesOnly [.carriage, .attention] s w := by
    have toX : changesOnly [.carriage, .attention] s x := (onCarriage_frame s _).mono (by decide)
    cases home with
    | true => exact toX
    | false => exact (setCauses_frame _ _ _ _ x).after (by decide) toX
  refine .of_runs (t := endOperation w) (blocks := [.carriage, .dot, .arbiter, .attention])
    ((endOperation_frame w).after (by decide) (toW.mono (by decide))) (by decide) (setupValues_endReturn s home)
    fun sound => ?_
  have later := later_of_runs sound
  have carriage : w.carriage = { s.carriage with position := some 0, jam := w.carriage.jam } := by
    cases home with
    | true => rfl
    | false => simp [w, x, setCauses_eq]
  refine (Between.of_runs (w := w) sound (.inr (.inl returning)) ?_ (toW .dot (by decide))
    (by rw [carriage]) ⟨0, by rw [carriage], by decide⟩ (by rw [carriage]; exact later) (by rw [carriage])
    (by rw [carriage]) ?_).endOperation_runs
  · exact startedUp_of_line sound.1 (toW .passage (by decide)) (linePart_of_frame toW (by decide))
  · rw [carriage, show w.pins = s.pins from toW .pins (by decide)]
    exact paper_of_runs sound

theorem feedEnd_keepsPrinter (feeding : s.carriage.state = .feeding) : KeepsPrinter s (endOperation s) := by
  refine .of_runs (endOperation_frame s) (by decide) (by simp) fun sound => ?_
  have located := located_of_runs sound (by rw [feeding]; nofun) (by rw [feeding]; nofun)
  exact (Between.of_runs sound (.inr (.inr feeding)) sound.1 rfl rfl located (later_of_runs sound) rfl rfl
    (paper_of_runs sound)).endOperation_runs

end

/-- R128, R129: from `s` to `w` the causes PAPER, HOT and BATTERY have taken new values; the halt is not judged yet. -/
structure NewCauses (s w : State) : Prop where
  started : startedUp w
  carriage : w.carriage = { s.carriage with
    paper := w.carriage.paper, hot := w.carriage.hot, battery := w.carriage.battery, paperTimer := w.carriage.paperTimer }
  dot : w.dot = s.dot
  paper : w.carriage.paperTimer ≠ none → w.carriage.paper = true ∧ w.pins.paper = true

/-- Where the new causes agree with READY and HALTED the printer stands as before. -/
theorem NewCauses.runs {s w : State} (new : NewCauses s w) (sound : printerRuns s)
    (ready : w.carriage.state = .ready → w.carriage.anyCause = false)
    (halted : w.carriage.state = .halted → w.carriage.anyCause = true) : printerRuns w := by
  obtain ⟨started, carriage, dot, paper⟩ := new
  obtain ⟨_, tabs, ⟨inside, lost, seeking, target, later, done, _, seeks, stops, _⟩, firing, strobes⟩ := sound
  obtain ⟨_, state, position, pending, tabStops, _, _, _, jam, _, seekTimer, stopping, aims, _⟩ := Carriage.mk.inj carriage
  refine ⟨started, by rwa [tabsOrdered, tabStops], ⟨?_, ?_, ?_, ?_, ?_, ?_, halted, ?_, ?_, paper⟩, ?_,
    by rwa [strobesSound, dot]⟩
  · rwa [position]
  · rwa [position, state, jam]
  · rwa [position, state]
  · rwa [state, aims]
  · rwa [pending]
  · intro h
    rw [pending]
    exact ⟨(done (state.symm.trans h)).1, ready h⟩
  · rwa [seekTimer, state, stopping]
  · rwa [state, stopping]
  · rwa [firingSound, state, stopping, dot]

/-- READY, and HALTED without JAM, lie between two operations. -/
theorem NewCauses.between {s w : State} (new : NewCauses s w) (sound : printerRuns s)
    (rests : w.carriage.state = .ready ∨ (w.carriage.state = .halted ∧ w.carriage.jam = false)) : Between w := by
  obtain ⟨started, carriage, dot, paper⟩ := new
  obtain ⟨_, state, position, pending, tabStops, _, _, _, jam, _, seekTimer, stopping, _⟩ := Carriage.mk.inj carriage
  rw [state, jam] at rests
  have later := later_of_runs sound
  have notSeeking : s.carriage.state ≠ .homeSeek := by rcases rests with h | ⟨h, _⟩ <;> rw [h] <;> nofun
  have notPrinting : s.carriage.state ≠ .printing := by rcases rests with h | ⟨h, _⟩ <;> rw [h] <;> nofun
  have unjammed : s.carriage.state = .halted → s.carriage.jam = false := fun h => by
    rcases rests with ready | ⟨_, clear⟩
    · rw [h] at ready; cases ready
    · exact clear
  obtain ⟨noSeek, notStopping⟩ := noSeek_of_runs sound notSeeking
  refine ⟨started, ?_, ?_, ?_, seekTimer.trans noSeek, stopping.trans notStopping, paper, ?_⟩
  · rw [tabsOrdered, tabStops]
    exact tabs_of_runs sound
  · rw [position]
    exact located_of_runs sound notSeeking unjammed
  · rw [pending]
    exact later
  · rw [dot]
    exact rests_of_runs sound notPrinting notStopping

/-- R130: the halt is judged on the new causes. -/
theorem NewCauses.judgeHalt_runs {s w : State} (new : NewCauses s w) (sound : printerRuns s) :
    printerRuns (judgeHalt w) := by
  unfold judgeHalt
  split
  · next ready =>
    split
    · next caused =>
      have b := new.between sound (.inl ready)
      exact b.runs ⟨rfl, rfl, rfl, rfl, b.later, .halted rfl caused rfl⟩
    · next clear => exact new.runs sound (fun _ => Bool.eq_false_iff.2 clear) (by rw [ready]; nofun)
  · next halted =>
    split
    · next caused => exact new.runs sound (by rw [halted]; nofun) fun _ => caused
    · next clear =>
      have none_set := Bool.eq_false_iff.2 clear
      have unjammed : w.carriage.jam = false := by
        simp only [Carriage.anyCause, Bool.or_eq_false_iff] at none_set
        exact none_set.2
      exact (new.between sound (.inr ⟨halted, unjammed⟩)).continueEntry_runs none_set
  · next notReady notHalted => exact new.runs sound (fun h => absurd h notReady) fun h => absurd h notHalted

theorem losePaper_keepsPrinter (s : State) :
    KeepsPrinter s (losePaper (s.onPins fun p => { p with paper := false })) := by
  let x := (s.onPins fun p => { p with paper := false }).onCarriage fun c => { c with paperTimer := none }
  let w := setCauses true s.carriage.hot s.carriage.battery s.carriage.jam x
  have toW : changesOnly [.pins, .carriage, .attention] s w :=
    (setCauses_frame _ _ _ _ x).after (by decide) ((onCarriage_frame _ _).after (by decide)
      ((onPins_frame s _).mono (by decide)))
  refine .of_runs (t := judgeHalt w) (blocks := [.pins, .carriage, .dot, .arbiter, .attention])
    ((judgeHalt_frame w).after (by decide) (toW.mono (by decide))) (by decide) ?_ fun sound => ?_
  · exact (setupValues_losePaper _).trans rfl
  · have left := setCauses_eq x true s.carriage.hot s.carriage.battery s.carriage.jam
    refine NewCauses.judgeHalt_runs (s := s) ⟨?_, ?_, toW .dot (by decide), ?_⟩ sound
    · exact startedUp_of_line sound.1 (toW .passage (by decide)) (linePart_of_frame toW (by decide))
    · rw [show w = _ from left]
      rfl
    · rw [show w = _ from left]
      exact fun h => absurd rfl h

theorem paperPresent_keepsPrinter (s : State) : KeepsPrinter s ((s.onPins fun p => { p with paper := true }).onCarriage
    fun c => { c with paperTimer := if c.paper then some Config.paperPeriod else c.paperTimer }) := by
  refine .of_runs (blocks := [.pins, .carriage])
    ((onCarriage_frame _ _).after (by decide) ((onPins_frame s _).mono (by decide))) (by decide) rfl fun sound => ?_
  obtain ⟨ready, halted⟩ := causes_of_runs sound
  refine NewCauses.runs (s := s) ⟨sound.1, rfl, rfl, ?_⟩ sound ready halted
  intro runs
  cases paper : s.carriage.paper with
  | true => exact ⟨paper, rfl⟩
  | false =>
    have timer : s.carriage.paperTimer ≠ none := fun none_ => runs (by simp [paper, none_])
    have was := (paper_of_runs sound timer).1
    rw [paper] at was
    cases was

theorem findPaper_keepsPrinter (s : State) : KeepsPrinter s (findPaper s) := by
  refine .of_runs (blocks := [.carriage, .dot, .arbiter, .attention])
    ((judgeHalt_frame _).after (by decide) ((onCarriage_frame s _).mono (by decide))) (by decide) (by simp)
    fun sound => ?_
  exact NewCauses.judgeHalt_runs (s := s) ⟨sound.1, rfl, rfl, fun h => absurd rfl h⟩ sound

theorem sensorReading_keepsPrinter (s : State) (millivolts : Nat) (millidegrees : Int) :
    KeepsPrinter s (judgeHalt (takeReadings millivolts millidegrees s)) := by
  let w := takeReadings millivolts millidegrees s
  have toW : changesOnly [.sensor, .carriage, .attention] s w := takeReadings_frame _ _ s
  refine ⟨fun range => ?_, ?_, fun sound => ?_⟩
  · exact (setupInRange_congr (setupValues_judgeHalt w)).2 (takeReadings_setup s millivolts millidegrees range)
  · exact congrArg BusPassage.startUp ((judgeHalt_frame w .passage (by decide)).trans (toW .passage (by decide)))
  · have read : w.carriage = { s.carriage with hot := w.carriage.hot, battery := w.carriage.battery } := by
      rw [show w = _ from setCauses_eq _ _ _ _ _]
      rfl
    refine NewCauses.judgeHalt_runs (s := s) ⟨?_, ?_, toW .dot (by decide), ?_⟩ sound
    · exact startedUp_of_line sound.1 (toW .passage (by decide)) (linePart_of_frame toW (by decide))
    · rw [read]
    · rw [read, show w.pins = s.pins from toW .pins (by decide)]
      exact paper_of_runs sound

end Sys2Proof.Machine

namespace Sys2Proof.Machine

/-! ### Groups within the budget (R150, R152) -/

theorem rowsOf_length (pattern : Rows) : (rowsOf pattern).length = ((List.range 7).filter pattern.getLsbD).length := by
  rw [rowsOf, List.length_filterMap_eq_countP, List.countP_eq_length_filter]
  refine congrArg (fun p => ((List.range 7).filter p).length) (funext fun i => ?_)
  cases pattern.getLsbD i <;> rfl

/-- A bit of the pattern of a list of rows is the bit of one of them. -/
theorem mem_of_patternOf_getLsbD {rows : List Nat} {i : Nat} (set : (patternOf rows).getLsbD i = true) :
    i ∈ rows.map (· - 1) := by
  have folded : ∀ (rows : List Nat) (acc : Rows),
      (rows.foldl (fun acc r => acc ||| BitVec.twoPow 7 (r - 1)) acc).getLsbD i = true →
      acc.getLsbD i = true ∨ i ∈ rows.map (· - 1) := by
    intro rows
    induction rows with
    | nil => exact fun acc h => .inl h
    | cons r rest ih =>
      intro acc h
      rw [List.map_cons, List.mem_cons]
      rcases ih _ h with either | later
      · rw [BitVec.getLsbD_or, Bool.or_eq_true, BitVec.getLsbD_twoPow, Bool.and_eq_true, decide_eq_true_iff,
          decide_eq_true_iff] at either
        rcases either with held | ⟨_, same⟩
        · exact .inl held
        · exact .inr (.inl same.symm)
      · exact .inr (.inr later)
  rcases folded rows 0 set with zero | mem
  · simp at zero
  · exact mem

theorem rowsOf_patternOf_length (rows : List Nat) : (rowsOf (patternOf rows)).length ≤ rows.length := by
  rw [rowsOf_length, ← List.length_map (f := (· - 1)) (as := rows)]
  refine (List.Nodup.subperm (List.nodup_range.filter _) fun i mem => ?_).length_le
  exact mem_of_patternOf_getLsbD (List.mem_filter.1 mem).2

/-- R150: no group holds more dots than the budget. -/
theorem dotGroups_within (pattern : Rows) (budget : Nat) :
    ∀ g ∈ dotGroups pattern budget, (rowsOf g).length ≤ budget := by
  intro g mem
  obtain ⟨k, _, rfl⟩ := List.mem_map.1 mem
  exact (rowsOf_patternOf_length _).trans (List.length_take_le _ _)

/-- R152: a release drives no further line. -/
theorem rowsOf_and_length (a b : Rows) : (rowsOf (a &&& b)).length ≤ (rowsOf a).length := by
  rw [rowsOf_length, rowsOf_length]
  refine (List.monotone_filter_right _ fun i set => ?_).length_le
  rw [BitVec.getLsbD_and, Bool.and_eq_true] at set
  exact set.1

/-! ### The Dot Firing Unit (R136 to R143, R152, R155) -/

section
variable {s : State}

/-- The unit moves on within its operation. -/
theorem printerRuns_onDot {f : DotFiring → DotFiring} (sound : printerRuns s) (busy : s.dot.state ≠ .idle)
    (stays : (f s.dot).state ≠ .idle) (stopping : (f s.dot).stopping = s.dot.stopping)
    (ends : s.dot.stopping = true → (f s.dot).state = .firing ∨ ∃ made, (f s.dot).state = .backStep made)
    (strobes : strobesSound (s.onDot f)) : printerRuns (s.onDot f) := by
  obtain ⟨started, tabs, carriage, ⟨prints, works, _⟩, _⟩ := sound
  refine ⟨started, tabs, carriage, ⟨fun h => ⟨stays, stopping.trans (prints h).2⟩, fun _ => ?_, fun h => ?_⟩, strobes⟩
  · exact (works busy).imp id fun ⟨seek, stops, waits⟩ => ⟨seek, stopping.trans stops, waits⟩
  · exact ends (stopping.symm.trans h)

/-- R155: outside a PRINTING operation the unit may stop. -/
theorem dotToIdle_runs (sound : printerRuns s) (other : s.carriage.state ≠ .printing) : printerRuns (dotToIdle s) := by
  obtain ⟨started, tabs, carriage, _⟩ := sound
  exact ⟨started, tabs, carriage, firingSound_of_rest rfl rfl other, strobesSound_of_quiet rfl rfl⟩

/-- A unit at work that RESTART does not stop prints. -/
theorem printing_of_busy (sound : printerRuns s) (busy : s.dot.state ≠ .idle) (going : s.dot.stopping = false) :
    s.carriage.state = .printing := by
  obtain ⟨_, _, _, ⟨_, works, _⟩, _⟩ := sound
  rcases works busy with printing | ⟨_, stops, _⟩
  · exact printing
  · rw [going] at stops; cases stops

/-- R155: RESTART stops the unit in a back step or in FIRING alone. -/
theorem going_of_runs (sound : printerRuns s) (notFiring : s.dot.state ≠ .firing)
    (notStepping : ∀ made, s.dot.state ≠ .backStep made) : s.dot.stopping = false := by
  obtain ⟨_, _, _, ⟨_, _, ends⟩, _⟩ := sound
  refine Bool.eq_false_iff.2 fun stops => ?_
  rcases ends stops with firing | ⟨made, stepping⟩
  · exact notFiring firing
  · exact notStepping made stepping

/-- R152: outside FIRING no strobe line is driven and no group is left. -/
theorem quiet_of_runs (sound : printerRuns s) (notFiring : s.dot.state ≠ .firing) :
    s.dot.strobes = 0 ∧ s.dot.groups = [] := quiet_of_strobesSound (strobes_of_runs sound) notFiring

theorem columnStep_runs (column : Nat) (sound : printerRuns s) (busy : s.dot.state ≠ .idle)
    (going : s.dot.stopping = false) (quiet : s.dot.strobes = 0 ∧ s.dot.groups = []) :
    printerRuns (columnStep column s) :=
  printerRuns_onDot sound busy nofun rfl (fun stops => by rw [going] at stops; cases stops)
    (strobesSound_of_quiet quiet.1 quiet.2)

/-- R120, R141: the cell ends, with the position within 0 to 80. -/
theorem endCell_runs (sound : printerRuns s) (printing : s.carriage.state = .printing) : printerRuns (endCell s) := by
  obtain ⟨noSeek, notStopping⟩ := noSeek_of_runs sound (by rw [printing]; nofun)
  obtain ⟨p, at_p, inside⟩ := located_of_runs sound (by rw [printing]; nofun) (by rw [printing]; nofun)
  have further : positionAfterCell p ≤ 80 := by
    unfold positionAfterCell
    split <;> omega
  refine Between.endOperation_runs ⟨sound.1, tabs_of_runs (s := s) sound,
    ⟨_, congrArg (Option.map positionAfterCell) at_p, further⟩, later_of_runs (s := s) sound, noSeek, notStopping,
    paper_of_runs (s := s) sound, rfl, rfl, rfl, rfl⟩

theorem endDwell_runs (sound : printerRuns s) (busy : s.dot.state ≠ .idle) (going : s.dot.stopping = false)
    (quiet : s.dot.strobes = 0 ∧ s.dot.groups = []) : printerRuns (endDwell s) := by
  unfold endDwell
  split
  · exact columnStep_runs _ sound busy going quiet
  · exact endCell_runs sound (printing_of_busy sound busy going)

/-- R143, R155: the firing of a column ends. -/
theorem endFiring_runs (sound : printerRuns s) (busy : s.dot.state ≠ .idle)
    (quiet : s.dot.strobes = 0 ∧ s.dot.groups = []) : printerRuns (endFiring s) := by
  have ⟨_, _, _, ⟨prints, _⟩, _⟩ := sound
  unfold endFiring
  split
  · next stops =>
    refine dotToIdle_runs sound fun printing => ?_
    rw [(prints printing).2] at stops
    cases stops
  · next goes =>
    have going : s.dot.stopping = false := Bool.eq_false_iff.2 goes
    let x := s.onDot fun d => { d with history := d.glyph.column d.column }
    have dwells : printerRuns (x.onDot fun d => { d with state := .dwell }) :=
      printerRuns_onDot (s := x) sound busy nofun rfl (fun stops => absurd (going.symm.trans stops) nofun)
        (strobesSound_of_quiet quiet.1 quiet.2)
    show printerRuns (enterDwell x)
    unfold enterDwell
    split
    · exact endDwell_runs dwells nofun going quiet
    · exact dwells

theorem beginFiring_runs (sound : printerRuns s) (settles : s.dot.state = .settle) : printerRuns (beginFiring s) := by
  have busy : s.dot.state ≠ .idle := by rw [settles]; nofun
  have quiet := quiet_of_runs sound (by rw [settles]; nofun)
  have going := going_of_runs sound (by rw [settles]; nofun) (by rw [settles]; nofun)
  have within := dotGroups_within (s.dot.glyph.column s.dot.column) s.dot.inputs.budget
  unfold beginFiring
  split
  · exact endFiring_runs sound busy quiet
  · next groups =>
    cases cut : dotGroups (s.dot.glyph.column s.dot.column) s.dot.inputs.budget with
    | nil => exact absurd cut groups
    | cons g rest =>
      rw [cut] at within
      obtain ⟨first, others⟩ := List.forall_mem_cons.1 within
      exact printerRuns_onDot (s := s) (f := fun d => { d with state := .firing, strobes := g, groups := rest }) sound
        busy nofun rfl (fun stops => absurd (going.symm.trans stops) nofun) ⟨fun _ => rfl, first, others⟩

theorem startGroup_runs (sound : printerRuns s) (firing : s.dot.state = .firing) : printerRuns (startGroup s) := by
  have ⟨_, _, _, _, _, _, within⟩ := sound
  unfold startGroup
  split
  · exact sound
  · next g rest groups =>
    rw [groups] at within
    obtain ⟨first, others⟩ := List.forall_mem_cons.1 within
    exact printerRuns_onDot sound (by rw [firing]; nofun) (by rw [firing]; nofun) rfl (fun _ => .inl firing)
      ⟨fun _ => firing, first, others⟩

theorem releaseStrobe_runs (row : Nat) (sound : printerRuns s) (firing : s.dot.state = .firing) :
    printerRuns (releaseStrobe row s) := by
  have ⟨_, _, _, _, _, lines, within⟩ := sound
  have busy : s.dot.state ≠ .idle := by rw [firing]; nofun
  have released : printerRuns (s.onDot fun d => { d with strobes := d.strobes &&& ~~~BitVec.twoPow 7 (row - 1) }) :=
    printerRuns_onDot sound busy busy rfl (fun _ => .inl firing)
      ⟨fun _ => firing, (rowsOf_and_length _ _).trans lines, within⟩
  unfold releaseStrobe
  dsimp only
  split
  · next quiet => exact endFiring_runs released busy quiet
  · exact released

theorem completeBackStep_runs {made : Nat} (sound : printerRuns s) (stepping : s.dot.state = .backStep made) :
    printerRuns (completeBackStep made s) := by
  have busy : s.dot.state ≠ .idle := by rw [stepping]; nofun
  have quiet := quiet_of_runs sound (by rw [stepping]; nofun)
  have ⟨_, _, _, ⟨prints, _⟩, _⟩ := sound
  unfold completeBackStep
  split
  · next stops =>
    refine dotToIdle_runs sound fun printing => ?_
    rw [(prints printing).2] at stops
    cases stops
  · next goes =>
    have going : s.dot.stopping = false := Bool.eq_false_iff.2 goes
    split
    · exact printerRuns_onDot sound busy nofun rfl (fun _ => .inr ⟨_, rfl⟩) (strobesSound_of_quiet quiet.1 quiet.2)
    · exact columnStep_runs 1 sound busy going quiet

theorem holdGlyph_runs (c1 c2 c3 c4 c5 : Byte) (sound : printerRuns s) : printerRuns (holdGlyph c1 c2 c3 c4 c5 s) := by
  unfold holdGlyph
  dsimp only
  split
  · next waits =>
    obtain ⟨_, settles, _⟩ := waits
    exact beginFiring_runs (s := s.onDot _) sound settles
  · exact sound

theorem expireColumn_runs (sound : printerRuns s) : printerRuns (expireColumn s) := by
  let x := s.onDot fun d => { d with columnTimer := none }
  have stopped : printerRuns x := sound
  unfold expireColumn
  dsimp only
  split
  · next dwells =>
    exact endDwell_runs stopped (by rw [show x.dot.state = .dwell from dwells]; nofun)
      (going_of_runs (s := s) sound (by rw [dwells]; nofun) (by rw [dwells]; nofun))
      (quiet_of_runs (s := s) sound (by rw [dwells]; nofun))
  · exact stopped

end

/-! ### Home seeks, entries, tab stops, the flush and RESTART (R121 to R127, R131, R133, R135) -/

section
variable (s : State)

/-- R131: a seek under way has the unit at rest. -/
theorem rests_of_seek {s : State} (sound : printerRuns s) (seeking : s.carriage.state = .homeSeek)
    (runs : s.carriage.seekTimer.isSome = true) : dotRests s.dot := by
  have ⟨_, _, ⟨_, _, _, _, _, _, _, seeks, _⟩, _⟩ := sound
  have notStopping : s.carriage.stopping = none := (seeks fun h => by rw [h] at runs; cases runs).2
  exact rests_of_runs sound (by rw [seeking]; nofun) notStopping

theorem seekFinds_keepsPrinter (seeking : s.carriage.state = .homeSeek) (runs : s.carriage.seekTimer.isSome = true) :
    KeepsPrinter s (seekFinds s) := by
  let w := s.onCarriage fun c => { c with position := some 0, seekTimer := none, stopping := none }
  have found : KeepsPrinter s (endOperation w) := by
    refine .of_runs (blocks := [.carriage, .dot, .arbiter, .attention])
      ((endOperation_frame w).after (by decide) ((onCarriage_frame s _).mono (by decide))) (by decide) (by simp [w])
      fun sound => ?_
    exact Between.endOperation_runs ⟨sound.1, tabs_of_runs (s := s) sound, ⟨0, rfl, by decide⟩,
      later_of_runs (s := s) sound, rfl, rfl, paper_of_runs (s := s) sound, rests_of_seek (s := s) sound seeking runs⟩
  exact found.then_eq (printerPart_endCommand _ _ _)

theorem seekFails_keepsPrinter (seeking : s.carriage.state = .homeSeek) (runs : s.carriage.seekTimer.isSome = true) :
    KeepsPrinter s (seekFails s) := by
  let x := s.onCarriage fun c => { c with state := .halted, position := none, seekTimer := none, stopping := none }
  let u := setCauses s.carriage.paper s.carriage.hot s.carriage.battery true x
  have failed : KeepsPrinter s u := by
    refine .of_runs (blocks := [.carriage, .attention])
      ((setCauses_frame _ _ _ _ x).after (by decide) ((onCarriage_frame s _).mono (by decide))) (by decide)
      (by simp [u, x]) fun sound => ?_
    obtain ⟨idle, still, lines, groups⟩ := rests_of_seek sound seeking runs
    have caused : (s.carriage.paper || s.carriage.hot || s.carriage.battery || true) = true := Bool.or_true _
    rw [show u = _ from setCauses_eq x _ _ _ _]
    exact ⟨sound.1, tabs_of_runs (s := s) sound,
      ⟨rfl, fun _ => .inr ⟨rfl, rfl⟩, nofun, nofun, later_of_runs (s := s) sound, nofun, fun _ => caused,
        fun h => absurd rfl h, fun h => absurd rfl h, paper_of_runs (s := s) sound⟩,
      firingSound_of_rest idle still nofun, strobesSound_of_quiet lines groups⟩
  exact failed.then_eq (printerPart_endCommand _ _ _)

theorem beginSeek_keepsPrinter (idle : s.dot.state = .idle) :
    KeepsPrinter s (beginSeek s) := by
  refine .of_runs (beginSeek_frame s) (by decide) rfl fun sound => ?_
  obtain ⟨lines, groups⟩ := quiet_of_runs sound (by rw [idle]; nofun)
  have still := going_of_runs sound (by rw [idle]; nofun) (by rw [idle]; nofun)
  exact ⟨sound.1, tabs_of_runs (s := s) sound,
    ⟨rfl, fun _ => .inl rfl, fun _ => rfl, nofun, later_of_runs (s := s) sound, nofun, nofun, fun _ => ⟨rfl, rfl⟩,
      fun h => absurd rfl h, paper_of_runs (s := s) sound⟩,
    firingSound_of_rest idle still nofun, strobesSound_of_quiet lines groups⟩

/-- R123: the operation may begin at `p`: a motion ends within the line. -/
def Operation.mayBegin (p : Nat) (stops : List Nat) : Operation → Prop
  | .space => p < 80
  | .tab => (tabTarget p stops).isSome = true
  | _ => True

/-- R122 to R124: the first operation of an entry may begin, and the others may follow it. -/
theorem operationsOf_cons {e : PrintEntry} {p : Nat} {wrap crImpliesLf : Bool} {stops : List Nat} {first : Operation}
    {rest : List Operation} (begins : operationsOf e p wrap crImpliesLf stops = first :: rest) :
    first.mayBegin p stops ∧ ∀ op ∈ rest, op.mayFollow = true := by
  have prints : ∀ glyph, printOperations glyph p wrap = first :: rest →
      first.mayBegin p stops ∧ ∀ op ∈ rest, op.mayFollow = true := fun glyph h => by
    unfold printOperations at h
    split at h
    · cases h
      exact ⟨trivial, by simp [Operation.mayFollow]⟩
    · cases h
      exact ⟨trivial, nofun⟩
  cases e with
  | errorGlyph => exact prints _ begins
  | feed =>
    cases begins
    exact ⟨trivial, nofun⟩
  | character code =>
    simp only [operationsOf] at begins
    split at begins
    · exact prints _ begins
    split at begins
    · split at begins
      · next room => cases begins; exact ⟨room, nofun⟩
      · cases begins
    split at begins
    · split at begins
      · cases begins; exact ⟨trivial, nofun⟩
      · cases begins
    split at begins
    · split at begins
      · next ahead => cases begins; exact ⟨ahead, nofun⟩
      · cases begins
    split at begins
    · split at begins
      · cases begins; exact ⟨trivial, by simp [Operation.mayFollow]⟩
      · cases begins; exact ⟨trivial, nofun⟩
    split at begins
    · cases begins; exact ⟨trivial, nofun⟩
    · cases begins

/-- R123: a tab ends at a stop, or at 79. -/
theorem tabTarget_le {p target : Nat} {stops : List Nat} (inside : ∀ cell ∈ stops, 1 ≤ cell ∧ cell ≤ 79)
    (found : tabTarget p stops = some target) : target ≤ 80 := by
  rcases tabTarget_cases p stops with ⟨stop, h, held, _⟩ | ⟨_, h⟩
  · obtain rfl := Option.some.inj (h.symm.trans found)
    have := (inside stop held).2
    omega
  · rw [h] at found
    split at found
    · obtain rfl := Option.some.inj found
      decide
    · cases found

/-- R121: from between two operations an operation that may begin does. -/
theorem Between.beginOperation_runs {w : State} (b : Between w) {op : Operation} {p : Nat}
    (at_p : w.carriage.position = some p) (may : op.mayBegin p w.carriage.tabStops) : printerRuns (beginOperation op w) := by
  have inside : p ≤ 80 := by
    obtain ⟨q, at_q, within⟩ := b.located
    exact Option.some.inj (at_p.symm.trans at_q) ▸ within
  have here : w.carriage.position.getD 0 = p := congrArg (·.getD 0) at_p
  have moves : ∀ target, target ≤ 80 → printerRuns (startMotion p target w) := fun target within =>
    b.runs ⟨rfl, rfl, rfl, rfl, b.later, .moving rfl within rfl⟩
  unfold beginOperation
  rw [here]
  cases op with
  | space => exact moves _ may
  | backspace => exact moves _ (by omega)
  | tab =>
    obtain ⟨target, found⟩ := Option.isSome_iff_exists.1 may
    have ends : (tabTarget p w.carriage.tabStops).getD p ≤ 80 := by
      rw [found]
      obtain ⟨_, inside, _⟩ := b.tabs
      exact tabTarget_le inside found
    exact moves _ ends
  | carriageReturn => exact b.runs ⟨rfl, rfl, rfl, rfl, b.later, .returning rfl rfl⟩
  | feed => exact b.runs ⟨rfl, rfl, rfl, rfl, b.later, .feeding rfl rfl⟩
  | print glyph =>
    let x := w.onCarriage fun c => { c with state := .printing }
    have frame := handOver_frame glyph (p = 80) x
    have carriage : (handOver glyph (p = 80) x).carriage = x.carriage := frame .carriage (by decide)
    have line : linePart (handOver glyph (p = 80) x) = linePart w :=
      (linePart_beginOperation w (.print glyph)).symm ▸ by
        show _ = linePart (handOver glyph (w.carriage.position.getD 0 = 80) x)
        rw [here]
    refine b.runs ⟨by rw [carriage]; rfl, frame .passage (by decide), frame .pins (by decide), line,
      by rw [carriage]; exact b.later, .printing (by rw [carriage]; rfl) glyph (p = 80) (handOver_blocks x glyph _).1⟩

theorem handleEntry_keepsPrinter (e : PrintEntry) (ready : s.carriage.state = .ready) :
    KeepsPrinter s (handleEntry e s) := by
  let v := ringBell e s
  have bell : changesOnly [.tones] s v := ringBell_frame e s
  have rung : printerPart v = printerPart s :=
    printerPart_of_line bell (by decide) (by show linePart (ringBell e s) = _; unfold ringBell; split <;> simp)
  have carriage : v.carriage = s.carriage := bell .carriage (by decide)
  let ops := operationsOf e (s.carriage.position.getD 0) s.carriage.wrap s.receiver.options.crImpliesLf s.carriage.tabStops
  have frame : changesOnly [.carriage, .dot, .arbiter, .attention, .tones] s (beginOperations ops v) :=
    (beginOperations_frame v ops).after (by decide) (bell.mono (by decide))
  refine .of_runs (t := beginOperations ops v) frame (by decide) (setupValues_handleEntry s e) fun sound => ?_
  have runs : printerRuns v := (printerRuns_congr rung).2 sound
  cases begins : ops with
  | nil => exact (printerRuns_congr (printerPart_judgePrintIdle v)).2 runs
  | cons first rest =>
    obtain ⟨may, later⟩ := operationsOf_cons begins
    have state : v.carriage.state = .ready := by rw [carriage]; exact ready
    obtain ⟨p, at_p, inside⟩ := located_of_runs runs (by rw [state]; nofun) (by rw [state]; nofun)
    obtain ⟨noSeek, notStopping⟩ := noSeek_of_runs runs (by rw [state]; nofun)
    have here : s.carriage.position.getD 0 = p := by rw [← carriage, at_p]; rfl
    rw [here, ← carriage] at may
    exact Between.beginOperation_runs (w := v.onCarriage fun c => { c with pending := rest })
      ⟨runs.1, tabs_of_runs (s := v) runs, ⟨p, at_p, inside⟩, later, noSeek, notStopping, paper_of_runs (s := v) runs,
        rests_of_runs (s := v) runs (by rw [state]; nofun) notStopping⟩ at_p may

/-- R126: an edit of the tab stops that keeps them ordered. -/
theorem tabStops_keepsPrinter {f : List Nat → List Nat}
    (ordered : tabsOrdered s → tabsOrdered (s.onCarriage fun c => { c with tabStops := f c.tabStops })) :
    KeepsPrinter s (s.onCarriage fun c => { c with tabStops := f c.tabStops }) :=
  .of_runs (onCarriage_frame s _) (by decide) rfl fun ⟨started, tabs, rest⟩ => ⟨started, ordered tabs, rest⟩

theorem addStop_keepsPrinter {cell : Nat} (legal : isTabCell cell = true) (fits : stopFits cell s = true) :
    KeepsPrinter s (addStop cell s) := by
  refine tabStops_keepsPrinter s (f := insertStop cell) fun ⟨ordered, inside, room⟩ => ?_
  refine ⟨insertStop_pairwise cell ordered, fun c mem => ?_, ?_⟩
  · rcases (mem_insertStop cell c _).1 mem with rfl | held
    · exact (isTabCell_iff c).1 legal
    · exact inside c held
  · show (insertStop cell s.carriage.tabStops).length ≤ Config.tabStopCapacity
    rcases (stopFits_iff cell s).1 fits with held | few
    · rw [insertStop_of_mem ordered held]
      exact room
    · exact (insertStop_length _ _).trans few

theorem removeStop_keepsPrinter (cell : Nat) : KeepsPrinter s (removeStop cell s) :=
  tabStops_keepsPrinter s (f := List.filter (· ≠ cell)) fun ⟨ordered, inside, room⟩ =>
    ⟨ordered.filter _, fun c mem => inside c (List.mem_of_mem_filter mem), (List.length_filter_le _ _).trans room⟩

theorem clearStops_keepsPrinter : KeepsPrinter s (clearStops s) :=
  tabStops_keepsPrinter s (f := fun _ => []) fun _ => ⟨.nil, nofun, Nat.zero_le _⟩

theorem flushPrintQueue_keepsPrinter : KeepsPrinter s (flushPrintQueue s) := by
  let x := (s.onCarriage fun c => { c with queue := [], pending := [] }).onSwitch fun c => { c with freedPlace := false }
  have emptied : KeepsPrinter s x := by
    refine ⟨id, rfl, fun ⟨started, tabs, ⟨inside, lost, seeking, target, _, ready, rest⟩, unit⟩ => ?_⟩
    exact ⟨started, tabs, ⟨inside, lost, seeking, target, nofun, fun h => ⟨rfl, (ready h).2⟩, rest⟩, unit⟩
  exact emptied.then_eq (printerPart_judgePrintIdle x)

/-- R135, R155, R182, R183: RESTART at the printer. -/
theorem restartPrinter_keepsPrinter : KeepsPrinter s (restartFiring (restartCarriage s)) := by
  let x := restartCarriage s
  let y := dropRequest .font x
  have dropped : printerPart y = printerPart x := printerPart_dropRequest x (by decide)
  have toX : changesOnly [.carriage, .switch] s x :=
    (onSwitch_frame _ _).after (by decide) ((onCarriage_frame s _).mono (by decide))
  have toY : changesOnly [.carriage, .switch, .arbiter] s y :=
    (dropRequest_frame _ x).after (by decide) (toX.mono (by decide))
  have frame : changesOnly [.carriage, .switch, .arbiter, .dot] s (restartDot y) :=
    (restartDot_frame y).after (by decide) (toY.mono (by decide))
  have setup : setupValues (restartDot y) = setupValues s :=
    ((setupValues_restartDot y).trans (setupValues_of_part dropped)).trans rfl
  refine .of_runs (t := restartDot y) frame (by decide) setup fun sound => ?_
  have dot : y.dot = s.dot := toY .dot (by decide)
  have carriage : y.carriage = x.carriage := dropRequest_frame _ x .carriage (by decide)
  have seeking : y.carriage.state = .homeSeek := by rw [carriage]; rfl
  have started : startedUp y := by
    refine startedUp_of_line sound.1 (toY .passage (by decide)) ?_
    exact (linePart_dropRequest x (by decide)).trans (linePart_of_frame toX (by decide))
  have tabs : tabsOrdered y := by
    rw [tabsOrdered, carriage]
    exact tabs_of_runs (s := s) sound
  have seeks : carriageSound y := by
    rw [carriageSound, carriage]
    refine ⟨rfl, fun _ => .inl rfl, fun _ => rfl, nofun, nofun, nofun, nofun, fun runs => ⟨rfl, ?_⟩, fun _ => rfl,
      fun runs => absurd rfl runs⟩
    by_cases waits : (operationUnderWay s.carriage).or s.carriage.stopping = none
    · exact waits
    · exact absurd (if_neg waits) runs
  have stoppedRuns : printerRuns (dotToIdle y) :=
    ⟨started, tabs, seeks, firingSound_of_rest rfl rfl (by show y.carriage.state ≠ _; rw [seeking]; nofun),
      strobesSound_of_quiet rfl rfl⟩
  have finishes : y.dot.state = .firing ∨ (∃ made, y.dot.state = .backStep made) →
      printerRuns (y.onDot fun d => { d with stopping := true }) := fun works => by
    have busy : s.dot.state ≠ .idle := by
      rw [← dot]
      rcases works with firing | ⟨made, stepping⟩
      · rw [firing]; nofun
      · rw [stepping]; nofun
    have waits : y.carriage.stopping = some .printing := by
      rw [carriage]
      show (operationUnderWay s.carriage).or s.carriage.stopping = some .printing
      have ⟨_, _, _, ⟨_, works, _⟩, _⟩ := sound
      rcases works busy with printing | ⟨seek, _, stopping⟩
      · simp [operationUnderWay, printing]
      · simp [operationUnderWay, seek, stopping]
    have strobes : strobesSound y := by
      rw [strobesSound, dot]
      exact strobes_of_runs sound
    refine ⟨started, tabs, seeks, ⟨fun printing => ?_, fun _ => .inr ⟨seeking, rfl, waits⟩, fun _ => works⟩, strobes⟩
    have no : y.carriage.state = .printing := printing
    rw [seeking] at no
    cases no
  unfold restartDot
  split
  · exact stoppedRuns
  · exact stoppedRuns
  · exact stoppedRuns
  · next made stepping => exact finishes (.inr ⟨made, stepping⟩)
  · next firing => exact finishes (.inl firing)

end
end Sys2Proof.Machine

namespace Sys2Proof.Machine

section
variable (s : State)

/-! ### The printer's part in local functions, in the line and in the Dot Firing Unit's commands -/

theorem receiveBreak_keepsPrinter : KeepsPrinter s (receiveBreak s) := by
  let marked := if joinedRing s.switch.lineIn s then offerRecord (plainRecord .breakMarker 0) (raise .breakIn s)
    else raise .breakIn s
  have marks : printerPart marked = printerPart s := by
    dsimp only [marked]
    split
    · exact (printerPart_offerRecord _ _).trans rfl
    · rfl
  have flushed : KeepsPrinter s (if s.receiver.options.breakFlushesPrint then flushPrintQueue marked else marked) :=
    .ite (fun _ => (flushPrintQueue_keepsPrinter marked).from_eq marks) fun _ => .of_eq marks
  exact flushed.then_eq ((printerPart_clearRemotePause _).trans (printerPart_abortAnswerback _))

theorem advanceFramer_keepsPrinter (tone : Tone) : KeepsPrinter s (advanceFramer tone s) := by
  unfold advanceFramer
  split
  · exact .of_eq rfl
  · exact .of_eq ((printerPart_judgeFrame _ _).trans rfl)
  · exact (receiveBreak_keepsPrinter _).from_eq rfl

theorem sampleLine_keepsPrinter (line : LineInput) : KeepsPrinter s (sampleLine line s) := by
  unfold sampleLine lineSample
  refine .ite (fun _ => .refl s) fun _ => ?_
  refine KeepsPrinter.then_eq ?_ (printerPart_settle _)
  refine KeepsPrinter.from_eq ?_ (printerPart_recordSample s (heard line s.receiver).energy)
  refine .ite (fun _ => ?_) fun _ => .ite (fun _ => .of_eq (by simp)) fun _ =>
    .ite (fun _ => advanceFramer_keepsPrinter _ _) fun _ => .refl _
  unfold carrierArrives
  dsimp only
  split
  · exact .of_eq rfl
  · exact (advanceFramer_keepsPrinter _ _).from_eq rfl
  · exact .of_eq rfl

/-- R43, R46: TAB SET acts where SET-TAB would. -/
theorem tabSetFunction_keepsPrinter : KeepsPrinter s (tabSetFunction s) := by
  unfold tabSetFunction
  split
  · refine .ite (fun taken => ?_) fun _ => .of_eq (by simp)
    obtain ⟨legal, fits⟩ := Bool.and_eq_true_iff.1 taken
    exact addStop_keepsPrinter s legal fits
  · exact .of_eq (by simp)

theorem tabClearFunction_keepsPrinter : KeepsPrinter s (tabClearFunction s) := by
  unfold tabClearFunction
  split
  · exact removeStop_keepsPrinter s _
  · exact .refl s

/-- A local function records itself, acts, and its event leaves the key queue. -/
theorem localFunction_keepsPrinter (code : Byte) {act : State → State} (acts : ∀ t, KeepsPrinter t (act t)) :
    KeepsPrinter s (finishEvent (act (recordFunction code s))) :=
  ((acts _).from_eq (printerPart_recordFunction s code)).then_eq (printerPart_finishEvent _)

/-- R42: of the keys only the three of the tab stops move the printer. -/
theorem actOnCode_keepsPrinter (code : Byte) : KeepsPrinter s (actOnCode code s) := by
  unfold actOnCode
  split
  · exact .of_eq (by simp)
  · exact .of_eq rfl
  · exact localFunction_keepsPrinter s code fun t => .of_eq (by simp)
  · exact localFunction_keepsPrinter s code fun t => .of_eq (by simp)
  · exact localFunction_keepsPrinter s code fun t => .of_eq (by simp)
  · exact localFunction_keepsPrinter s code tabSetFunction_keepsPrinter
  · exact localFunction_keepsPrinter s code tabClearFunction_keepsPrinter
  · exact localFunction_keepsPrinter s code clearStops_keepsPrinter
  · exact .ite (fun _ => .of_eq (by simp)) fun _ => .of_eq rfl
  · exact localFunction_keepsPrinter s code fun t => .of_eq (by simp)
  · exact localFunction_keepsPrinter s code fun t => .of_eq rfl

theorem translate_keepsPrinter (data : Byte) : KeepsPrinter s (translate data s) := by
  unfold translate
  split
  · exact .refl s
  · exact actOnCode_keepsPrinter s _

/-- A step of the Dot Firing Unit leaves the line and the setup values alone. -/
theorem KeepsPrinter.of_line {s t : State} (line : linePart t = linePart s) (setup : setupValues t = setupValues s)
    (runs : printerRuns s → printerRuns t) : KeepsPrinter s t :=
  ⟨(setupInRange_congr setup).2, congrArg LinePart.startUp line, runs⟩

theorem expireColumn_keepsPrinter : KeepsPrinter s (expireColumn s) := by
  refine .of_line ?_ (by simp) expireColumn_runs
  unfold expireColumn
  dsimp only
  split <;> simp

theorem endSettle_keepsPrinter (settles : s.dot.state = .settle) : KeepsPrinter s (endSettle s) := by
  let x := s.onDot fun d => { d with settleTimer := none }
  have stopped : KeepsPrinter s x := .of_line rfl rfl id
  have begun : KeepsPrinter x (beginFiring x) :=
    .of_line (linePart_beginFiring x) (setupValues_beginFiring x) fun sound => beginFiring_runs sound settles
  exact .ite (fun _ => stopped) fun _ => (stopped.trans begun).then_eq (printerPart_settle _)

/-! ### Commands -/

theorem setTabEffect_keepsPrinter : KeepsPrinter s (setTabEffect s) := by
  refine .ite (fun legal => ?_) fun _ => .of_eq rfl
  exact .ite (fun fits => (addStop_keepsPrinter s legal fits).then_eq rfl) fun _ => .of_eq rfl

theorem clearTabEffect_keepsPrinter : KeepsPrinter s (clearTabEffect s) :=
  .ite (fun _ => (removeStop_keepsPrinter s _).then_eq rfl) fun _ => .of_eq rfl

/-- R182, R183: of the parts of RESTART those at the carriage and the Dot Firing Unit move the printer. -/
theorem restartEffect_keepsPrinter : KeepsPrinter s (restartEffect s) := by
  let quieted := restartTones (restartKeyboard (restartRings (abortAnswerback (enterIdle (startCommand .restart s)))))
  have rings : ∀ t, printerPart (restartRings t) = printerPart t := fun t =>
    (printerPart_dropRequest _ (by decide)).trans ((printerPart_dropRequest _ (by decide)).trans rfl)
  have keyboard : ∀ t, printerPart (restartKeyboard t) = printerPart t := fun t =>
    (printerPart_discardTranslation _).trans rfl
  have quiet : printerPart quieted = printerPart s :=
    Eq.trans (b := printerPart (restartKeyboard (restartRings (abortAnswerback (enterIdle (startCommand .restart s)))))) rfl
      (by rw [keyboard, rings, printerPart_abortAnswerback, printerPart_enterIdle]; rfl)
  exact ((restartPrinter_keepsPrinter quieted).from_eq quiet).then_eq rfl

theorem takeCommand_keepsPrinter (code : Byte) : KeepsPrinter s (takeCommand code s) := by
  refine KeepsPrinter.from_eq (t := s.onCommand fun c => { c with last := code }) ?_ rfl
  unfold takeCommand
  dsimp only
  split
  · exact .of_eq (by simp)
  · exact .of_eq (by simp)
  · exact .of_eq (by simp)
  · exact .of_eq (by simp)
  · exact .of_eq (by simp)
  · exact .of_eq (by simp)
  · exact (flushPrintQueue_keepsPrinter _).then_eq rfl
  · exact .of_eq (by simp)
  · exact setTabEffect_keepsPrinter _
  · exact clearTabEffect_keepsPrinter _
  · exact (clearStops_keepsPrinter _).then_eq rfl
  · exact restartEffect_keepsPrinter _
  · exact .of_eq (by simp)

/-! ### Setup writes -/

theorem clamp_within {low high : Nat} (proper : low ≤ high) (n : Nat) :
    low ≤ clamp low high n ∧ clamp low high n ≤ high :=
  ⟨Nat.le_max_left _ _, Nat.max_le.2 ⟨proper, Nat.min_le_right _ _⟩⟩

/-- R24: a ring byte is taken or refused; a size code stays in its range. -/
theorem writeRingPlacement_keepsPrinter (byte : RingByte) (data : Byte) :
    KeepsPrinter s (writeRingPlacement byte data s) := by
  have receive : ∀ f : Rings → Rings, (setupInRange s → setupInRange (s.onRings fun r =>
      { f r with receiveHead := 0, receiveTail := 0, lossMark := false })) → KeepsPrinter s (placeReceive f s) :=
    fun f range => .ite (fun _ => ⟨range, rfl, id⟩) fun _ => .of_eq rfl
  have send : ∀ f : Rings → Rings, (setupInRange s → setupInRange (s.onRings fun r =>
      { f r with sendHead := 0, sendTail := 0 })) → KeepsPrinter s (placeSend f s) :=
    fun f range => .ite (fun _ => ⟨range, rfl, id⟩) fun _ => .of_eq rfl
  cases byte with
  | receiveBaseLow | receiveBaseHigh => exact receive _ id
  | sendBaseLow | sendBaseHigh => exact send _ id
  | receiveSize =>
    refine receive _ fun ⟨notify, room, _, rest⟩ => ⟨notify, room, ?_, rest⟩
    exact (clamp_within (Nat.zero_le 4) data.toNat).2
  | sendSize =>
    refine send _ fun ⟨notify, room, receives, _, rest⟩ => ⟨notify, room, receives, ?_, rest⟩
    exact (clamp_within (Nat.zero_le 5) data.toNat).2

end
end Sys2Proof.Machine

namespace Sys2Proof.Machine

section
variable (s : State)

theorem writeLineSetup_keepsPrinter (data : Byte) : KeepsPrinter s (writeLineSetup data s) := by
  refine .ite (fun _ => ⟨fun range => ?_, rfl, id⟩) fun _ => .of_eq rfl
  have rate := (clamp_within (Nat.zero_le 3) (field data 1 3)).2
  have format : field data 4 3 ≤ 7 := Nat.le_of_lt_succ (Nat.mod_lt _ (by decide))
  simp only [setupInRange, State.onReceiver] at range ⊢
  omega

/-- R36: both codes are clamped to 3. -/
theorem writeRepeatCodes_keepsPrinter (data : Byte) : KeepsPrinter s (writeRepeatCodes data s) := by
  refine ⟨fun range => ?_, rfl, id⟩
  have delay := (clamp_within (Nat.zero_le 3) (field data 0 4)).2
  have rate := (clamp_within (Nat.zero_le 3) (field data 4 4)).2
  simp only [setupInRange, writeRepeatCodes, State.onKeyboard] at range ⊢
  omega

/-- R108: the length is clamped to 32. -/
theorem writeAnswerbackSetup_keepsPrinter (byte : AnswerbackByte) (data : Byte) :
    KeepsPrinter s (writeAnswerbackSetup byte data s) := by
  refine .ite (fun _ => .of_eq rfl) fun _ => ?_
  cases byte with
  | baseLow | baseHigh => exact .of_eq rfl
  | length =>
    refine ⟨fun range => ?_, rfl, id⟩
    have length := (clamp_within (Nat.zero_le 32) data.toNat).2
    simp only [setupInRange, State.onAnswerback, Config.answerbackMaxLength] at range ⊢
    omega

/-- R170: a setup value of a whole byte is clamped to its range as it is written. -/
theorem writeControl_keepsPrinter (offset : Offset) (data : Byte) : KeepsPrinter s (writeControl offset data s) := by
  have clamped := fun (low high : Nat) (proper : low ≤ high) => clamp_within proper data.toNat
  unfold writeControl
  split
  case h_1 => exact takeCommand_keepsPrinter s data
  case h_9 => exact writeLineSetup_keepsPrinter s data
  case h_10 => exact .ite (fun _ => .of_eq rfl) fun _ => .of_eq rfl
  case h_13 | h_14 | h_15 =>
    refine ⟨fun range => ?_, rfl, id⟩
    have qualify := clamped 1 25 (by decide)
    have fade := clamped 1 15 (by decide)
    have listen := clamped 1 12 (by decide)
    simp only [setupInRange, writeQualifyCode, writeFadeCode, writeListenCode, State.onReceiver] at range ⊢
    omega
  case h_16 | h_17 | h_28 | h_29 | h_33 =>
    refine ⟨fun range => ?_, rfl, id⟩
    have breaks := clamped 0 3 (by decide)
    have timeout := clamped 0 12 (by decide)
    have notify := clamped 1 127 (by decide)
    have pause := clamped 1 126 (by decide)
    have room := data.isLt
    simp only [setupInRange, writeBreakLength, writeTimeoutCode, writeNotifyLevel, writeRingPauseLevel, writeRoomLevel,
      State.onTransmitter, State.onFlow, State.onRings] at range ⊢
    omega
  case h_40 | h_41 =>
    refine ⟨fun range => ?_, rfl, id⟩
    have density := clamped 0 7 (by decide)
    have budget := clamped 1 7 (by decide)
    simp only [setupInRange, writeDensity, writeBudget, State.onDot] at range ⊢
    omega
  case h_21 | h_22 | h_23 | h_24 => exact .of_eq (printerPart_setRow s _ _)
  case h_25 | h_26 | h_27 | h_30 | h_31 | h_32 => exact writeRingPlacement_keepsPrinter s _ data
  case h_34 | h_35 => exact .of_eq ((printerPart_requestHeaderLoad _).trans rfl)
  case h_36 => exact writeRepeatCodes_keepsPrinter s data
  case h_37 => exact .ite (fun _ => .of_eq rfl) fun _ => .of_eq rfl
  case h_42 | h_43 | h_44 => exact writeAnswerbackSetup_keepsPrinter s _ data
  all_goals exact .of_eq rfl

/-! ### Host cycles, grants and what they carry -/

theorem passCycle_keepsPrinter (c : HostCycle) : KeepsPrinter s (passCycle c s) := by
  cases c with
  | read address data outcome =>
    cases outcome with
    | control offset =>
      exact .ite (fun _ => .of_eq ((printerPart_takeAttention _).trans rfl)) fun _ => .of_eq rfl
    | passed consume =>
      refine .ite (fun _ => .of_eq ?_) fun _ => .of_eq rfl
      rw [printerPart_settle, printerPart_consumeRecord]
      rfl
  | write address data outcome =>
    cases outcome with
    | commandBusy => exact .of_eq rfl
    | withheld cause => exact .of_eq rfl
    | control offset =>
      refine KeepsPrinter.then_eq ?_ (printerPart_settle _)
      exact (writeControl_keepsPrinter (driveMemory [.write address data] s) offset data).from_eq rfl
    | passed head entry => exact .of_eq ((printerPart_reportWrite _ head entry data).trans rfl)

/-- The arbiter bears on the printer by the start-up fetch alone. -/
theorem arbiter_keepsPrinter {f : Arbiter → Arbiter} (started : startedUp s → startedUp (s.onArbiter f)) :
    KeepsPrinter s (s.onArbiter f) :=
  ⟨id, rfl, fun ⟨start, rest⟩ => ⟨started start, rest⟩⟩

/-- R172: with no start-up fetch asked for, the grant that starts is another one. -/
theorem startNextGrant_keepsPrinter : KeepsPrinter s (startNextGrant s) := by
  have other : ∀ {f : Arbiter → Arbiter}, (f s.arbiter).startUp = s.arbiter.startUp →
      (f s.arbiter).grant ≠ some .startUp → KeepsPrinter s (s.onArbiter f) := fun same differs =>
    arbiter_keepsPrinter s fun ⟨released, asked, _⟩ => ⟨released, same.trans asked, differs⟩
  unfold startNextGrant
  cases found : firstWaiting s.arbiter with
  | none => exact .refl s
  | some r =>
    have waits : s.arbiter.wait r ≠ .absent := by simpa using List.find?_some found
    cases r with
    | startUp => exact arbiter_keepsPrinter s fun ⟨_, asked, _⟩ => absurd asked waits
    | receiveWriter =>
      dsimp only
      split
      · exact .refl s
      · exact other rfl nofun
    | keymap =>
      dsimp only
      unfold beginKeymapGrant
      split
      · exact .refl s
      · next read _ _ => exact other rfl (by cases read <;> nofun)
    | font | answerback | sendRing => exact other rfl nofun

theorem runCycle_keepsPrinter (c : HostCycle) : KeepsPrinter s (runCycle c s) :=
  .ite (fun _ => .of_eq rfl) fun _ =>
    .ite (fun _ => (startNextGrant_keepsPrinter _).from_eq rfl) fun _ => passCycle_keepsPrinter s c

theorem passHeld_keepsPrinter : KeepsPrinter s (passHeld s) := by
  unfold passHeld
  split
  · exact .refl s
  · next c _ =>
    have passed : KeepsPrinter s (passCycle c (s.onArbiter fun a => { a with held := none })) :=
      (passCycle_keepsPrinter _ c).from_eq rfl
    exact passed.then_eq rfl

/-- R171: a grant ends with its owner's action on the data. -/
theorem finishGrant_keepsPrinter (cycles : List MemCycle) {act : State → State} (acts : ∀ t, KeepsPrinter t (act t)) :
    KeepsPrinter s (finishGrant cycles act s) := by
  have ended : KeepsPrinter s (grantEnded cycles s) :=
    ⟨id, rfl, fun ⟨⟨released, asked, _⟩, rest⟩ => ⟨⟨released, asked, nofun⟩, rest⟩⟩
  exact ((ended.trans (acts _)).then_eq (printerPart_settle _)).trans (passHeld_keepsPrinter _)

theorem unlessDiscarded_keepsPrinter {act : State → State} (acts : ∀ t, KeepsPrinter t (act t)) (discarded : Bool)
    (t : State) : KeepsPrinter t (unlessDiscarded discarded act t) :=
  .ite (fun _ => .refl t) fun _ => acts t

/-- A grant whose owner's action may have been withdrawn by a discard. -/
theorem finishOther_keepsPrinter (cycles : List MemCycle) (discarded : Bool) {act : State → State}
    (acts : ∀ t, KeepsPrinter t (act t)) : KeepsPrinter s (finishGrant cycles (unlessDiscarded discarded act) s) :=
  finishGrant_keepsPrinter s cycles (unlessDiscarded_keepsPrinter acts discarded)

/-! ### What each command does to the printer -/

theorem KeepsPrinter.next {s t u : State} (h : Host.Outcome.next (φ := Fault) (ρ := Refusal) u = .next t)
    (hu : KeepsPrinter s u) : KeepsPrinter s t := Host.Outcome.next.inj h ▸ hu

theorem KeepsPrinter.ite_next {s t a b : State} {c : Prop} [Decidable c]
    (h : Host.Outcome.next (φ := Fault) (ρ := Refusal) (if c then a else b) = .next t)
    (ha : c → KeepsPrinter s a) (hb : ¬ c → KeepsPrinter s b) : KeepsPrinter s t := .next h (.ite ha hb)

theorem KeepsPrinter.settled {s u : State} (h : KeepsPrinter s u) : KeepsPrinter s (settle u) :=
  h.then_eq (printerPart_settle u)

/-- A command that gives one effect under its guard, with the judgement that ends its event, and is idle otherwise. -/
theorem KeepsPrinter.guarded {s t a : State} {c : Prop} [Decidable c]
    (h : Host.Outcome.next (φ := Fault) (ρ := Refusal) (if c then settle a else s) = .next t)
    (ha : c → KeepsPrinter s a) : KeepsPrinter s t :=
  .ite_next h (fun hc => (ha hc).settled) fun _ => .refl s

/-- R164, R165: the three commands that move the start-up. -/
def startsUp : Instr → Bool
  | .pinReset | .rstiRelease | .startUpFetch _ _ _ _ => true
  | _ => false

theorem startsUp_cases (i : Instr) : i = .pinReset ∨ i = .rstiRelease ∨
    (∃ o0 o1 mv md, i = .startUpFetch o0 o1 mv md) ∨ startsUp i = false := by
  cases i with
  | pinReset => exact .inl rfl
  | rstiRelease => exact .inr (.inl rfl)
  | startUpFetch o0 o1 mv md => exact .inr (.inr (.inl ⟨o0, o1, mv, md, rfl⟩))
  | _ => exact .inr (.inr (.inr rfl))

/-- Every command but the three of the start-up keeps what the printer promises. -/
theorem exec_keepsPrinter {t : State} {i : Instr} (runs : startsUp i = false) (h : exec i s = .next t) :
    KeepsPrinter s t := by
  cases hc : hostCycleOf i s with
  | some c =>
    rw [exec_of_hostCycleOf s hc] at h
    exact .ite_next h (fun _ => runCycle_keepsPrinter s c) fun _ => .refl s
  | none =>
    cases i with
    | pinReset | rstiRelease | startUpFetch => cases runs
    | carrierPresent low high | carrierAbsent low high | frameReceived low high | receivedBreak low high =>
      exact .ite_next h (fun _ => sampleLine_keepsPrinter s ⟨low, high⟩) fun _ => .refl s
    | lineSample low high => exact .next h (sampleLine_keepsPrinter s ⟨low, high⟩)
    | listenExpiry | fadeExpiry | qualifyExpiry => exact .guarded h fun _ => .of_eq (by simp)
    | frameStart | frameEnd | breakStart | postBreakEnd =>
      exact .ite_next h (fun _ => .of_eq (printerPart_bitBoundary s)) fun _ => .refl s
    | bitBoundary => exact .next h (.of_eq (printerPart_bitBoundary s))
    | breakTimerExpiry | remotePauseTimerExpiry | sounderTimerExpiry =>
      exact .ite_next h (fun _ => .of_eq rfl) fun _ => .refl s
    | synthesisSample => exact .ite_next h (fun _ => .refl s) fun _ => .of_eq rfl
    | flowCodePlaced =>
      refine .next h ?_
      split
      · exact .ite (fun _ => .settled (.of_eq rfl)) fun _ => .refl s
      · exact .refl s
    | take source =>
      refine .next h ?_
      split
      · exact .ite (fun _ => .settled (.of_eq (by simp))) fun _ => .refl s
      · exact .refl s
    | grantStart => exact .ite_next h (fun _ => startNextGrant_keepsPrinter s) fun _ => .refl s
    | waitTimerExpiry r =>
      refine .ite_next h (fun waiting => arbiter_keepsPrinter s fun ⟨released, absent, grant⟩ => ?_) fun _ => .refl s
      cases r with
      | startUp => rw [show s.arbiter.wait .startUp = .absent from absent] at waiting; cases waiting
      | _ => exact ⟨released, absent, grant⟩
    | translationRead data =>
      refine .next h ?_
      split
      · exact finishOther_keepsPrinter s _ _ fun t => translate_keepsPrinter t data
      · exact .refl s
    | glyphFetch c1 c2 c3 c4 c5 =>
      refine .next h ?_
      split
      · exact finishOther_keepsPrinter s _ _ fun t => .of_line (by simp) (by simp) (holdGlyph_runs c1 c2 c3 c4 c5)
      · exact .refl s
    | eligibilityRead data =>
      refine .next h ?_
      split
      · exact finishGrant_keepsPrinter s _ fun t => .of_eq ((printerPart_chooseRepeat _).trans rfl)
      · exact .refl s
    | receivePlacement =>
      refine .next h ?_
      split
      · exact finishOther_keepsPrinter s _ _ fun t => .of_eq (printerPart_advanceReceiveHead t)
      · exact .refl s
    | headerLoad | sendFetch | answerbackRead =>
      refine .next h ?_
      split
      · exact finishOther_keepsPrinter s _ _ fun t => .of_eq rfl
      · exact .refl s
    | scanPass readings =>
      refine .guarded h fun _ => ?_
      rw [scanPass_eq]
      exact .of_eq (printerPart_scanEnded s _)
    | repeatTimerExpiry => exact .ite_next h (fun _ => .of_eq (by simp)) fun _ => .refl s
    | feedAppend => exact .guarded h fun _ => .of_eq (by simp)
    | entryHandling =>
      refine .next h ?_
      split
      · exact .refl s
      · next e rest _ =>
        refine .ite (fun ready => .settled ?_) fun _ => .refl s
        exact (handleEntry_keepsPrinter (consumeEntry rest s) e ready).from_eq rfl
    | motionEnd => exact .guarded h (motionEnd_keepsPrinter s)
    | returnEnd home => exact .guarded h (endReturn_keepsPrinter s home)
    | feedEnd => exact .guarded h (feedEnd_keepsPrinter s)
    | paperOut =>
      refine .ite_next h (fun _ => .ite (fun _ => (losePaper_keepsPrinter s).settled) fun before => ?_) fun _ => .refl s
      exact ⟨id, rfl, fun ⟨⟨released, _⟩, _⟩ => absurd (decide_eq_true released) before⟩
    | paperPresent => exact .ite_next h (fun _ => .refl s) fun _ => paperPresent_keepsPrinter s
    | paperTimerExpiry => exact .guarded h fun _ => findPaper_keepsPrinter s
    | homeSeekStart => exact .ite_next h (fun ⟨_, _, idle⟩ => beginSeek_keepsPrinter s idle) fun _ => .refl s
    | homeFound => exact .guarded h fun ⟨seeking, runs⟩ => seekFinds_keepsPrinter s seeking runs
    | seekTimerExpiry => exact .guarded h fun ⟨seeking, runs⟩ => seekFails_keepsPrinter s seeking runs
    | backStep =>
      refine .next h ?_
      split
      · next stepping =>
        exact .of_line (by simp) (by simp) fun sound => completeBackStep_runs sound stepping
      · exact .refl s
    | settleExpiry => exact .ite_next h (fun settles => endSettle_keepsPrinter s settles.1) fun _ => .refl s
    | strobeRelease row =>
      exact .guarded h fun firing => .of_line (by simp) (by simp) fun sound => releaseStrobe_runs row sound firing.1
    | groupStart =>
      exact .ite_next h (fun firing => .of_line (by simp) (by simp) fun sound => startGroup_runs sound firing.1)
        fun _ => .refl s
    | columnTimerExpiry => exact .guarded h fun _ => expireColumn_keepsPrinter s
    | sensorReading mv md => exact .guarded h fun _ => sensorReading_keepsPrinter s mv md
    | maskWrite byte data | joinRowWrite byte data | ringPlacementWrite byte data | keymapBaseWrite byte data
    | answerbackSetupWrite byte data | headerCapture byte data => cases byte <;> cases hc
    | _ => cases hc

end
end Sys2Proof.Machine

namespace Sys2Proof.Machine

/-! ### Before the release of the host reset, and the release itself (R164, R165) -/

section
variable (s : State)

/-- R165: the blocks begin with a pair of readings in its range. -/
theorem beginBlocks_setup (millivolts : Nat) (millidegrees : Int) (range : setupInRange s) :
    setupInRange (beginBlocks millivolts millidegrees s) := by
  let scanning := requestHeaderLoad (s.onKeyboard fun k => { k with scanTimer := some Config.scanPeriod })
  have scans : setupValues scanning = setupValues s := (setupValues_of_part (printerPart_requestHeaderLoad _)).trans rfl
  refine (setupInRange_congr ?_).2 (takeReadings_setup scanning millivolts millidegrees ((setupInRange_congr scans).2 range))
  exact Eq.trans rfl (setupValues_setCauses _ _ _ _ _)

/-- R131, R165: a carriage that waits for its first seek begins it, with the causes as the sensors show them. -/
theorem beginBlocks_runs (millivolts : Nat) (millidegrees : Int) (sound : printerRuns s) (idle : s.dot.state = .idle)
    (seeking : s.carriage.state = .homeSeek) (noTimer : s.carriage.paperTimer = none) :
    printerRuns (beginBlocks millivolts millidegrees s) := by
  let scanning := requestHeaderLoad (s.onKeyboard fun k => { k with scanTimer := some Config.scanPeriod })
  let sensed := takeReadings millivolts millidegrees scanning
  let w := setCauses (!s.pins.paper) sensed.carriage.hot sensed.carriage.battery sensed.carriage.jam sensed
  have scans : changesOnly [.keyboard, .arbiter] s scanning :=
    (requestHeaderLoad_frame _).after (by decide) ((onKeyboard_frame s _).mono (by decide))
  have senses : changesOnly [.keyboard, .arbiter, .sensor, .carriage, .attention] s w :=
    (setCauses_frame _ _ _ _ sensed).after (by decide)
      ((takeReadings_frame _ _ scanning).after (by decide) (scans.mono (by decide)))
  have carriage : w.carriage = { s.carriage with
      paper := w.carriage.paper, hot := w.carriage.hot, battery := w.carriage.battery, paperTimer := none } := by
    rw [← noTimer, ← show scanning.carriage = s.carriage from scans .carriage (by decide)]
    simp [w, sensed, takeReadings, setCauses_eq]
  have dot : w.dot = s.dot := senses .dot (by decide)
  have line : linePart w = linePart s := by simp [w, sensed, scanning]
  have waits : w.carriage.state = .homeSeek := by rw [carriage]; exact seeking
  have begun : printerRuns w :=
    NewCauses.runs (s := s) ⟨startedUp_of_line sound.1 (senses .passage (by decide)) line, by rw [carriage], dot,
      by rw [carriage]; exact fun runs => absurd rfl runs⟩ sound (by rw [waits]; nofun) (by rw [waits]; nofun)
  exact (beginSeek_keepsPrinter w (by rw [dot]; exact idle)).runs begun

end

section
variable {startUp : StartUp} {asked : Wait} {grant : Option Grant} (paper : Bool) (pending : List Instr)

/-- R164: the pin-reset values of the printer are sound. -/
theorem unreleased_printer (startUp : StartUp) (asked : Wait) (grant : Option Grant) :
    (let s := unreleased startUp asked grant paper pending
     tabsOrdered s ∧ carriageSound s ∧ firingSound s ∧ strobesSound s) := by
  refine ⟨?_, ⟨rfl, fun _ => .inl rfl, fun _ => rfl, nofun, nofun, nofun, nofun, fun seeks => absurd rfl seeks,
    fun waits => absurd rfl waits, fun runs => absurd rfl runs⟩, firingSound_of_rest rfl rfl nofun,
    strobesSound_of_quiet rfl rfl⟩
  have stops : resetTabStops.Pairwise (· < ·) ∧ (∀ cell ∈ resetTabStops, 1 ≤ cell ∧ cell ≤ 79) ∧
      resetTabStops.length ≤ Config.tabStopCapacity := by decide
  exact stops

/-- R165: the fetch of the option record ends the start-up, with the first home seek under way. -/
theorem startUpFetch_runs (cycles : List MemCycle) (o0 o1 : Byte) (millivolts : Nat) (millidegrees : Int) :
    printerRuns (finishGrant cycles (fun t => beginBlocks millivolts millidegrees (takeOptions o0 o1 t))
      (unreleased .fetching .absent (some .startUp) paper pending)) := by
  let taken := takeOptions o0 o1 (grantEnded cycles (unreleased .fetching .absent (some .startUp) paper pending))
  have sound : printerRuns taken :=
    ⟨⟨rfl, rfl, nofun⟩, unreleased_printer paper pending .fetching .absent (some .startUp)⟩
  have begun : printerRuns (beginBlocks millivolts millidegrees taken) :=
    beginBlocks_runs taken millivolts millidegrees sound rfl rfl rfl
  exact (passHeld_keepsPrinter _).runs ((printerRuns_congr (printerPart_settle _)).2 begun)

end

/-- R170: every command keeps the setup values in range. -/
theorem exec_setupInRange {s t : State} (i : Instr) (range : setupInRange s) (h : exec i s = .next t) :
    setupInRange t := by
  obtain rfl | rfl | ⟨o0, o1, mv, md, rfl⟩ | runs := startsUp_cases i
  · cases h
    simp [setupInRange, State.reset]
  · have same : setupValues t = setupValues s := by
      rw [← Host.Outcome.next.inj h]
      split
      · unfold requestGrant
        split <;> rfl
      · rfl
    exact (setupInRange_congr same).2 range
  · rw [← Host.Outcome.next.inj h]
    split
    · have begun : ∀ u, setupInRange u → setupInRange (beginBlocks mv md (takeOptions o0 o1 u)) :=
        fun u => beginBlocks_setup (takeOptions o0 o1 u) mv md
      exact (passHeld_keepsPrinter _).setup ((setupInRange_congr (setupValues_settle _)).2 (begun _ range))
    · exact range
  · exact (exec_keepsPrinter s runs h).setup range

/-! ### Every step -/

/-- From the release on, nothing is left for `startUpSound` to say. -/
theorem printerSound_of_runs {s : State} (sound : printerRuns s) : printerSound s := by
  obtain ⟨⟨released, asked, grant⟩, rest⟩ := sound
  exact ⟨⟨fun fetch => fetch.elim (absurd asked) fun runs => absurd runs grant, fun runs => absurd runs grant,
    fun before => absurd released before⟩, rest⟩

theorem printerRuns_of_released {s : State} (sound : printerSound s) (released : s.passage.startUp = .released) :
    printerRuns s := by
  obtain ⟨⟨fetches, _, _⟩, rest⟩ := sound
  have idle : ¬ (s.arbiter.startUp ≠ .absent ∨ s.arbiter.grant = some .startUp) := fun fetch => by
    rw [fetches fetch] at released
    cases released
  exact ⟨⟨released, not_not.1 fun asked => idle (.inl asked), fun runs => idle (.inr runs)⟩, rest⟩

/-- Before the release the printer stands at its pin-reset values. -/
theorem printerSound_of_startUp {s : State} (sound : startUpSound s) (before : s.passage.startUp ≠ .released) :
    printerSound s := by
  obtain ⟨same, _⟩ := eq_unreleased sound before
  refine ⟨sound, ?_⟩
  rw [same]
  exact unreleased_printer _ _ _ _ _

theorem pinReset_printerSound {s t : State} (h : exec .pinReset s = .next t) : printerSound t := by
  cases h
  have start := (lineAndStartUpSound_unreleased s.pins.paper s.pending (startUp := .holding) (asked := .absent)
    (grant := none) ⟨nofun, .inl rfl, by simp, nofun⟩).1
  exact printerSound_of_startUp start nofun

/-- R164: HRST's release asks for the option record and releases nothing yet. -/
theorem rstiRelease_holds {s t : State} (before : s.passage.startUp ≠ .released) (h : exec .rstiRelease s = .next t) :
    t.passage.startUp ≠ .released := by
  rw [← Host.Outcome.next.inj h]
  split
  · rw [requestGrant_frame _ _ .passage (by decide)]
    nofun
  · exact before

/-- R165: the fetch that releases the host reset leaves the printer at its first home seek. -/
theorem startUpFetch_printerSound {s t : State} {o0 o1 : Byte} {mv : Nat} {md : Int} (sound : startUpSound s)
    (before : s.passage.startUp ≠ .released) (released : t.passage.startUp = .released)
    (h : exec (.startUpFetch o0 o1 mv md) s = .next t) : printerSound t := by
  obtain ⟨same, _, grants, fetches, once⟩ := eq_unreleased sound before
  rcases grants with noGrant | runs
  · rw [← Host.Outcome.next.inj h, if_neg (by rw [noGrant]; nofun)] at released
    exact absurd released before
  · rw [fetches (.inr (by rw [runs]; nofun)), once runs, runs] at same
    rw [same] at h
    rw [← Host.Outcome.next.inj h]
    exact printerSound_of_runs (startUpFetch_runs _ _ _ o0 o1 mv md)

/-- From the release on. -/
theorem exec_printerSound_of_released {s t : State} (i : Instr) (runs : printerRuns s) (h : exec i s = .next t) :
    printerSound t := by
  have ⟨⟨released, _, other⟩, _⟩ := runs
  have stays : printerSound s := printerSound_of_runs runs
  obtain rfl | rfl | ⟨o0, o1, mv, md, rfl⟩ | later := startsUp_cases i
  · exact pinReset_printerSound h
  · rw [← Host.Outcome.next.inj h, if_neg (by rw [released]; nofun)]
    exact stays
  · rw [← Host.Outcome.next.inj h, if_neg other]
    exact stays
  · exact printerSound_of_runs ((exec_keepsPrinter s later h).runs runs)

/-- Before the release. -/
theorem exec_printerSound_of_startUp {s t : State} (i : Instr) (sound : startUpSound s)
    (before : s.passage.startUp ≠ .released) (h : exec i s = .next t) : printerSound t := by
  have start : startUpSound t := by
    obtain ⟨same, fetch⟩ := eq_unreleased sound before
    rw [same] at h
    exact (exec_unreleased _ _ i fetch h).1
  obtain rfl | rfl | ⟨o0, o1, mv, md, rfl⟩ | later := startsUp_cases i
  · exact pinReset_printerSound h
  · exact printerSound_of_startUp start (rstiRelease_holds before h)
  · by_cases released : t.passage.startUp = .released
    · exact startUpFetch_printerSound sound before released h
    · exact printerSound_of_startUp start released
  · exact printerSound_of_startUp start fun released => before ((exec_keepsPrinter s later h).startUp.symm.trans released)

theorem exec_printerSound {s t : State} (i : Instr) (sound : printerSound s) (h : exec i s = .next t) :
    printerSound t := by
  by_cases released : s.passage.startUp = .released
  · exact exec_printerSound_of_released i (printerRuns_of_released sound released) h
  · exact exec_printerSound_of_startUp i sound.1 released h

/-- Settles O57: before the release of the host reset the printer stands at its pin-reset values, and from the release on
every operation of the carriage and of the Dot Firing Unit leads from one sound phase of the printer to another. -/
theorem printerInvariant : Obligations.PrinterInvariant := by
  rintro s t ⟨sound, range⟩ h
  unfold step at h
  split at h
  · exact Host.Outcome.next.inj h ▸ ⟨sound, range⟩
  · next command rest _ =>
    have waits : printerSound { s with pending := rest } := by
      obtain ⟨⟨fetches, once, held⟩, printer⟩ := sound
      refine ⟨⟨fetches, once, fun before => ?_⟩, printer⟩
      obtain ⟨passage, arbiter, grants, starts, pins, whole⟩ := held before
      exact ⟨passage, arbiter, grants, starts, pins, congrArg (fun u : State => { u with pending := rest }) whole⟩
    exact ⟨exec_printerSound command waits h, exec_setupInRange (s := { s with pending := rest }) command range h⟩

end Sys2Proof.Machine

namespace Sys2Proof.Machine

/-! ## The columns of the Dot Firing Unit (R145 to R151) -/

theorem clampWidth_le_clampWidth {v w : Nat} (h : v ≤ w) : clampWidth v ≤ clampWidth w := by
  unfold clampWidth
  omega

/-- R147: three quarters of the basic width are no wider than the whole of it. -/
theorem warmWidthOf_le_freshWidthOf (i : ColumnInputs) : warmWidthOf i ≤ freshWidthOf i :=
  clampWidth_le_clampWidth (by omega)

/-- R145: the least basic width, for density 0 at 140 units and 60 °C. -/
theorem le_temperatureTime (density u : Nat) (t : Int) : 190 ≤ temperatureTime density u t := by
  have voltage : 293 ≤ voltageTime density u := by
    obtain ⟨least, most⟩ : 80 ≤ clampedBattery u ∧ clampedBattery u ≤ 140 := by unfold clampedBattery; omega
    have square : clampedBattery u * clampedBattery u ≤ 140 * 140 := Nat.mul_le_mul most most
    refine (Nat.le_div_iff_mul_le (Nat.mul_pos (by omega) (by omega))).2 ?_
    unfold baseTime
    omega
  have factor : 65 ≤ temperatureFactor t := by unfold temperatureFactor; omega
  have product : 293 * 65 ≤ voltageTime density u * temperatureFactor t := Nat.mul_le_mul voltage factor
  unfold temperatureTime
  omega

/-- Settles O48: the stages of R145 are the model's own, and the least basic width bounds both widths from below. -/
theorem pulseWidths : Obligations.PulseWidths := by
  refine ⟨fun i => ⟨rfl, rfl, fun _ => ?_⟩, columnStep_dot, fun fresh warm history row => rfl⟩
  have least := le_temperatureTime i.density i.battery i.temperature
  refine ⟨?_, ?_, ?_, warmWidthOf_le_freshWidthOf i⟩ <;>
    simp only [freshWidthOf, warmWidthOf, clampWidth] <;> omega

/-! ### The duration of a group (R151) -/

theorem rowWidth_row (fresh warm : Nat) (history : Rows) (row : Fin 7) :
    rowWidth fresh warm history (row + 1) = if history.getLsbD row then warm else fresh := rfl

/-- A pattern with a dot shows it in one of the seven rows. -/
theorem exists_row_of_ne_zero {pattern : Rows} (h : pattern ≠ 0) : ∃ row : Fin 7, pattern.getLsbD row = true := by
  by_contra none
  push Not at none
  exact h (BitVec.eq_of_getLsbD_eq fun i low => by simpa using none ⟨i, low⟩)

/-- R151: no dot of the group is fresh exactly when every dot of it is in the history. -/
theorem group_warm_iff (history group : Rows) :
    group &&& ~~~history = 0 ↔ ∀ row : Fin 7, group.getLsbD row = true → history.getLsbD row = true := by
  constructor
  · intro none row dot
    have bit := congrArg (·.getLsbD row) none
    simpa [dot, row.isLt] using bit
  · intro warm
    by_contra some_fresh
    obtain ⟨row, bit⟩ := exists_row_of_ne_zero some_fresh
    rw [BitVec.getLsbD_and, BitVec.getLsbD_not, Bool.and_eq_true, Bool.and_eq_true] at bit
    rw [warm row bit.1] at bit
    exact absurd bit.2.2 (by decide)

/-- Settles O50: the fresh width is the longest pulse of a group with a fresh dot, the warm width that of any other. -/
theorem Columns.groupDuration : Obligations.GroupDuration := by
  intro i history group dots
  have ordered := warmWidthOf_le_freshWidthOf i
  obtain ⟨first, first_dot⟩ := exists_row_of_ne_zero dots
  have warms := group_warm_iff history group
  by_cases warm : group &&& ~~~history = 0
  · have every := warms.1 warm
    have lasts : Machine.groupDuration (freshWidthOf i) (warmWidthOf i) history group = warmWidthOf i := if_pos warm
    have pulse : ∀ row : Fin 7, group.getLsbD row = true →
        rowWidth (freshWidthOf i) (warmWidthOf i) history (row + 1) = warmWidthOf i := fun row dot =>
      if_pos (every row dot)
    refine ⟨ordered, fun ⟨row, dot, fresh⟩ => ?_, fun _ => lasts, fun row dot => ?_, first, first_dot, ?_⟩
    · rw [every row dot] at fresh
      cases fresh
    · exact (pulse row dot).trans_le lasts.ge
    · exact (pulse first first_dot).trans lasts.symm
  · have lasts : Machine.groupDuration (freshWidthOf i) (warmWidthOf i) history group = freshWidthOf i := if_neg warm
    refine ⟨ordered, fun _ => lasts, fun every => absurd (warms.2 every) warm, fun row dot => ?_, ?_⟩
    · simp only [lasts, rowWidth_row]
      split <;> omega
    · obtain ⟨row, dot, fresh⟩ : ∃ row : Fin 7, group.getLsbD row = true ∧ history.getLsbD row = false := by
        by_contra none
        push Not at none
        exact warm (warms.2 fun row dot => by simpa using none row dot)
      exact ⟨row, dot, by simp only [lasts, rowWidth_row, fresh]; rfl⟩

/-! ### The groups of a column (R150) -/

/-- The dots of a pattern, ascending, counted from 0. -/
def dotsOf (pattern : Rows) : List Nat := (List.range 7).filter pattern.getLsbD

/-- The model numbers the rows of the dots from 1. -/
theorem rowsOf_eq (pattern : Rows) : rowsOf pattern = (dotsOf pattern).map (· + 1) := by
  rw [rowsOf, dotsOf, ← List.filterMap_eq_map, List.filterMap_filter]
  exact List.filterMap_congr fun i _ => rfl

theorem mem_dotsOf {pattern : Rows} {i : Nat} : i ∈ dotsOf pattern ↔ pattern.getLsbD i = true := by
  rw [dotsOf, List.mem_filter, List.mem_range, and_iff_right_iff_imp]
  exact BitVec.lt_of_getLsbD

theorem dotsOf_ascending (pattern : Rows) : (dotsOf pattern).Pairwise (· < ·) := List.pairwise_lt_range.filter _

/-- The pattern of a list of dots shows exactly those dots. -/
theorem getLsbD_patternOf {dots : List Nat} {i : Nat} (low : i < 7) :
    (patternOf (dots.map (· + 1))).getLsbD i = true ↔ i ∈ dots := by
  have folded : ∀ acc : Rows,
      ((dots.map (· + 1)).foldl (fun acc r => acc ||| BitVec.twoPow 7 (r - 1)) acc).getLsbD i = true ↔
        acc.getLsbD i = true ∨ i ∈ dots := by
    induction dots with
    | nil => simp
    | cons dot rest ih =>
      intro acc
      have bit : (BitVec.twoPow 7 dot).getLsbD i = true ↔ i = dot := by
        rw [BitVec.getLsbD_twoPow, Bool.and_eq_true, decide_eq_true_iff, decide_eq_true_iff]
        omega
      rw [List.map_cons, List.foldl_cons, ih, Nat.add_sub_cancel, BitVec.getLsbD_or, Bool.or_eq_true, bit,
        List.mem_cons, or_assoc]
  exact (folded 0).trans (or_iff_right (by simp))

/-- The pattern of an ascending list of dots has those dots, in that order. -/
theorem dotsOf_patternOf {dots : List Nat} (ascending : dots.Pairwise (· < ·)) (low : ∀ i ∈ dots, i < 7) :
    dotsOf (patternOf (dots.map (· + 1))) = dots := by
  refine (dotsOf_ascending _).eq_of_mem_iff ascending fun i => mem_dotsOf.trans ⟨fun set => ?_, fun mem => ?_⟩
  · exact (getLsbD_patternOf (BitVec.lt_of_getLsbD set)).1 set
  · exact (getLsbD_patternOf (low i mem)).2 mem

/-- R150: the number of groups is the least that holds all the dots. -/
theorem groupCount_le_iff {n b c : Nat} (pos : 1 ≤ b) : groupCount n b ≤ c ↔ n ≤ b * c :=
  ceilDiv_le_iff_le_mul (a := b) pos

/-- The `k`-th stretch of `b` dots. -/
def stretchOf (dots : List Nat) (b k : Nat) : List Nat := (dots.drop (k * b)).take b

theorem stretchOf_length (dots : List Nat) (b k : Nat) :
    (stretchOf dots b k).length = min b (dots.length - k * b) := by
  rw [stretchOf, List.length_take, List.length_drop]

/-- The first `n` stretches are the first `n * b` dots. -/
theorem stretches_flatten (dots : List Nat) (b n : Nat) :
    ((List.range n).map (stretchOf dots b)).flatten = dots.take (n * b) := by
  induction n with
  | zero => simp
  | succ n ih => simp [List.range_succ, ih, stretchOf, Nat.succ_mul, List.take_add]

/-- R150: each group is the pattern of a stretch of the column's dots. -/
theorem dotGroups_eq (pattern : Rows) (b : Nat) :
    dotGroups pattern b = (List.range (groupCount (dotsOf pattern).length b)).map fun k =>
      patternOf ((stretchOf (dotsOf pattern) b k).map (· + 1)) := by
  simp only [dotGroups, rowsOf_eq, stretchOf, List.map_drop, List.map_take, List.length_map]

theorem dotGroups_length (pattern : Rows) (b : Nat) :
    (dotGroups pattern b).length = groupCount (dotsOf pattern).length b := by
  rw [dotGroups_eq, List.length_map, List.length_range]

/-- The dots of a group are its stretch. -/
theorem dotsOf_group (pattern : Rows) (b k : Nat) :
    dotsOf (patternOf ((stretchOf (dotsOf pattern) b k).map (· + 1))) = stretchOf (dotsOf pattern) b k :=
  dotsOf_patternOf (((dotsOf_ascending pattern).drop).take) fun _ mem =>
    BitVec.lt_of_getLsbD (mem_dotsOf.1 (List.mem_of_mem_drop (List.mem_of_mem_take mem)))

/-- R150: the dots of the groups, one group after the other, are the dots of the column. -/
theorem dotGroups_flatten {pattern : Rows} {b : Nat} (pos : 1 ≤ b) :
    ((dotGroups pattern b).map dotsOf).flatten = dotsOf pattern := by
  have stretches : (dotGroups pattern b).map dotsOf =
      (List.range (groupCount (dotsOf pattern).length b)).map (stretchOf (dotsOf pattern) b) := by
    rw [dotGroups_eq, List.map_map]
    exact List.map_congr_left fun k _ => dotsOf_group pattern b k
  rw [stretches, stretches_flatten, List.take_of_length_le]
  rw [Nat.mul_comm]
  exact (groupCount_le_iff pos).1 le_rfl

/-- R150: a column without dots has no group, and every other has one. -/
theorem dotGroups_eq_nil_iff {pattern : Rows} {b : Nat} (pos : 1 ≤ b) : dotGroups pattern b = [] ↔ pattern = 0 := by
  constructor
  · intro none
    have empty : dotsOf pattern = [] := by rw [← dotGroups_flatten pos, none]; rfl
    refine BitVec.eq_of_getLsbD_eq fun i _ => (Bool.eq_false_iff.2 fun set => ?_).trans BitVec.getLsbD_zero.symm
    exact List.not_mem_nil (empty ▸ mem_dotsOf.2 set)
  · rintro rfl
    rw [← List.length_eq_zero_iff, dotGroups_length, ← Nat.le_zero, groupCount_le_iff pos]
    exact Nat.zero_le _

/-- Settles O49: the groups are the stretches of `b` dots, and the last begins before the dots end. -/
theorem Columns.dotGroups : Obligations.DotGroups := by
  intro pattern b pos _
  let dots := dotsOf pattern
  let n := groupCount dots.length b
  have covers : dots.length ≤ n * b := Nat.mul_comm b n ▸ (groupCount_le_iff pos).1 le_rfl
  have tight : n * b < dots.length + b := by
    have rounded : n * b ≤ dots.length + b - 1 := Nat.div_mul_le_self _ _
    omega
  have size : ∀ k, (dotsOf (patternOf ((stretchOf dots b k).map (· + 1)))).length =
      min b (dots.length - k * b) := fun k => by rw [dotsOf_group, stretchOf_length]
  refine ⟨dotGroups_flatten pos, fun g mem => ?_, fun g mem => ?_, ?_, ?_⟩
  · show (dotsOf g).length = b
    rw [dotGroups_eq, ← List.map_dropLast, List.dropLast_eq_take, List.length_range, List.take_range] at mem
    obtain ⟨k, inside, rfl⟩ := List.mem_map.1 mem
    have early : k < min (n - 1) n := List.mem_range.1 inside
    have before : (k + 1 + 1) * b ≤ n * b := Nat.mul_le_mul_right b (by omega)
    rw [Nat.succ_mul, Nat.succ_mul] at before
    rw [size]
    omega
  · show 1 ≤ (dotsOf g).length ∧ (dotsOf g).length ≤ b
    rw [dotGroups_eq] at mem
    obtain ⟨k, inside, rfl⟩ := List.mem_map.1 mem
    have before : (k + 1) * b ≤ n * b := Nat.mul_le_mul_right b (List.mem_range.1 inside)
    rw [Nat.succ_mul] at before
    rw [size]
    omega
  · rw [dotGroups_length]
    exact tight
  · rw [dotGroups_length]
    exact covers

end Sys2Proof.Machine

namespace Sys2Proof.Machine

/-! ## The firing of a column (R136 to R143, R152, R155)

An event of the firing leaves a state `w` that differs from the state `s` in which it came in the Dot Firing Unit and the
pins alone, and then ends a cell, ends a firing or begins one. What follows is told by the unit of `w`. -/

section
variable {s w : State} (apart : changesOnly [.dot, .pins] s w)
include apart

/-- Where no later operation begins, only the Dot Firing Unit has changed of the printer. -/
theorem unitAlone_of_frame {u : State} (h : changesOnly [.dot] w u) : unitAlone s (settle u) := by
  have frame : changesOnly [.dot, .pins] s u := h.after (by decide) apart
  refine ⟨?_, ?_, ?_⟩
  · rw [settle_carriage]; exact frame .carriage (by decide)
  · rw [settle_arbiter]; exact frame .arbiter (by decide)
  · rw [settle_attention]; exact frame .attention (by decide)

variable (later : ∀ op ∈ s.carriage.pending, op.mayFollow = true)
include later

/-- R120, R141: the end of the cell stops the unit and moves the position, and the boundary follows. -/
theorem endCell_cellEnded : cellEnded w.dot s (settle (endCell w)) := by
  let x := (dotToIdle w).onCarriage fun c => { c with position := c.position.map positionAfterCell }
  have carriage : w.carriage = s.carriage := apart .carriage (by decide)
  have attention : w.attention = s.attention := apart .attention (by decide)
  have b : Boundary x (endOperation x) := endOperation_boundary fun op mem => later op (by rw [← carriage]; exact mem)
  have same : SameWork s w :=
    ⟨by rw [carriage], by rw [carriage], by rw [carriage], apart .arbiter (by decide), apart .sensor (by decide)⟩
  obtain ⟨follows, requests⟩ := b.settled (s := s) ⟨same.queue, same.mark, same.pending, same.arbiter, same.sensor⟩
  refine ⟨?_, follows, requests.trans ?_⟩
  · rw [settle_carriage, ← carriage]
    exact b.carriage
  · rw [← attention]
    rfl

/-- R141, R143, R155: the end of a firing stops the unit, or leaves a dwell that the column timer may have ended already. -/
theorem endFiring_firingEnded : firingEnded w.dot s (settle (endFiring w)) := by
  let x := w.onDot fun d => { d with state := .dwell, history := columnOf d.glyph d.column }
  have dwells : enterDwell (w.onDot fun d => { d with history := d.glyph.column d.column }) =
      if w.dot.columnTimer = none then endDwell x else x := by
    simp only [x, columnOf_eq]
    rfl
  have toX : changesOnly [.dot] w x := onDot_frame w _
  unfold firingEnded endFiring
  rw [dwells]
  by_cases stops : w.dot.stopping = true
  · rw [if_pos stops, if_pos stops]
    exact ⟨settle_dot _, unitAlone_of_frame apart (dotToIdle_frame w)⟩
  rw [if_neg stops, if_neg stops]
  by_cases expired : w.dot.columnTimer = none
  · rw [if_neg (not_not.2 expired), if_pos expired, endDwell]
    by_cases more : w.dot.column < 6
    · rw [if_pos more, if_pos (show x.dot.column < 6 from more), settle_dot, columnStep_dot]
      refine ⟨?_, unitAlone_of_frame apart ((columnStep_frame _ x).after (by decide) toX)⟩
      rw [← show w.sensor = s.sensor from apart .sensor (by decide)]
      rfl
    · rw [if_neg more, if_neg (show ¬ x.dot.column < 6 from more)]
      have ended : cellEnded x.dot s (settle (endCell x)) := endCell_cellEnded (toX.after (by decide) apart) later
      exact ended
  · rw [if_pos expired, if_neg expired]
    exact ⟨settle_dot x, unitAlone_of_frame apart toX⟩

/-- R140, R152: a firing begins with the first group, and ends at once where the pattern is empty. -/
theorem beginFiring_firingBegun (pos : 1 ≤ w.dot.inputs.budget) :
    firingBegun w.dot s (settle (beginFiring w)) := by
  have empty := dotGroups_eq_nil_iff (pattern := w.dot.glyph.column w.dot.column) pos
  unfold firingBegun beginFiring
  rw [columnOf_eq]
  cases cut : dotGroups (w.dot.glyph.column w.dot.column) w.dot.inputs.budget with
  | nil =>
    rw [if_pos (empty.1 cut)]
    exact endFiring_firingEnded apart later
  | cons g rest =>
    rw [if_neg fun none => by rw [empty.2 none] at cut; cases cut]
    have begun : startGroup (w.onDot fun d => { d with state := .firing, groups := g :: rest }) =
      w.onDot fun d => { d with state := .firing, strobes := g, groups := rest } := rfl
    dsimp only
    rw [begun, settle_dot]
    exact ⟨cut.symm, rfl, unitAlone_of_frame apart (onDot_frame w _)⟩

end

/-- R152: a driven line is the next to be released where no driven line has a shorter width. -/
theorem releasable_of_shortest {d : DotFiring} {row : Fin 7} (driven : d.strobes.getLsbD row = true)
    (shortest : ∀ other : Fin 7, d.strobes.getLsbD other = true →
      rowWidth d.freshWidth d.warmWidth d.history (row + 1) ≤
        rowWidth d.freshWidth d.warmWidth d.history (other + 1)) :
    releasable d (row + 1) = true := by
  unfold releasable
  rw [Bool.and_eq_true, List.contains_iff_mem, List.all_eq_true, rowsOf_eq]
  refine ⟨List.mem_map_of_mem (mem_dotsOf.2 driven), fun r mem => ?_⟩
  obtain ⟨other, dot, rfl⟩ := List.mem_map.1 mem
  have set := mem_dotsOf.1 dot
  exact decide_eq_true (shortest ⟨other, BitVec.lt_of_getLsbD set⟩ set)

/-- Settles O45: the expiry begins a firing, the last release ends it, and a group starts with its own lines. -/
theorem columnFiring : Obligations.ColumnFiring := by
  refine ⟨fun s settles runs pos later => ?_, fun s row fires driven shortest later => ?_,
    fun s g rest fires released groups => ?_⟩
  · let x := s.onDot fun d => { d with settleTimer := none }
    have toX : changesOnly [.dot] s x := onDot_frame s _
    have expires : exec .settleExpiry s = .next (endSettle s) := congrArg Host.Outcome.next (if_pos ⟨settles, runs⟩)
    by_cases waits : s.dot.glyph = .requested
    · have stays : endSettle s = x := if_pos waits
      refine ⟨x, expires.trans (by rw [stays]), ?_⟩
      rw [if_pos waits]
      exact ⟨rfl, toX⟩
    · have begins : endSettle s = settle (beginFiring x) := if_neg waits
      refine ⟨settle (beginFiring x), expires.trans (by rw [begins]), ?_⟩
      rw [if_neg waits]
      refine ⟨beginFiring_firingBegun (toX.mono (by decide)) later pos, settlesOnly_of_settle ?_ (by decide)⟩
      exact (beginFiring_frame x).after (by decide) (toX.mono (by decide))
  · let left := s.dot.strobes &&& ~~~BitVec.twoPow 7 row
    let x := s.onDot fun d => { d with strobes := left }
    have toX : changesOnly [.dot] s x := onDot_frame s _
    have releases : exec (.strobeRelease (row + 1)) s = .next (settle (releaseStrobe (row + 1) s)) :=
      congrArg Host.Outcome.next (if_pos ⟨fires, releasable_of_shortest driven shortest⟩)
    refine ⟨_, releases, ?_, settlesOnly_of_settle ((releaseStrobe_frame _ s).mono (by decide)) (by decide)⟩
    by_cases last : left = 0 ∧ s.dot.groups = []
    · have ends : releaseStrobe (row + 1) s = endFiring x := if_pos last
      have dark : x.dot = { s.dot with strobes := 0 } := congrArg (fun l => { s.dot with strobes := l }) last.1
      rw [if_pos last, ends, ← dark]
      exact endFiring_firingEnded (toX.mono (by decide)) later
    · have goes_on : releaseStrobe (row + 1) s = x := if_neg last
      rw [if_neg last, goes_on]
      exact ⟨settle_dot x, unitAlone_of_frame (changesOnly_refl _ s) toX⟩
  · have starts : exec .groupStart s = .next (startGroup s) := congrArg Host.Outcome.next (if_pos ⟨fires, released⟩)
    have first : startGroup s = s.onDot fun d => { d with strobes := g, groups := rest } := by
      rw [startGroup, groups]
    exact ⟨_, starts.trans (by rw [first]), rfl, onDot_frame s _⟩

/-! ### The glyph fetch (R136, R138) and the back step (R139)

A firing that ends a cell may begin the next one, whose request for a glyph leaves the running grant alone. -/

theorem grant_of_frame {blocks : List Block} {s t : State} (h : changesOnly blocks s t)
    (hb : Block.arbiter ∉ blocks) : t.arbiter.grant = s.arbiter.grant := congrArg Arbiter.grant (h .arbiter hb)

/-- R136: the glyph of the five bytes, bit 7 of each dropped. -/
def fetchedGlyph (c1 c2 c3 c4 c5 : Byte) : Glyph :=
  .held (c1.extractLsb' 0 7) (c2.extractLsb' 0 7) (c3.extractLsb' 0 7) (c4.extractLsb' 0 7) (c5.extractLsb' 0 7)

section
variable (s : State)

theorem handOver_grant (glyph : BitVec 7) (backStep : Bool) :
    (handOver glyph backStep s).arbiter.grant = s.arbiter.grant := by
  rw [(handOver_blocks s glyph backStep).2.2]

theorem beginOperation_grant (op : Operation) :
    (beginOperation op s).arbiter.grant = s.arbiter.grant := by
  cases op with
  | print glyph => exact handOver_grant _ glyph _
  | space | backspace | tab | carriageReturn | feed => rfl

theorem endOperation_grant : (endOperation s).arbiter.grant = s.arbiter.grant := by
  unfold endOperation continueEntry
  split
  · rfl
  · split
    · exact grant_of_frame (enterReady_frame s) (by decide)
    · exact beginOperation_grant _ _

theorem endDwell_grant : (endDwell s).arbiter.grant = s.arbiter.grant := by
  unfold endDwell
  split
  · exact grant_of_frame (columnStep_frame _ s) (by decide)
  · exact endOperation_grant _

theorem endFiring_grant : (endFiring s).arbiter.grant = s.arbiter.grant := by
  unfold endFiring enterDwell
  split
  · exact grant_of_frame (dotToIdle_frame s) (by decide)
  · split
    · exact endDwell_grant _
    · rfl

theorem beginFiring_grant : (beginFiring s).arbiter.grant = s.arbiter.grant := by
  unfold beginFiring
  split
  · exact endFiring_grant s
  · exact (grant_of_frame (startGroup_frame _) (by decide)).trans rfl

variable (c1 c2 c3 c4 c5 : Byte)

/-- R138: the firing that waited for the glyph begins with it. -/
theorem holdGlyph_eq :
    holdGlyph c1 c2 c3 c4 c5 s =
      (let held := s.onDot fun d => { d with glyph := fetchedGlyph c1 c2 c3 c4 c5 }
       if s.dot.glyph = .requested ∧ s.dot.state = .settle ∧ s.dot.settleTimer = none then beginFiring held
       else held) := rfl

theorem holdGlyph_grant : (holdGlyph c1 c2 c3 c4 c5 s).arbiter.grant = s.arbiter.grant := by
  rw [holdGlyph_eq]
  dsimp only
  split
  · exact beginFiring_grant _
  · rfl

theorem holdGlyph_frame :
    changesOnly [.carriage, .dot, .arbiter, .attention] s (holdGlyph c1 c2 c3 c4 c5 s) := by
  have holds := (onDot_frame s fun d => { d with glyph := fetchedGlyph c1 c2 c3 c4 c5 }).mono
    (m := [.carriage, .dot, .arbiter, .attention]) (by decide)
  rw [holdGlyph_eq]
  dsimp only
  split
  · exact (beginFiring_frame _).after (by decide) holds
  · exact holds

/-- R139, R140, R155: RESTART ends the back steps, and the sixth is followed by the step of column 1. -/
theorem completeBackStep_dot (made : Nat) :
    (completeBackStep made s).dot =
      if s.dot.stopping then stoppedDot s.dot
      else if made < 5 then { s.dot with state := .backStep (made + 1) }
      else steppedDot 1 s.dot s.sensor := by
  have sixth : made + 1 < 6 ↔ made < 5 := Nat.succ_lt_succ_iff
  unfold completeBackStep
  simp only [sixth]
  split
  · rfl
  · split <;> rfl

theorem completeBackStep_frame (made : Nat) : changesOnly [.dot] s (completeBackStep made s) := by
  unfold completeBackStep
  split
  · exact dotToIdle_frame s
  · split
    · exact onDot_frame s _
    · exact columnStep_frame 1 s

end

/-- Settles O44: the patterns are held and begin the firing that waits for them, and the back steps count to six. -/
theorem glyphFetchAndBackStep : Obligations.GlyphFetchAndBackStep := by
  refine ⟨fun s address discarded c1 c2 c3 c4 c5 grant free => ?_, fun s made steps => ?_⟩
  · let w := grantEnded [.read address c1, .read (address + 1) c2, .read (address + 2) c3, .read (address + 3) c4,
      .read (address + 4) c5] s
    let u := unlessDiscarded discarded (holdGlyph c1 c2 c3 c4 c5) w
    let ended := { s with arbiter := { s.arbiter with grant := none } }
    have commutes := unlessDiscarded_withHeld (fun g t => holdGlyph_withHeld g t c1 c2 c3 c4 c5) discarded
    have fetched : exec (.glyphFetch c1 c2 c3 c4 c5) s = .next (settle u) := by
      simp only [exec, execGlyphFetch, grant]
      rw [finishGrant_of_released commutes free]
    have toW : changesOnly [.pins, .arbiter] s w := grantEnded_frame _ s
    have apart : changesOnly [.dot, .pins] ended w := (driveMemory_frame _ _).mono (by decide)
    have acts : changesOnly [.carriage, .dot, .arbiter, .attention] w u := by
      cases discarded with
      | true => exact changesOnly_refl _ w
      | false => exact holdGlyph_frame w c1 c2 c3 c4 c5
    refine ⟨settle u, fetched, ?_, ?_, ?_, ?_,
      settlesOnly_of_settle (acts.after (by decide) (toW.mono (by decide))) (by decide)⟩
    · cases discarded with
      | true => exact ⟨settle_dot w, unitAlone_of_frame apart (changesOnly_refl _ w)⟩
      | false =>
        let x := w.onDot fun d => { d with glyph := fetchedGlyph c1 c2 c3 c4 c5 }
        have toX : changesOnly [.dot] w x := onDot_frame w _
        dsimp only
        rw [if_neg (by decide)]
        by_cases waits : s.dot.glyph = .requested ∧ s.dot.state = .settle ∧ s.dot.settleTimer = none
        · have begins : u = beginFiring x := if_pos waits
          rw [if_pos waits, begins]
          exact fun pos later => beginFiring_firingBegun (toX.after (by decide) apart) later pos
        · have holds : u = x := if_neg waits
          rw [if_neg waits, holds]
          exact ⟨settle_dot x, unitAlone_of_frame apart toX⟩
    · rw [settle_arbiter]
      cases discarded with
      | true => rfl
      | false => exact holdGlyph_grant w c1 c2 c3 c4 c5
    · rw [settle_arbiter]
      exact held_of_commutes commutes free
    · rw [settle_pins]
      exact acts .pins (by decide)
  · have completes : exec .backStep s = .next (completeBackStep made s) := by
      simp only [exec, execBackStep, steps]
    exact ⟨_, completes, completeBackStep_dot s made, completeBackStep_frame s made⟩

end Sys2Proof.Machine

namespace Sys2Proof.Machine

/-! ## Pin reset (R164 and the reset tables) -/

/-- R26, R48: after pin reset every position is UP. -/
theorem reset_positions (p : Position) : State.reset.keyboard.positions[p] = KeyState.up := Vector.getElem_replicate ..

/-- R171, R172: after pin reset no requester waits. -/
theorem reset_wait (r : Requester) : State.reset.arbiter.wait r = .absent := by cases r <;> rfl

/-- R168: after pin reset the status byte reads 0. -/
theorem reset_statusByte : statusByte State.reset = 0 := by decide

/-- R187: after pin reset no request is eligible. -/
theorem reset_attn : attn State.reset = false := by decide

/-- R186: after pin reset every source but LINE is masked, and LINE, BREAK-IN and PRINT-FAULT are urgent. -/
theorem reset_masks : readControl 0x08#6 State.reset = 0xFE#8 ∧ readControl 0x09#6 State.reset = 0x03#8 ∧
    readControl 0x0A#6 State.reset = 0x13#8 ∧ readControl 0x0B#6 State.reset = 0x00#8 := by decide

/-- Settles O2: PIN_RESET leaves `State.reset`, but for the waiting commands and the paper sensor, and the reads of the
control block answer from it. -/
theorem pinResetValues : Obligations.PinResetValues := by
  intro s
  refine ⟨_, rfl, rfl, rfl, rfl, rfl, rfl, rfl, rfl, reset_wait, rfl, rfl, rfl, rfl, reset_statusByte, ?switch, ?rings,
    ?keyboard, ?receiver, ?transmitter, ?tones, ?flow, ?answerback, ?carriage, ?dot, ?command, ?attention⟩
  case keyboard => exact ⟨reset_positions, by and_intros <;> rfl⟩
  case attention =>
    obtain ⟨maskLow, maskHigh, urgentLow, urgentHigh⟩ := reset_masks
    exact ⟨rfl, maskLow, maskHigh, urgentLow, urgentHigh, rfl, rfl, rfl, reset_attn⟩
  all_goals and_intros <;> rfl

/-- Settles O60: the reset state is the unreleased part with nothing asked of the arbiter, whose line and printer are
sound; its queues and rings are empty, and the translator, the sounder and the Flow Controller are at rest. -/
theorem resetMeetsInvariants : Obligations.ResetMeetsInvariants := by
  obtain ⟨startUp, receiver, framer, quiet, transmitter, flow⟩ :=
    lineAndStartUpSound_unreleased true [] (startUp := .holding) (asked := .absent) (grant := none)
      ⟨nofun, .inl rfl, fun fetch => fetch.elim (absurd rfl) (absurd rfl), nofun⟩
  have range : setupInRange State.reset := by simp [setupInRange, State.reset]
  refine ⟨⟨rfl, rfl, .inl rfl⟩, range, ?queues, ?receiveRing, ?sendRing, ?answerback,
    startUp, receiver, framer, quiet, transmitter, flow, printerSound_of_startUp startUp nofun,
    ?keyboard, ⟨rfl, rfl⟩, ?sounder, nofun, ?demand⟩
  case queues => exact ⟨Nat.zero_le _, Nat.zero_le _, Nat.zero_le _⟩
  case receiveRing => unfold receiveRingSound; decide
  case sendRing => exact ⟨by decide, by decide, by decide, by decide, nofun, by decide, trivial⟩
  case answerback => unfold answerbackSound; decide
  case keyboard => exact ⟨⟨fun _ => rfl, fun _ => rfl⟩, ⟨fun _ => rfl, fun _ => rfl⟩, nofun⟩
  case sounder => unfold sounderSound; decide
  case demand => unfold flowFollowsDemand; decide

end Sys2Proof.Machine

namespace Sys2Proof.Machine

/-! ## Start-up (R164, R165) -/

/-- R128: HOT, while clear, is set at 65 degrees. -/
theorem judgeHot_of_clear (t : Int) : judgeHot false t = decide (65 ≤ t) := by
  unfold judgeHot
  split
  · next hot => rw [decide_eq_true hot]
  · next cool => rw [ite_self, decide_eq_false cool]

/-- R128: BATTERY, while clear, is set below 88 units. -/
theorem judgeBattery_of_clear (u : Nat) : judgeBattery false u = decide (u < 88) := by
  unfold judgeBattery
  split
  · next low => rw [decide_eq_true low]
  · next charged => rw [ite_self, decide_eq_false charged]

/-- R131, R135: the carriage at the release of the host reset: in its home seek, with the causes as the sensors show them. -/
def begunCarriage (millivolts : Nat) (millidegrees : Int) (s : State) : Carriage :=
  { s.carriage with
    state := .homeSeek, position := none, stopping := none, seekTimer := some 240
    paper := !s.pins.paper, hot := 65 ≤ temperatureReading millidegrees, battery := batteryReading millivolts < 88 }

/-- R164: from a state with every halt cause clear and no grant running, what the release of the host reset begins. -/
theorem beginBlocks_of_clear {s : State} (millivolts : Nat) (millidegrees : Int) (clear : s.carriage.anyCause = false)
    (free : s.arbiter.grant = none) :
    beginBlocks millivolts millidegrees s =
      { s with
        keyboard := { s.keyboard with scanTimer := some 8 }
        arbiter := (requestHeaderLoad s).arbiter
        sensor := ⟨batteryReading millivolts, temperatureReading millidegrees, some 100⟩
        carriage := begunCarriage millivolts millidegrees s
        attention := { s.attention with
          flags := s.attention.flags ||| flagIf (begunCarriage millivolts millidegrees s).anyCause .printFault } } := by
  have ⟨⟨⟨paper, hot⟩, battery⟩, jam⟩ :
      ((s.carriage.paper = false ∧ s.carriage.hot = false) ∧ s.carriage.battery = false) ∧ s.carriage.jam = false := by
    simpa [Carriage.anyCause] using clear
  have scans : requestHeaderLoad (s.onKeyboard fun k => { k with scanTimer := some Config.scanPeriod }) =
      { s with
        keyboard := { s.keyboard with scanTimer := some 8 }, arbiter := (requestHeaderLoad s).arbiter } := by
    rw [requestHeaderLoad_of_noGrant free, requestHeaderLoad_of_noGrant (s := s.onKeyboard _) free]
    rfl
  have noted (flags : BitVec 10) (a b : Bool) :
      flags ||| flagIf a .printFault ||| flagIf b .printFault = flags ||| flagIf (b || a) .printFault := by
    rw [BitVec.or_assoc, flagIf_or, Bool.or_comm]
  simp only [beginBlocks, scans, takeReadings, setCauses_eq]
  simp [State.onSensor, State.onCarriage, State.onAttention, beginSeek, begunCarriage, Carriage.anyCause, noted, paper,
    hot, battery, jam, judgeHot_of_clear, judgeBattery_of_clear, Config.seekPeriod, Config.samplePeriod, Bool.or_assoc]

/-- R164: RSTI_RELEASE asks for the start-up fetch. -/
theorem rstiRelease_asks {s : State} (holding : s.passage.startUp = .holding) (absent : s.arbiter.startUp = .absent) :
    exec .rstiRelease s = .next
      ((s.onPassage fun p => { p with startUp := .fetching }).onArbiter fun a => { a with startUp := .waiting }) := by
  simp only [exec, execRstiRelease, if_pos holding, requestGrant]
  exact congrArg Host.Outcome.next (if_pos absent)

/-- R165: the option record, from the state in which its fetch has just ended. -/
def recordTaken (option0 option1 : Byte) (s : State) : State :=
  takeOptions option0 option1 (grantEnded [.read 0x00F4#16 option0, .read 0x00F5#16 option1] s)

theorem recordTaken_frame (option0 option1 : Byte) (s : State) :
    changesOnly [.pins, .arbiter, .passage, .carriage, .receiver] s (recordTaken option0 option1 s) :=
  (onReceiver_frame _ _).after (by decide) ((onCarriage_frame _ _).after (by decide)
    ((onPassage_frame _ _).after (by decide) ((grantEnded_frame _ s).mono (by decide))))

theorem beginBlocks_frame (millivolts : Nat) (millidegrees : Int) (s : State) :
    changesOnly [.keyboard, .arbiter, .sensor, .carriage, .attention] s (beginBlocks millivolts millidegrees s) :=
  (beginSeek_frame _).after (by decide) ((setCauses_frame _ _ _ _ _).after (by decide)
    ((takeReadings_frame _ _ _).after (by decide) ((requestHeaderLoad_frame _).after (by decide)
      ((onKeyboard_frame s _).mono (by decide)))))

/-- R164, R165: with no host cycle held, the fetch ends with the record taken and the blocks begun, and the event settles. -/
theorem startUpFetch_settles {s : State} (option0 option1 : Byte) (millivolts : Nat) (millidegrees : Int)
    (granted : s.arbiter.grant = some .startUp) (clear : s.carriage.anyCause = false) (held : s.arbiter.held = none) :
    exec (.startUpFetch option0 option1 millivolts millidegrees) s =
      .next (settle (beginBlocks millivolts millidegrees (recordTaken option0 option1 s))) := by
  simp only [exec, execStartUpFetch, if_pos granted]
  refine congrArg Host.Outcome.next (passHeld_of_none ?_)
  rw [settle_arbiter]
  have begins := beginBlocks_of_clear (s := recordTaken option0 option1 s) millivolts millidegrees clear rfl
  rw [requestHeaderLoad_of_noGrant rfl] at begins
  exact (congrArg (fun t : State => t.arbiter.held) begins).trans held

/-- Settles O3: until the release the part stands at its pin-reset values, so no cause is set, no host cycle is held and the
key-map queue is empty. -/
theorem startUpSequence : Obligations.StartUpSequence := by
  refine ⟨fun s holding absent => ?_, fun s o0 o1 millivolts millidegrees sound fetching granted => ?_⟩
  · exact ⟨_, rstiRelease_asks holding absent, rfl, rfl,
      (onArbiter_frame _ _).after (by decide) ((onPassage_frame s _).mono (by decide))⟩
  · obtain ⟨same, _⟩ := eq_unreleased sound (by rw [fetching]; nofun)
    generalize s.passage.startUp = startUp, s.arbiter.startUp = asked, s.arbiter.grant = grant at same
    generalize s.pins.paper = paper, s.pending = pending at same
    subst same
    let w := recordTaken o0 o1 (unreleased startUp asked grant paper pending)
    have begins := beginBlocks_of_clear (s := w) millivolts millidegrees rfl rfl
    rw [requestHeaderLoad_of_noGrant rfl] at begins
    have frame : changesOnly [.passage, .pins, .arbiter, .receiver, .keyboard, .sensor, .carriage, .attention] _ _ :=
      (beginBlocks_frame millivolts millidegrees w).after (by decide) ((recordTaken_frame o0 o1 _).mono (by decide))
    refine ⟨_, startUpFetch_settles o0 o1 millivolts millidegrees granted rfl rfl, ?_⟩
    rw [begins] at frame ⊢
    simp only [hostResetAsserted, settle_pins, settle_passage, settle_receiver, settle_arbiter, settle_keyboard,
      settle_sensor, settle_carriage, settle_attention]
    exact ⟨rfl, rfl, rfl, rfl, rfl, rfl, rfl, rfl, rfl, rfl, rfl, settlesOnly_of_settle frame (by decide)⟩

end Sys2Proof.Machine

namespace Sys2Proof.Machine

/-! ## The status byte, the refused cause, the masks and the urgent group (R168, R169, R186) -/

theorem tenBits_getLsbD (high : BitVec 2) (low : Byte) (i : Fin 10) :
    (high ++ low : BitVec 10).getLsbD i = if i < 8 then low.getLsbD i else high.getLsbD (i - 8) :=
  BitVec.getLsbD_append

/-- R186: the low byte of a ten-bit field gives bits 0 to 7. -/
theorem setTenBits_low_getLsbD (data : Byte) (value : BitVec 10) (i : Fin 10) :
    (setTenBits .low data value).getLsbD i = if i < 8 then data.getLsbD i else value.getLsbD i := by
  have last := i.isLt
  rw [setTenBits, tenBits_getLsbD]
  split
  · rfl
  · next high =>
    have reaches : 8 ≤ (i : Nat) := Nat.le_of_not_lt high
    rw [BitVec.getLsbD_extractLsb', Nat.add_sub_cancel' reaches, decide_eq_true (by omega), Bool.true_and]

/-- R186: the high byte of a ten-bit field gives bits 8 and 9. -/
theorem setTenBits_high_getLsbD (data : Byte) (value : BitVec 10) (i : Fin 10) :
    (setTenBits .high data value).getLsbD i = if i < 8 then value.getLsbD i else data.getLsbD (i - 8) := by
  have last := i.isLt
  rw [setTenBits, tenBits_getLsbD]
  split
  · next low =>
    have reaches : (i : Nat) < 8 := low
    rw [BitVec.getLsbD_extractLsb', Nat.zero_add, decide_eq_true reaches, Bool.true_and]
  · rw [BitVec.getLsbD_extractLsb', Nat.zero_add, decide_eq_true (by omega), Bool.true_and]

theorem one_getLsbD : ∀ i : Fin 10, (1#10).getLsbD i = decide (i = 0) := by decide

/-- R186: bit 0 of the masks stays 0. -/
theorem clearLineBit_getLsbD (value : BitVec 10) (i : Fin 10) :
    (value &&& ~~~1#10).getLsbD i = if i = 0 then false else value.getLsbD i := by
  rw [BitVec.getLsbD_and, BitVec.getLsbD_not, one_getLsbD, decide_eq_true i.isLt]
  by_cases line : i = 0 <;> simp [line]

/-- R186: bit 0 of the urgent group stays 1. -/
theorem setLineBit_getLsbD (value : BitVec 10) (i : Fin 10) :
    (value ||| 1#10).getLsbD i = if i = 0 then true else value.getLsbD i := by
  rw [BitVec.getLsbD_or, one_getLsbD]
  by_cases line : i = 0 <;> simp [line]

/-- R186: a mask byte is half of the masks or half of the urgent group. -/
def writeMaskByte (byte : MaskByte) (data : Byte) (s : State) : State :=
  match byte with
  | .maskLow => writeMask .low data s
  | .maskHigh => writeMask .high data s
  | .urgentLow => writeUrgent .low data s
  | .urgentHigh => writeUrgent .high data s

theorem writeControl_maskByte (byte : MaskByte) (data : Byte) (s : State) :
    writeControl (maskByteOffset byte) data s = writeMaskByte byte data s := by cases byte <;> rfl

theorem writeMaskByte_frame (byte : MaskByte) (data : Byte) (s : State) :
    changesOnly [.attention] s (writeMaskByte byte data s) := by
  cases byte with
  | maskLow | maskHigh | urgentLow | urgentHigh => exact onAttention_frame s _

/-- Settles O6: each byte reaches its owner, and the event settles. -/
theorem flagAndMaskWrites : Obligations.FlagAndMaskWrites := by
  refine ⟨fun s data free => ?_, fun s data free => ?_, fun s byte data free => ?_⟩
  · obtain ⟨writes, wrote, toU⟩ := setupWrite_settles (offset := 0x03#6) (data := data) free (by decide) rfl
      (onStatus_frame _ _) (by decide)
    exact ⟨_, congrArg Host.Outcome.next writes, settle_status _, wrote,
      settlesOnly_of_settle (toU.mono (by decide)) (by decide)⟩
  · obtain ⟨writes, wrote, toU⟩ := setupWrite_settles (offset := 0x3E#6) (data := data) free (by decide) rfl
      (onPassage_frame _ _) (by decide)
    exact ⟨_, congrArg Host.Outcome.next writes, settle_passage _, wrote,
      settlesOnly_of_settle (toU.mono (by decide)) (by decide)⟩
  · let u := writeMaskByte byte data (hostDriven (maskByteOffset byte) data s)
    obtain ⟨writes, wrote, toU⟩ := setupWrite_settles (offset := maskByteOffset byte) (data := data) free
      (by cases byte <;> decide) (writeControl_maskByte byte data _).symm (writeMaskByte_frame _ _ _) (by decide)
    refine ⟨settle u, congrArg Host.Outcome.next writes, ?_, fun i => ?_, ?_,
      settlesOnly_of_settle (toU.mono (by decide)) (by decide)⟩
    · rw [settle_attention]
      cases byte <;> rfl
    · rw [settle_attention]
      cases byte with
      | maskLow => exact ⟨(clearLineBit_getLsbD _ i).trans (by rw [setTenBits_low_getLsbD]; rfl), rfl⟩
      | maskHigh => exact ⟨(clearLineBit_getLsbD _ i).trans (by rw [setTenBits_high_getLsbD]; rfl), rfl⟩
      | urgentLow => exact ⟨rfl, (setLineBit_getLsbD _ i).trans (by rw [setTenBits_low_getLsbD]; rfl)⟩
      | urgentHigh => exact ⟨rfl, (setLineBit_getLsbD _ i).trans (by rw [setTenBits_high_getLsbD]; rfl)⟩
    · cases byte <;> exact wrote

end Sys2Proof.Machine

namespace Sys2Proof.Machine

/-! ## The offsets without a row of their own (R167, R170) -/

/-- R170: the offsets of the control block without a row of their own, each named after what it holds. -/
inductive SetupOffset : Offset → Prop
  | operand : SetupOffset 0x01#6
  | onThreshold : SetupOffset 0x10#6
  | offThreshold : SetupOffset 0x11#6
  | qualifyCode : SetupOffset 0x12#6
  | fadeCode : SetupOffset 0x13#6
  | listenCode : SetupOffset 0x14#6
  | breakLength : SetupOffset 0x15#6
  | timeoutCode : SetupOffset 0x16#6
  | levels : SetupOffset 0x17#6
  | pauseCode : SetupOffset 0x18#6
  | resumeCode : SetupOffset 0x19#6
  | notifyLevel : SetupOffset 0x21#6
  | roomLevel : SetupOffset 0x28#6
  | repeatCodes : SetupOffset 0x2D#6
  | fontBaseLow : SetupOffset 0x2F#6
  | fontBaseHigh : SetupOffset 0x30#6
  | density : SetupOffset 0x31#6
  | budget : SetupOffset 0x32#6
  | commandResult : SetupOffset 0x02#6
  | serviceStack : SetupOffset 0x05#6
  | requestsLow : SetupOffset 0x06#6
  | requestsHigh : SetupOffset 0x07#6
  | lineState : SetupOffset 0x0C#6
  | lineCause : SetupOffset 0x0D#6
  | receiveHead : SetupOffset 0x23#6
  | receiveTail : SetupOffset 0x24#6
  | sendHead : SetupOffset 0x29#6
  | sendTail : SetupOffset 0x2A#6
  | answerbackRemaining : SetupOffset 0x36#6
  | position : SetupOffset 0x37#6
  | printCount : SetupOffset 0x38#6
  | carriageState : SetupOffset 0x39#6
  | battery : SetupOffset 0x3A#6
  | temperature : SetupOffset 0x3B#6
  | refusedLow : SetupOffset 0x3C#6
  | refusedHigh : SetupOffset 0x3D#6
  | answerbackState : SetupOffset 0x3F#6

/-- R170: the 37 offsets are all that SETUP_WRITE may name. -/
theorem setupOffset_of_noOwnRow {offset : Offset} (row : offset.hasOwnRow = false) : SetupOffset offset := by
  have listed : ∀ o : Offset, o.hasOwnRow = false → o ∈
      [0x01#6, 0x02#6, 0x05#6, 0x06#6, 0x07#6, 0x0C#6, 0x0D#6, 0x10#6, 0x11#6, 0x12#6, 0x13#6, 0x14#6, 0x15#6, 0x16#6,
        0x17#6, 0x18#6, 0x19#6, 0x21#6, 0x23#6, 0x24#6, 0x28#6, 0x29#6, 0x2A#6, 0x2D#6, 0x2F#6, 0x30#6, 0x31#6, 0x32#6,
        0x36#6, 0x37#6, 0x38#6, 0x39#6, 0x3A#6, 0x3B#6, 0x3C#6, 0x3D#6, 0x3F#6] := by decide
  have mem := listed offset row
  simp only [List.mem_cons, List.not_mem_nil, or_false] at mem
  iterate 36
    obtain rfl | mem := mem
    · constructor
  exact mem ▸ .answerbackState

/-- R167: such a write stays in the blocks that own a setup field. -/
theorem writeControl_setup_frame {offset : Offset} (setup : SetupOffset offset) (data : Byte) (s : State) :
    changesOnly [.passage, .receiver, .transmitter, .flow, .tones, .rings, .keyboard, .dot] s
      (writeControl offset data s) := by
  cases setup with
  | operand => exact (onPassage_frame s _).mono (by decide)
  | onThreshold | offThreshold | qualifyCode | fadeCode | listenCode | pauseCode | resumeCode =>
    exact (onReceiver_frame s _).mono (by decide)
  | breakLength => exact (onTransmitter_frame s _).mono (by decide)
  | timeoutCode => exact (onFlow_frame s _).mono (by decide)
  | levels => exact (onTones_frame s _).mono (by decide)
  | notifyLevel | roomLevel => exact (onRings_frame s _).mono (by decide)
  | repeatCodes => exact (onKeyboard_frame s _).mono (by decide)
  | fontBaseLow | fontBaseHigh | density | budget => exact (onDot_frame s _).mono (by decide)
  | _ => exact changesOnly_refl _ s

theorem settle_breakLengthCode (u : State) : (settle u).transmitter.breakLengthCode = u.transmitter.breakLengthCode := by
  rw [(settle_touches u).2.2.1]

theorem settle_timeoutCode (u : State) : (settle u).flow.timeoutCode = u.flow.timeoutCode := by
  rw [(settle_touches u).2.1]

/-- R166: the judgement that ends an event shows at no offset without a row of its own. -/
theorem readControl_settle {offset : Offset} (setup : SetupOffset offset) (u : State) :
    readControl offset (settle u) = readControl offset u := by
  have rest := congrArg (readControl offset) (settle_rest u)
  cases setup with
  | breakLength => exact congrArg byteOf (settle_breakLengthCode u)
  | timeoutCode => exact congrArg byteOf (settle_timeoutCode u)
  | _ => exact rest

/-- R36, R170: the low half of a byte and the high half, as numbers. -/
theorem field_halves (data : Byte) : field data 0 4 = data.toNat % 16 ∧ field data 4 4 = data.toNat / 16 := by
  have := data.isLt
  exact ⟨congrArg (· % 16) (Nat.div_one _), Nat.mod_eq_of_lt (by omega)⟩

/-- R36: both repeat codes show in the byte, four bits each. -/
theorem repeatCodes_byte (delay rate : Nat) :
    byteOf (min delay 3) ||| byteOf (min rate 3 * 16) = BitVec.ofNat 8 (min delay 3 + 16 * min rate 3) := by
  have small : ∀ d r : Fin 4, byteOf d ||| byteOf (r * 16) = BitVec.ofNat 8 (d + 16 * r) := by decide
  exact small ⟨min delay 3, by omega⟩ ⟨min rate 3, by omega⟩

theorem writeRepeatCodes_eq (data : Byte) (s : State) :
    writeRepeatCodes data s = s.onKeyboard fun k =>
      { k with delayCode := min (data.toNat % 16) 3, rateCode := min (data.toNat / 16) 3 } := by
  unfold writeRepeatCodes
  rw [clamp_zero, clamp_zero, (field_halves data).1, (field_halves data).2]

/-- Settles O11: the byte goes to the owner of its field, if it has one, and the read shows what the owner made of it. -/
theorem setupWriteReadsBack : Obligations.SetupWriteReadsBack := by
  intro s offset data free formed
  have setup : SetupOffset offset := setupOffset_of_noOwnRow (by simpa [Instr.wellFormed] using formed)
  have noCommand : offset ≠ 0x00#6 := by
    rintro rfl
    cases formed
  let u := writeControl offset data (hostDriven offset data s)
  have frame := writeControl_setup_frame setup data (hostDriven offset data s)
  obtain ⟨writes, wrote, toU⟩ := setupWrite_settles free noCommand (u := u) rfl frame (by decide)
  refine ⟨settle u, congrArg Host.Outcome.next writes, wrote, ?readsBack, ?written,
    (settle_changesOnly u).after (by decide) (toU.mono (by decide)),
    onlySettles_of_settle (toU .switch (by decide)) ?flow ?transmitter⟩
  case readsBack =>
    rw [readControl_settle setup]
    cases setup with
    | breakLength => exact congrArg byteOf (clamp_zero 3 _)
    | timeoutCode => exact congrArg byteOf (clamp_zero 12 _)
    | density => exact congrArg byteOf (clamp_zero 7 _)
    | levels => exact BitVec.extractLsb'_append_extractLsb'
    | roomLevel => exact BitVec.ofNat_toNat 8 data
    | repeatCodes =>
      exact (congrArg (readControl 0x2D#6) (writeRepeatCodes_eq data _)).trans (repeatCodes_byte _ _)
    | fontBaseLow => exact BitVec.extractLsb'_append_eq_right
    | fontBaseHigh => exact BitVec.extractLsb'_append_eq_left
    | _ => rfl
  case written =>
    simp only [settle_passage, settle_receiver, settle_breakLengthCode, settle_timeoutCode, settle_tones, settle_rings,
      settle_keyboard, settle_dot]
    cases setup with
    | breakLength => exact ⟨rfl, rfl, clamp_zero 3 _, rfl, rfl, rfl, rfl, rfl⟩
    | timeoutCode => exact ⟨rfl, rfl, rfl, clamp_zero 12 _, rfl, rfl, rfl, rfl⟩
    | density =>
      exact ⟨rfl, rfl, rfl, rfl, rfl, rfl, rfl,
        congrArg (fun code => { s.dot with density := code }) (clamp_zero 7 data.toNat)⟩
    | repeatCodes =>
      exact ⟨rfl, rfl, rfl, rfl, rfl, rfl, congrArg State.keyboard (writeRepeatCodes_eq data _), rfl⟩
    | _ => exact ⟨rfl, rfl, rfl, rfl, rfl, rfl, rfl, rfl⟩
  case flow =>
    rw [settle_timeoutCode]
    cases setup <;> rfl
  case transmitter =>
    rw [settle_breakLengthCode]
    cases setup <;> rfl

end Sys2Proof.Machine

namespace Sys2Proof.Machine

/-! ## Withheld writes (R160 to R162, R169) -/

/-- R166: an address outside the 64 bytes of the page's control block names no offset. -/
theorem controlOffset_of_outside {page : Byte} {address : Addr}
    (outside : address.toNat < 256 * page.toNat ∨ 256 * page.toNat + 64 ≤ address.toNat) :
    controlOffset page address = none := by
  refine if_neg fun ⟨inPage, inBlock⟩ => ?_
  have high : address.toNat / 256 % 256 = page.toNat := by
    simpa [Nat.shiftRight_eq_div_pow] using congrArg BitVec.toNat inPage
  have low : address.toNat / 64 % 4 = 0 := by
    simpa [Nat.shiftRight_eq_div_pow] using congrArg BitVec.toNat inBlock
  have := address.isLt
  omega

/-- R166, R170: the command register stands at the foot of the control block. -/
theorem controlAddress_command (page : Byte) : controlAddress page 0x00#6 = BitVec.ofNat 16 (256 * page.toNat) := by
  have foot : (controlAddress page 0x00#6).toNat = page.toNat <<< 8 ||| 0 := BitVec.toNat_append page 0#8
  apply BitVec.eq_of_toNat_eq
  rw [foot, Nat.or_zero, Nat.shiftLeft_eq, BitVec.toNat_ofNat, Nat.mod_eq_of_lt, Nat.mul_comm]
  have := page.isLt
  omega

/-- R160, R162: outside the control block the answerback lock is asked first, then the key-map lock. -/
theorem judgeWrite_of_locked {s : State} {address : Addr} (outside : controlOffset s.passage.page address = none)
    (locked : (s.passage.answerbackLock = true ∧ (address - s.answerback.base).toNat < s.answerback.length) ∨
      (s.passage.keymapLock = true ∧ (address - s.keyboard.keymapBase).toNat < 196)) :
    judgeWrite address s = .withheld
      (if s.passage.answerbackLock = true ∧ (address - s.answerback.base).toNat < s.answerback.length then
        .answerbackLock else .keymapLock) := by
  simp only [judgeWrite, outside, inRegion, Bool.and_eq_true, decide_eq_true_iff]
  by_cases answerback : s.passage.answerbackLock = true ∧ (address - s.answerback.base).toNat < s.answerback.length
  · rw [if_pos answerback, if_pos answerback]
  · rw [if_neg answerback, if_neg answerback, if_pos]
    exact locked.resolve_left answerback

/-- R160, R169: a command write is busy while a command is RUNNING. -/
theorem judgeWrite_of_running {s : State} (running : s.command.result = .running) :
    judgeWrite (controlAddress s.passage.page 0x00#6) s = .commandBusy := by
  simp [judgeWrite, controlOffset_controlAddress, running]

/-- Settles O12: both writes end in `withhold`, from a state in which command-overrun is set for the second. -/
theorem withheldWrites : Obligations.WithheldWrites := by
  refine ⟨fun s address data free outside locked => ?_, fun s code free running => ?_⟩
  · refine ⟨_, ?_, rfl, rfl, rfl, withhold_frame address _ s⟩
    simp only [exec, execWithheldWrite, hostWrite_of_portFree free,
      judgeWrite_of_locked (controlOffset_of_outside outside) locked, completeWrite]
  · have busy : exec (.commandWriteWithheld code) s = .next (withhold (controlAddress s.passage.page 0x00#6) .commandBusy
        (s.onPassage fun p => { p with commandOverrun := true })) := by
      simp only [exec, execCommandWriteWithheld, writeAt, hostWrite_of_portFree free, judgeWrite_of_running running,
        completeWrite]
    refine ⟨_, busy, ?_, rfl, rfl, (withhold_frame _ _ _).after (fun _ => id) ((onPassage_frame s _).mono (by decide))⟩
    rw [← controlAddress_command]
    rfl

end Sys2Proof.Machine

namespace Sys2Proof.Machine

/-! ## The front of the queue (R176) -/

/-- Settles O1: a queue with a front takes the second branch of `step`. -/
theorem stepRunsFrontCommand : Obligations.StepRunsFrontCommand := by
  intro command rest s front
  rw [step, front]

end Sys2Proof.Machine

namespace Sys2Proof.Machine

/-! ## The highest eligible request and the in-service stack (R184, R187 to R190) -/

theorem AttentionSource.mem_order (a : AttentionSource) : a ∈ attentionOrder := by cases a <;> decide

/-- R184: the order of the sources is that of their codes. -/
theorem attentionOrder_ascends : attentionOrder.Pairwise fun a b => a.code < b.code := by decide

theorem AttentionSource.eq_of_code {a b : AttentionSource} (same : a.code = b.code) : a = b := by
  have apart : ∀ a ∈ attentionOrder, ∀ b ∈ attentionOrder, a.code = b.code → a = b := by decide
  exact apart a a.mem_order b b.mem_order same

/-- R184: a search in the order of the sources finds the least code. -/
theorem code_le_of_find? {p : AttentionSource → Bool} {a b : AttentionSource} (found : attentionOrder.find? p = some b)
    (ha : p a = true) : b.code ≤ a.code := by
  obtain ⟨_, before, after, parts, passed⟩ := List.find?_eq_some_iff_append.1 found
  have mem := a.mem_order
  have ascends := attentionOrder_ascends
  rw [parts] at mem ascends
  rcases List.mem_append.1 mem with early | late
  · exact absurd ha (by simpa using passed a early)
  · rcases List.mem_cons.1 late with rfl | later
    · exact le_rfl
    · exact ((List.pairwise_cons.1 (List.pairwise_append.1 ascends).2.1).1 a later).le

theorem find?_order_isSome {p : AttentionSource → Bool} {a : AttentionSource} (ha : p a = true) :
    ∃ b, attentionOrder.find? p = some b :=
  Option.isSome_iff_exists.1 (List.find?_isSome.2 ⟨a, a.mem_order, ha⟩)

section
variable (t : Attention)

/-- R187: eligibility is judged by the flag, the mask, and the stack with the source's group. -/
theorem Attention.eligible_iff (a : AttentionSource) :
    t.eligible a = true ↔ t.flags.getLsbD a.bit = true ∧ t.masks.getLsbD a.bit = false ∧
      (t.stack = [] ∨ t.stack.head? = some .normal ∧ t.urgent.getLsbD a.bit = true) := by
  unfold Attention.eligible
  rw [Bool.and_eq_true, Bool.and_eq_true, Bool.not_eq_true', and_assoc]
  refine and_congr_right fun _ => and_congr_right fun _ => ?_
  cases t.stack with
  | nil => simp
  | cons top rest => cases top <;> simp

/-- R188: the source is eligible and of the urgent group. -/
def Attention.urgentEligible (a : AttentionSource) : Bool := t.eligible a && t.urgent.getLsbD a.bit

theorem Attention.urgentEligible_iff (a : AttentionSource) :
    t.urgentEligible a = true ↔ t.eligible a = true ∧ t.urgent.getLsbD a.bit = true := Bool.and_eq_true_iff

theorem Attention.highest_eq :
    t.highest = (attentionOrder.find? t.urgentEligible).or (attentionOrder.find? t.eligible) := rfl

/-- R188: the highest eligible request is an eligible one. -/
theorem Attention.eligible_of_highest {a : AttentionSource} (highest : t.highest = some a) : t.eligible a = true := by
  rw [t.highest_eq] at highest
  rcases Option.or_eq_some_iff.1 highest with urgent | ⟨_, normal⟩
  · exact ((t.urgentEligible_iff a).1 (List.find?_some urgent)).1
  · exact List.find?_some normal

/-- R188: with no eligible request there is no highest one. -/
theorem Attention.highest_eq_none (idle : ∀ a ∈ attentionOrder, t.eligible a = false) : t.highest = none := by
  refine t.highest_eq.trans (Option.or_eq_none_iff.2 ⟨List.find?_eq_none.2 fun a mem => ?_,
    List.find?_eq_none.2 fun a mem => ?_⟩)
  · simp [urgentEligible_iff, idle a mem]
  · simp [idle a mem]

/-- R188: the eligible request that no other goes before, in its group or by its code, is the highest. -/
theorem Attention.highest_eq_some {a : AttentionSource} (eligible : t.eligible a = true)
    (first : ∀ b, t.eligible b = true →
      (t.urgent.getLsbD b.bit = true → t.urgent.getLsbD a.bit = true) ∧
      (t.urgent.getLsbD b.bit = t.urgent.getLsbD a.bit → a.code ≤ b.code)) : t.highest = some a := by
  rw [t.highest_eq]
  cases group : t.urgent.getLsbD a.bit with
  | true =>
    have urgent : t.urgentEligible a = true := (t.urgentEligible_iff a).2 ⟨eligible, group⟩
    obtain ⟨b, found⟩ := find?_order_isSome urgent
    obtain ⟨bEligible, bUrgent⟩ := (t.urgentEligible_iff b).1 (List.find?_some found)
    have least : b.code ≤ a.code := code_le_of_find? found urgent
    have same : b = a := AttentionSource.eq_of_code (least.antisymm ((first b bEligible).2 (bUrgent.trans group.symm)))
    rw [found, same, Option.some_or]
  | false =>
    have normal : ∀ b, t.eligible b = true → t.urgent.getLsbD b.bit = false := fun b bEligible =>
      Bool.eq_false_iff.2 fun urgent => Bool.false_ne_true (group.symm.trans ((first b bEligible).1 urgent))
    have noUrgent : attentionOrder.find? t.urgentEligible = none :=
      List.find?_eq_none.2 fun b _ both => by
        obtain ⟨bEligible, urgent⟩ := (t.urgentEligible_iff b).1 both
        exact Bool.false_ne_true ((normal b bEligible).symm.trans urgent)
    obtain ⟨b, found⟩ := find?_order_isSome eligible
    have bEligible : t.eligible b = true := List.find?_some found
    have least : b.code ≤ a.code := code_le_of_find? found eligible
    have same : b = a :=
      AttentionSource.eq_of_code (least.antisymm ((first b bEligible).2 ((normal b bEligible).trans group.symm)))
    rw [noUrgent, Option.none_or, found, same]

theorem Attention.code_of_none (highest : t.highest = none) : t.code = 0 := by rw [Attention.code, highest]; rfl

theorem Attention.code_of_some {a : AttentionSource} (highest : t.highest = some a) : t.code = a.code := by
  rw [Attention.code, highest]; rfl

end

/-- R187: ATTN is asserted while at least one eligible request exists. -/
theorem attn_iff (s : State) : attn s = true ↔ ∃ a, s.attention.eligible a = true := by
  rw [attn, List.any_eq_true]
  exact ⟨fun ⟨a, _, eligible⟩ => ⟨a, eligible⟩, fun ⟨a, eligible⟩ => ⟨a, a.mem_order, eligible⟩⟩

theorem takeAttention_of_none {s : State} (idle : s.attention.highest = none) : takeAttention s = s := by
  simp only [takeAttention, idle]

/-- R188, R190: what the taking of a request leaves of the Attention Controller. -/
theorem takeAttention_of_some {s : State} {a : AttentionSource} (highest : s.attention.highest = some a) :
    (takeAttention s).attention = { s.attention with
      flags := s.attention.flags &&& ~~~BitVec.twoPow 10 a.bit
      stack := s.attention.groupOf a :: s.attention.stack
      severalChanges := s.attention.severalChanges && a ≠ .line } := by
  simp only [takeAttention, highest, State.onAttention_attention]

/-- R166: the pins in an answered read of an offset: no memory strobe, and the offset's byte on the host data lines. -/
def hostAnswered (offset : Offset) (s : State) : State :=
  driveMemory [] (s.onPins fun p => { p with hostData := readControl offset s })

theorem hostAnswered_frame (offset : Offset) (s : State) : changesOnly [.pins] s (hostAnswered offset s) :=
  (driveMemory_frame _ _).after (fun _ => id) (onPins_frame s _)

/-- R160, R188: the read of 04h through a free port answers the code, and takes the request. -/
theorem attentionCodeRead_takes {s : State} (free : portFree s) :
    exec .attentionCodeRead s = .next (takeAttention (hostAnswered 0x04#6 s)) := by
  have judged : judgeRead (controlAddress s.passage.page 0x04#6) s = .control 0x04#6 := by
    simp only [judgeRead, controlOffset_controlAddress]
  simp only [exec, execAttentionCodeRead, hostRead_of_portFree free, judged]
  rfl

/-- Settles O4: the code answered and the request taken are those of the highest eligible request. -/
theorem attentionReadTakes : Obligations.AttentionReadTakes := by
  intro s free
  let u := hostAnswered 0x04#6 s
  have takes : changesOnly [.attention] u (takeAttention u) := takeAttention_frame u
  have pins : (takeAttention u).pins = u.pins := takes .pins (by decide)
  have attention : u.attention = s.attention := hostAnswered_frame 0x04#6 s .attention (by decide)
  refine ⟨_, attentionCodeRead_takes free, takes.after (by decide) ((hostAnswered_frame _ s).mono (by decide)), ?_, ?_,
    fun idle => ?_, fun a _ eligible first => ?_⟩
  · rw [pins]; rfl
  · rw [pins]; rfl
  · have noHighest := s.attention.highest_eq_none idle
    refine ⟨?_, (congrArg State.attention (takeAttention_of_none (s := u) noHighest)).trans attention⟩
    rw [pins]
    exact congrArg byteOf (s.attention.code_of_none noHighest)
  · have highest := s.attention.highest_eq_some eligible fun b => first b b.mem_order
    refine ⟨?_, takeAttention_of_some (s := u) highest⟩
    rw [pins]
    exact congrArg byteOf (s.attention.code_of_some highest)

/-- R189: what a read of 05h shows of a stack of at most two entries. -/
theorem stackByte_values :
    stackByte [] = 0x00#8 ∧ stackByte [.normal] = 0x01#8 ∧ stackByte [.urgent] = 0x05#8 ∧
      stackByte [.urgent, .normal] = 0x0A#8 := by decide

/-- Settles O5: the service end reaches the stack, and 05h has no owner that takes a byte. -/
theorem serviceEndPops : Obligations.ServiceEndPops := by
  refine ⟨fun s data free => ?_, fun s data free => ?_, fun s => ?_⟩
  · obtain ⟨writes, wrote, toU⟩ := setupWrite_settles (offset := 0x04#6) (data := data) free (by decide)
      (u := endService (hostDriven 0x04#6 data s)) rfl (onAttention_frame _ _) (by decide)
    refine ⟨_, congrArg Host.Outcome.next writes, settle_attention _, ?_, wrote,
      settlesOnly_of_settle (toU.mono (by decide)) (by decide)⟩
    rw [attn_iff, settle_attention]
    exact exists_congr fun a => Attention.eligible_iff _ a
  · obtain ⟨writes, wrote, toU⟩ := setupWrite_settles (offset := 0x05#6) (data := data) free (by decide) rfl
      (changesOnly_refl [] _) (by decide)
    exact ⟨_, congrArg Host.Outcome.next writes, settle_attention _, wrote, settlesOnly_of_settle toU (by decide)⟩
  · obtain ⟨empty, normal, urgent, both⟩ := stackByte_values
    refine ⟨fun stack => ?_, fun stack => ?_, fun stack => ?_, fun stack => ?_⟩
    · exact (congrArg stackByte stack).trans empty
    · exact (congrArg stackByte stack).trans normal
    · exact (congrArg stackByte stack).trans urgent
    · exact (congrArg stackByte stack).trans both

end Sys2Proof.Machine

namespace Sys2Proof.Machine

/-! ## The masks, the urgent group and the in-service stack (R186 to R190)

`Attention.servicing` names the part of the Attention Controller that a request does not move. Most operations leave it
as it is, since of the Attention Controller they raise requests alone; the read of 04h, the service end, the mask writes
and RESTART move it, and `KeepsServicing` is closed under composition. -/

/-- The part of the Attention Controller that `attentionSound` speaks of. -/
structure Servicing where
  masks : BitVec 10
  urgent : BitVec 10
  stack : List ServiceGroup

def Attention.servicing (t : Attention) : Servicing := ⟨t.masks, t.urgent, t.stack⟩

theorem attentionSound_congr {s t : State} (h : t.attention.servicing = s.attention.servicing) :
    attentionSound t ↔ attentionSound s := by
  obtain ⟨masks, urgent, stack⟩ := Servicing.mk.inj h
  simp only [attentionSound, masks, urgent, stack]

/-- What leads from `s` to `t` keeps the masks, the urgent group and the stack legal. -/
def KeepsServicing (s t : State) : Prop := attentionSound s → attentionSound t

section
variable {s t u : State}

theorem KeepsServicing.of_eq (h : t.attention.servicing = s.attention.servicing) : KeepsServicing s t :=
  (attentionSound_congr h).2

theorem KeepsServicing.of_frame {blocks : List Block} (h : changesOnly blocks s t) (hb : .attention ∉ blocks) :
    KeepsServicing s t := .of_eq (congrArg Attention.servicing (h .attention hb))

theorem KeepsServicing.refl (s : State) : KeepsServicing s s := id

theorem KeepsServicing.trans (h : KeepsServicing s t) (h' : KeepsServicing t u) : KeepsServicing s u := h' ∘ h

theorem KeepsServicing.then_eq (h : KeepsServicing s t) (hu : u.attention.servicing = t.attention.servicing) :
    KeepsServicing s u := h.trans (.of_eq hu)

theorem KeepsServicing.from_eq (h : KeepsServicing t u) (ht : t.attention.servicing = s.attention.servicing) :
    KeepsServicing s u := (KeepsServicing.of_eq ht).trans h

theorem KeepsServicing.ite {a b : State} {c : Prop} [Decidable c] (ha : c → KeepsServicing s a)
    (hb : ¬ c → KeepsServicing s b) : KeepsServicing s (if c then a else b) := by
  split
  · next h => exact ha h
  · next h => exact hb h

theorem KeepsServicing.next (h : Host.Outcome.next (φ := Fault) (ρ := Refusal) u = .next t)
    (hu : KeepsServicing s u) : KeepsServicing s t := Host.Outcome.next.inj h ▸ hu

theorem KeepsServicing.ite_next {a b : State} {c : Prop} [Decidable c]
    (h : Host.Outcome.next (φ := Fault) (ρ := Refusal) (if c then a else b) = .next t)
    (ha : c → KeepsServicing s a) (hb : ¬ c → KeepsServicing s b) : KeepsServicing s t := .next h (.ite ha hb)

/-- R99: the judgement that ends an event is no part of it. -/
theorem KeepsServicing.settled (h : KeepsServicing s u) : KeepsServicing s (settle u) :=
  h.then_eq (congrArg Attention.servicing (settle_attention u))

/-- A command that gives one effect under its guard, with the judgement that ends its event, and is idle otherwise. -/
theorem KeepsServicing.guarded {a : State} {c : Prop} [Decidable c]
    (h : Host.Outcome.next (φ := Fault) (ρ := Refusal) (if c then settle a else s) = .next t)
    (ha : c → KeepsServicing s a) : KeepsServicing s t := .ite_next h (fun hc => (ha hc).settled) fun _ => .refl s

end

/-! ### What moves the masks, the urgent group or the stack -/

section
variable (s : State)

/-- R187, R188: on an empty stack any group is taken, above a NORMAL entry an urgent source alone, and above an URGENT
entry none. -/
theorem takeAttention_keepsServicing : KeepsServicing s (takeAttention s) := by
  intro sound
  cases highest : s.attention.highest with
  | none => rwa [takeAttention_of_none highest]
  | some a =>
    obtain ⟨masks, urgent, stack⟩ := sound
    obtain ⟨_, _, allows⟩ := (s.attention.eligible_iff a).1 (s.attention.eligible_of_highest highest)
    rw [attentionSound, takeAttention_of_some highest]
    refine ⟨masks, urgent, ?_⟩
    rcases stack with empty | normal | alone | both
    · rw [empty]
      cases s.attention.groupOf a
      · exact .inr (.inl rfl)
      · exact .inr (.inr (.inl rfl))
    · have isUrgent : s.attention.urgent.getLsbD a.bit = true := by simpa [normal] using allows
      rw [normal, Attention.groupOf, if_pos isUrgent]
      exact .inr (.inr (.inr rfl))
    · simp [alone] at allows
    · simp [both] at allows

/-- R189: what is left under the top entry is legal too. -/
theorem endService_keepsServicing : KeepsServicing s (endService s) := by
  rintro ⟨masks, urgent, stack⟩
  refine ⟨masks, urgent, ?_⟩
  show s.attention.stack.tail = [] ∨ _
  rcases stack with h | h | h | h
  · exact .inl (congrArg List.tail h)
  · exact .inl (congrArg List.tail h)
  · exact .inl (congrArg List.tail h)
  · exact .inr (.inl (congrArg List.tail h))

/-- R186: a write leaves the mask of LINE at 0. -/
theorem writeMask_keepsServicing (half : Half) (data : Byte) : KeepsServicing s (writeMask half data s) :=
  fun ⟨_, urgent, stack⟩ => ⟨clearLineBit_getLsbD _ 0, urgent, stack⟩

/-- R186: a write leaves LINE urgent. -/
theorem writeUrgent_keepsServicing (half : Half) (data : Byte) : KeepsServicing s (writeUrgent half data s) :=
  fun ⟨masks, _, stack⟩ => ⟨masks, setLineBit_getLsbD _ 0, stack⟩

/-- R182: RESTART empties the stack. -/
theorem restartClears_keepsServicing : KeepsServicing s (restartClears s) :=
  fun ⟨masks, urgent, _⟩ => ⟨masks, urgent, .inl rfl⟩

end

/-! ### Operations that of the Attention Controller raise requests alone -/

section
variable (s : State)

/-- R185: a request moves its flag. -/
@[simp] theorem servicing_raise (a : AttentionSource) : (raise a s).attention.servicing = s.attention.servicing := rfl

/-- R190: LINE brings its cause and the several-changes mark. -/
@[simp] theorem servicing_raiseLine (c : LineCause) :
    (raiseLine c s).attention.servicing = s.attention.servicing := rfl

@[simp] theorem servicing_setKeyLost : (setKeyLost s).attention.servicing = s.attention.servicing := by
  rw [setKeyLost_eq]; rfl

@[simp] theorem servicing_setTxDiscarded : (setTxDiscarded s).attention.servicing = s.attention.servicing := by
  rw [setTxDiscarded_eq]; rfl

@[simp] theorem servicing_setPrintOverrun : (setPrintOverrun s).attention.servicing = s.attention.servicing := by
  rw [setPrintOverrun_eq]; rfl

@[simp] theorem servicing_setRingLoss : (setRingLoss s).attention.servicing = s.attention.servicing := by
  rw [setRingLoss_eq]; rfl

@[simp] theorem servicing_endCommand (c : RunningCommand) (r : CommandResult) :
    (endCommand c r s).attention.servicing = s.attention.servicing := by
  rcases endCommand_cases c r s with ⟨_, h⟩ | ⟨_, h⟩ <;> rw [h]
  rfl

@[simp] theorem servicing_judgePrintIdle : (judgePrintIdle s).attention.servicing = s.attention.servicing := by
  rcases judgePrintIdle_cases s with ⟨_, h⟩ | ⟨_, h⟩ <;> rw [h]
  rfl

@[simp] theorem servicing_abortAnswerback : (abortAnswerback s).attention.servicing = s.attention.servicing := by
  obtain ⟨_, _, _, attention⟩ := abortAnswerback_blocks s
  rw [attention]; rfl

@[simp] theorem servicing_flushPrintQueue : (flushPrintQueue s).attention.servicing = s.attention.servicing :=
  servicing_judgePrintIdle _

/-! #### Rings and the keyboard -/

@[simp] theorem requestPlacement_attention : (requestPlacement s).attention = s.attention :=
  requestPlacement_frame s .attention (by decide)

@[simp] theorem appendPrint_attention (e : PrintEntry) : (appendPrint e s).attention = s.attention :=
  appendPrint_frame e s .attention (by decide)

@[simp] theorem applyPreset_attention (p : Preset) : (applyPreset p s).attention = s.attention :=
  applyPreset_frame p s .attention (by decide)

@[simp] theorem requestSound_attention (r : Sound) : (requestSound r s).attention = s.attention :=
  requestSound_frame r s .attention (by decide)

@[simp] theorem requestClick_attention : (requestClick s).attention = s.attention :=
  requestClick_frame s .attention (by decide)

@[simp] theorem joinQueue_attention (e : KeyEvent) : (joinQueue e s).attention = s.attention :=
  joinQueue_frame e s .attention (by decide)

@[simp] theorem finishEvent_attention : (finishEvent s).attention = s.attention :=
  finishEvent_frame s .attention (by decide)

@[simp] theorem servicing_offerRecord (record : ReceiveRecord) :
    (offerRecord record s).attention.servicing = s.attention.servicing := by
  rcases offerRecord_cases record s with ⟨_, h⟩ | ⟨_, h⟩ <;> simp [h]

@[simp] theorem servicing_recordFunction (code : Byte) :
    (recordFunction code s).attention.servicing = s.attention.servicing := by
  unfold recordFunction; split <;> simp

@[simp] theorem servicing_appendFeed : (appendFeed s).attention.servicing = s.attention.servicing := by simp [appendFeed]

@[simp] theorem servicing_offerPress (e : KeyEvent) : (offerPress e s).attention.servicing = s.attention.servicing := by
  unfold offerPress; split <;> simp

/-- R33, R34: of a scan pass the events offered to a full queue raise LOSS. -/
theorem servicing_scanEnded (after : Vector KeyState 64) :
    (scanEnded after s).attention.servicing = s.attention.servicing := by
  have offered : ∀ (events : List KeyEvent) t, (offerAll events t).attention.servicing = t.attention.servicing := by
    intro events
    induction events with
    | nil => exact fun t => rfl
    | cons e rest ih => exact fun t => (ih _).trans (servicing_offerPress t e)
  have asked : ∀ (l : List Position) t,
      (l.foldl (fun acc p => enqueueKeymap (.eligibility p) acc) t).attention = t.attention := by
    intro l
    induction l with
    | nil => exact fun t => rfl
    | cons p rest ih => exact fun t => (ih _).trans rfl
  have requested : ∀ (l : List Position) t, (requestEligibility l t).attention = t.attention := fun l t => by
    unfold requestEligibility
    split
    · rfl
    · exact (asked _ _).trans rfl
  have judged : (judgeRepeatKey (scanOffered after s)).attention.servicing = s.attention.servicing := by
    rw [scanOffered_eq, show (judgeRepeatKey _).attention = _ from judgeRepeatKey_frame _ .attention (by decide), offered]
    rfl
  unfold scanEnded
  dsimp only
  split
  · rw [requested, judged]
  · exact judged

/-! #### The line -/

@[simp] theorem servicing_enterIdle : (enterIdle s).attention.servicing = s.attention.servicing := by
  obtain ⟨_, _, _, _, _, attention, _⟩ := enterIdle_blocks s
  rw [attention]; rfl

@[simp] theorem enterListen_attention : (enterListen s).attention = s.attention :=
  enterListen_frame s .attention (by decide)

@[simp] theorem enterData_attention : (enterData s).attention = s.attention := enterData_frame s .attention (by decide)

/-- R91: of the boundary's effects the end of POST-BREAK alone raises a request. -/
theorem servicing_bitBoundary : (bitBoundary s).attention.servicing = s.attention.servicing := by
  have framed : ∀ t, (frameOrIdle t).attention = t.attention := fun t => frameOrIdle_frame t .attention (by decide)
  have ended : ∀ t, (endPostBreak t).attention.servicing = t.attention.servicing := fun t => by
    unfold endPostBreak
    dsimp only
    rw [framed, State.onTransmitter_attention]
    split <;> simp
  have effect : ∀ t, (boundaryEffect t).attention.servicing = t.attention.servicing := fun t => by
    have started : (startFrame t).attention = t.attention := startFrame_frame t .attention (by decide)
    have after : (afterFrame t).attention = t.attention := afterFrame_frame t .attention (by decide)
    unfold boundaryEffect
    split
    · rfl
    · split
      · rfl
      · split <;> simp [started]
    · split
      · split
        · rw [after]
        · rfl
      · rfl
    · rfl
    · split
      · rfl
      · exact ended t
  unfold bitBoundary
  split
  · rw [settle_attention, effect]; rfl
  · rfl

theorem servicing_takeLineIn (f : ReceivedFrame) : (takeLineIn f s).attention.servicing = s.attention.servicing := by
  have printed : (if s.switch.lineIn.print then
        if printRoom s then
          appendPrint (if f.parityError || f.framingError then .errorGlyph else .character (printCode f.character)) s
        else setPrintOverrun s
      else s).attention.servicing = s.attention.servicing := by
    split
    · split <;> simp
    · rfl
  unfold takeLineIn
  dsimp only
  split
  · rw [servicing_offerRecord, printed]
  · exact printed

@[simp] theorem triggerAnswerback_attention : (triggerAnswerback s).attention = s.attention :=
  triggerAnswerback_frame s .attention (by decide)

theorem servicing_judgeFrame (f : ReceivedFrame) : (judgeFrame f s).attention.servicing = s.attention.servicing := by
  unfold judgeFrame
  dsimp only
  split
  · rfl
  · split
    · rfl
    · split <;> simp [servicing_takeLineIn]

theorem servicing_receiveBreak : (receiveBreak s).attention.servicing = s.attention.servicing := by
  have marked : (if joinedRing s.switch.lineIn s then offerRecord (plainRecord .breakMarker 0) (raise .breakIn s)
      else raise .breakIn s).attention.servicing = s.attention.servicing := by
    split <;> simp
  have cleared : ∀ t, (clearRemotePause t).attention = t.attention := fun _ => rfl
  unfold receiveBreak
  dsimp only
  rw [cleared, servicing_abortAnswerback]
  split
  · rw [servicing_flushPrintQueue, marked]
  · exact marked

theorem servicing_advanceFramer (tone : Tone) : (advanceFramer tone s).attention.servicing = s.attention.servicing := by
  unfold advanceFramer
  split
  · rfl
  · exact (servicing_judgeFrame _ _).trans rfl
  · exact (servicing_receiveBreak _).trans rfl

/-- R61 to R71: of the Attention Controller a sample moves what its frame or its break requests. -/
theorem servicing_sampleLine (line : LineInput) : (sampleLine line s).attention.servicing = s.attention.servicing := by
  have arrives : ∀ tone t, (carrierArrives tone t).attention.servicing = t.attention.servicing := fun tone t => by
    unfold carrierArrives
    dsimp only
    split
    · rfl
    · exact (servicing_advanceFramer _ _).trans rfl
    · rfl
  have leaves : ∀ t, (carrierLeaves t).attention = t.attention := fun t => by
    unfold carrierLeaves
    dsimp only
    split <;> rfl
  have recorded : ∀ energy, (recordSample energy s).attention = s.attention := fun _ => rfl
  unfold sampleLine lineSample
  split
  · rfl
  · dsimp only
    rw [settle_attention]
    split
    · rw [arrives, recorded]
    · split
      · rw [leaves, recorded]
      · split
        · rw [servicing_advanceFramer, recorded]
        · rw [recorded]

/-! #### The printer -/

@[simp] theorem servicing_setCauses (paper hot battery jam : Bool) :
    (setCauses paper hot battery jam s).attention.servicing = s.attention.servicing := by rw [setCauses_eq]; rfl

@[simp] theorem servicing_takeReadings (millivolts : Nat) (millidegrees : Int) :
    (takeReadings millivolts millidegrees s).attention.servicing = s.attention.servicing := by simp [takeReadings]

@[simp] theorem beginOperation_attention (o : Operation) : (beginOperation o s).attention = s.attention :=
  beginOperation_frame o s .attention (by decide)

@[simp] theorem servicing_continueEntry : (continueEntry s).attention.servicing = s.attention.servicing := by
  unfold continueEntry; split <;> simp [enterReady]

@[simp] theorem servicing_endOperation : (endOperation s).attention.servicing = s.attention.servicing := by
  unfold endOperation; split <;> simp

@[simp] theorem servicing_judgeHalt : (judgeHalt s).attention.servicing = s.attention.servicing := by
  unfold judgeHalt
  split
  · split <;> simp
  · split <;> simp
  · rfl

@[simp] theorem servicing_seekFinds : (seekFinds s).attention.servicing = s.attention.servicing := by simp [seekFinds]
@[simp] theorem servicing_seekFails : (seekFails s).attention.servicing = s.attention.servicing := by simp [seekFails]
@[simp] theorem servicing_losePaper : (losePaper s).attention.servicing = s.attention.servicing := by simp [losePaper]
@[simp] theorem servicing_findPaper : (findPaper s).attention.servicing = s.attention.servicing := by simp [findPaper]

@[simp] theorem servicing_endReturn (home : Bool) : (endReturn home s).attention.servicing = s.attention.servicing := by
  cases home <;> simp [endReturn]

@[simp] theorem columnStep_attention (column : Nat) : (columnStep column s).attention = s.attention := rfl
@[simp] theorem dotToIdle_attention : (dotToIdle s).attention = s.attention := rfl
@[simp] theorem startGroup_attention : (startGroup s).attention = s.attention :=
  startGroup_frame s .attention (by decide)

@[simp] theorem servicing_endDwell : (endDwell s).attention.servicing = s.attention.servicing := by
  unfold endDwell; split <;> simp [endCell]

@[simp] theorem servicing_endFiring : (endFiring s).attention.servicing = s.attention.servicing := by
  unfold endFiring
  split
  · rfl
  · unfold enterDwell; split <;> simp

@[simp] theorem servicing_beginFiring : (beginFiring s).attention.servicing = s.attention.servicing := by
  unfold beginFiring; split <;> simp

@[simp] theorem servicing_releaseStrobe (row : Nat) : (releaseStrobe row s).attention.servicing = s.attention.servicing := by
  unfold releaseStrobe; dsimp only; split <;> simp

@[simp] theorem servicing_holdGlyph (c1 c2 c3 c4 c5 : Byte) :
    (holdGlyph c1 c2 c3 c4 c5 s).attention.servicing = s.attention.servicing := by
  unfold holdGlyph; dsimp only; split <;> simp

@[simp] theorem servicing_expireColumn : (expireColumn s).attention.servicing = s.attention.servicing := by
  unfold expireColumn; dsimp only; split <;> simp

@[simp] theorem servicing_endSettle : (endSettle s).attention.servicing = s.attention.servicing := by
  unfold endSettle; dsimp only; split <;> simp

theorem servicing_handleEntry (e : PrintEntry) : (handleEntry e s).attention.servicing = s.attention.servicing := by
  have bell : (ringBell e s).attention = s.attention := ringBell_frame e s .attention (by decide)
  unfold handleEntry beginOperations
  split <;> simp [bell]

/-- R164: the blocks begin with the first readings and the judgement of the causes. -/
theorem servicing_beginBlocks (millivolts : Nat) (millidegrees : Int) :
    (beginBlocks millivolts millidegrees s).attention.servicing = s.attention.servicing := by
  have loads : ∀ t, (requestHeaderLoad t).attention = t.attention := fun t =>
    requestHeaderLoad_frame t .attention (by decide)
  simp [beginBlocks, beginSeek, loads]

/-! #### Grants and takes -/

theorem servicing_advanceReceiveHead : (advanceReceiveHead s).attention.servicing = s.attention.servicing := by
  obtain ⟨_, attention, _⟩ := advanceReceiveHead_blocks s
  rw [attention]; rfl

theorem servicing_deliver (source : WaitingSource) (character : Byte) :
    (deliver source character s).attention.servicing = s.attention.servicing := by
  have lined : (deliverLineOut source character s).attention.servicing = s.attention.servicing := by
    unfold deliverLineOut
    split
    · cases source <;> rfl
    · simp
  have sent : (if (s.switch.row source).lineOut then deliverLineOut source character s else s).attention.servicing =
      s.attention.servicing := by
    split
    · exact lined
    · rfl
  unfold deliver
  dsimp only
  split
  · rw [servicing_offerRecord]
    split <;> simp [sent]
  · split <;> simp [sent]

theorem servicing_leaveSource (source : WaitingSource) :
    (leaveSource source s).attention.servicing = s.attention.servicing := by
  cases source with
  | keyboard => simp [leaveSource]
  | sendRing =>
    obtain ⟨_, attention, _⟩ := advanceSendTail_blocks s
    rw [leaveSource, attention]; rfl
  | answerback =>
    have asks : ∀ t, (requestAnswerbackRead t).attention = t.attention := fun t =>
      requestAnswerbackRead_frame t .attention (by decide)
    unfold leaveSource advanceAnswerback
    dsimp only
    split
    · rfl
    · rw [asks]; rfl

end
end Sys2Proof.Machine

namespace Sys2Proof.Machine

section
variable (s : State)

/-! ### Local functions, commands and setup -/

theorem lineLocalFunction_keepsServicing : KeepsServicing s (lineLocalFunction s) :=
  .ite (fun _ => .of_eq (by simp)) fun _ => .of_eq (by simp)

/-- R42: of the local functions LINE/LOCAL and FEED raise requests besides that of the function's record. -/
theorem actOnCode_keepsServicing (code : Byte) : KeepsServicing s (actOnCode code s) := by
  have records : ∀ {act : State → State}, (∀ t, KeepsServicing t (act t)) →
      KeepsServicing s (finishEvent (act (recordFunction code s))) := fun acts =>
    ((KeepsServicing.of_eq (servicing_recordFunction s code)).trans (acts _)).trans
      (.of_frame (finishEvent_frame _) (by decide))
  unfold actOnCode
  split
  · exact .of_frame (finishEvent_frame s) (by decide)
  · exact .of_eq rfl
  · exact records fun t => .of_frame (breakFunction_frame t) (by decide)
  · exact records lineLocalFunction_keepsServicing
  · exact records fun t => .of_frame (hereIsFunction_frame t) (by decide)
  · exact records fun t => .of_frame (tabSetFunction_frame t) (by decide)
  · exact records fun t => .of_frame (tabClearFunction_frame t) (by decide)
  · exact records fun t => .of_eq rfl
  · exact .ite (fun _ => .of_eq (servicing_appendFeed s)) fun _ => .of_eq rfl
  · exact records fun t => .of_frame (duplexFunction_frame t) (by decide)
  · exact records fun t => .of_eq rfl

theorem translate_keepsServicing (data : Byte) : KeepsServicing s (translate data s) := by
  unfold translate
  split
  · exact .refl s
  · exact actOnCode_keepsServicing s _

theorem restartRings_attention : (restartRings s).attention = s.attention :=
  (dropRequest_frame _ _ .attention (by decide)).trans ((dropRequest_frame _ _ .attention (by decide)).trans rfl)

theorem restartKeyboard_attention : (restartKeyboard s).attention = s.attention := by
  unfold restartKeyboard discardTranslation
  split <;> rfl

theorem restartCarriage_attention : (restartCarriage s).attention = s.attention := rfl

theorem restartFiring_attention : (restartFiring s).attention = s.attention :=
  (restartDot_frame _ .attention (by decide)).trans (dropRequest_frame _ _ .attention (by decide))

/-- R182: before its last effect RESTART raises what the entry to IDLE and the abort of the answerback request. -/
theorem restartEffect_keepsServicing : KeepsServicing s (restartEffect s) := by
  unfold restartEffect
  refine (restartClears_keepsServicing _).from_eq ?_
  rw [restartFiring_attention, restartCarriage_attention, restartTones, State.onTones_attention,
    restartKeyboard_attention, restartRings_attention, servicing_abortAnswerback, servicing_enterIdle]
  rfl

/-- R176: of the commands RESTART alone moves the stack. -/
theorem takeCommand_keepsServicing (code : Byte) : KeepsServicing s (takeCommand code s) := by
  have listens : ∀ channel t, KeepsServicing t (lineOnEffect channel t) := fun channel t =>
    .ite (fun _ => .of_eq (congrArg Attention.servicing (enterListen_attention _))) fun _ => .of_eq rfl
  refine KeepsServicing.from_eq (t := s.onCommand fun c => { c with last := code }) ?_ rfl
  unfold takeCommand
  dsimp only
  split
  · exact listens _ _
  · exact listens _ _
  · exact (KeepsServicing.ite (fun _ => .refl _) fun _ => .of_eq (servicing_enterIdle _)).then_eq rfl
  · exact .of_frame (sendBreakEffect_frame _) (by decide)
  · unfold sendAnswerbackEffect
    split
    · exact .of_eq (congrArg Attention.servicing (triggerAnswerback_attention _))
    · exact .of_eq rfl
    · exact .of_eq rfl
  · exact .of_frame (setModeEffect_frame _) (by decide)
  · exact .of_eq (servicing_flushPrintQueue _)
  · exact .ite (fun _ => .of_eq (congrArg Attention.servicing (appendPrint_attention _ _))) fun _ => .of_eq rfl
  · exact .ite (fun _ => .ite (fun _ => .of_eq rfl) fun _ => .of_eq rfl) fun _ => .of_eq rfl
  · exact .ite (fun _ => .of_eq rfl) fun _ => .of_eq rfl
  · exact .of_eq rfl
  · exact restartEffect_keepsServicing _
  · exact .of_eq rfl

/-- R167: a byte goes to the owner of its field; the service end and the masks are the Attention Controller's own. -/
theorem writeControl_keepsServicing (offset : Offset) (data : Byte) :
    KeepsServicing s (writeControl offset data s) := by
  unfold writeControl
  split
  case h_1 => exact takeCommand_keepsServicing s data
  case h_4 => exact endService_keepsServicing s
  case h_5 | h_6 => exact writeMask_keepsServicing s _ data
  case h_7 | h_8 => exact writeUrgent_keepsServicing s _ data
  case h_9 | h_10 | h_37 => exact .ite (fun _ => .of_eq rfl) fun _ => .of_eq rfl
  case h_21 | h_22 | h_23 | h_24 => exact .of_frame (setRow_frame _ _ s) (by decide)
  case h_25 | h_26 | h_27 | h_30 | h_31 | h_32 => exact .of_frame (writeRingPlacement_frame _ data s) (by decide)
  case h_34 | h_35 => exact (KeepsServicing.of_frame (requestHeaderLoad_frame _) (by decide)).from_eq rfl
  case h_42 | h_43 | h_44 => exact .of_frame (writeAnswerbackSetup_frame s _ data) (by decide)
  all_goals exact .of_eq rfl

/-! ### Host cycles and grants -/

theorem passCycle_keepsServicing (c : HostCycle) : KeepsServicing s (passCycle c s) := by
  cases c with
  | read address data outcome =>
    cases outcome with
    | control offset =>
      exact .ite (fun _ => (takeAttention_keepsServicing _).from_eq rfl) fun _ => .of_eq rfl
    | passed consume =>
      refine .ite (fun _ => .settled ?_) fun _ => .of_eq rfl
      exact (KeepsServicing.of_frame (consumeRecord_frame _) (by decide)).from_eq rfl
  | write address data outcome =>
    cases outcome with
    | commandBusy => exact .of_eq rfl
    | withheld cause => exact .of_eq rfl
    | control offset =>
      exact .settled ((writeControl_keepsServicing (driveMemory [.write address data] s) offset data).from_eq rfl)
    | passed head entry =>
      exact (KeepsServicing.of_frame (reportWrite_frame head entry data _) (by decide)).from_eq rfl

theorem runCycle_keepsServicing (c : HostCycle) : KeepsServicing s (runCycle c s) :=
  .ite (fun _ => .of_eq rfl) fun _ =>
    .ite (fun _ => (KeepsServicing.of_frame (startNextGrant_frame _) (by decide)).from_eq rfl) fun _ =>
      passCycle_keepsServicing s c

theorem passHeld_keepsServicing : KeepsServicing s (passHeld s) := by
  unfold passHeld
  split
  · exact .refl s
  · next c _ =>
    have passed : KeepsServicing s (passCycle c (s.onArbiter fun a => { a with held := none })) :=
      (passCycle_keepsServicing _ c).from_eq rfl
    exact passed.then_eq rfl

/-- R171: a grant ends with its owner's action on the data, and the held cycle passes. -/
theorem finishGrant_keepsServicing (cycles : List MemCycle) {act : State → State}
    (acts : ∀ t, KeepsServicing t (act t)) : KeepsServicing s (finishGrant cycles act s) :=
  (KeepsServicing.settled ((acts (grantEnded cycles s)).from_eq rfl)).trans (passHeld_keepsServicing _)

/-- A grant whose owner's action may have been withdrawn by a discard. -/
theorem finishOther_keepsServicing (cycles : List MemCycle) (discarded : Bool) {act : State → State}
    (acts : ∀ t, KeepsServicing t (act t)) : KeepsServicing s (finishGrant cycles (unlessDiscarded discarded act) s) :=
  finishGrant_keepsServicing s cycles fun t => .ite (fun _ => .refl t) fun _ => acts t

/-! ### Every step -/

theorem exec_keepsServicing {t : State} (i : Instr) (h : exec i s = .next t) : KeepsServicing s t := by
  cases hc : hostCycleOf i s with
  | some c =>
    rw [exec_of_hostCycleOf s hc] at h
    exact .ite_next h (fun _ => runCycle_keepsServicing s c) fun _ => .refl s
  | none =>
    cases i with
    | pinReset =>
      obtain ⟨sound, _⟩ := resetMeetsInvariants
      exact .next h fun _ => (attentionSound_congr (s := State.reset) rfl).2 sound
    | rstiRelease =>
      exact .ite_next h (fun _ => (KeepsServicing.of_frame (requestGrant_frame _ _) (by decide)).from_eq rfl)
        fun _ => .refl s
    | startUpFetch o0 o1 mv md =>
      refine .ite_next h (fun _ => finishGrant_keepsServicing s _ fun t => ?_) fun _ => .refl s
      exact .of_eq (servicing_beginBlocks (takeOptions o0 o1 t) mv md)
    | carrierPresent low high | carrierAbsent low high | frameReceived low high | receivedBreak low high =>
      exact .ite_next h (fun _ => .of_eq (servicing_sampleLine s ⟨low, high⟩)) fun _ => .refl s
    | lineSample low high => exact .next h (.of_eq (servicing_sampleLine s ⟨low, high⟩))
    | listenExpiry | fadeExpiry | qualifyExpiry => exact .guarded h fun _ => .of_eq (by simp)
    | frameStart | frameEnd | breakStart | postBreakEnd =>
      exact .ite_next h (fun _ => .of_eq (servicing_bitBoundary s)) fun _ => .refl s
    | bitBoundary => exact .next h (.of_eq (servicing_bitBoundary s))
    | flowCodePlaced =>
      refine .next h ?_
      split
      · exact .ite (fun _ => .settled (.of_eq rfl)) fun _ => .refl s
      · exact .refl s
    | take source =>
      refine .next h ?_
      split
      · next character _ =>
        refine .ite (fun _ => .settled ?_) fun _ => .refl s
        exact .of_eq ((servicing_leaveSource _ source).trans (servicing_deliver s source character))
      · exact .refl s
    | translationRead data =>
      refine .next h ?_
      split
      · exact finishOther_keepsServicing s _ _ fun t => translate_keepsServicing t data
      · exact .refl s
    | glyphFetch c1 c2 c3 c4 c5 =>
      refine .next h ?_
      split
      · exact finishOther_keepsServicing s _ _ fun t => .of_eq (servicing_holdGlyph t c1 c2 c3 c4 c5)
      · exact .refl s
    | receivePlacement =>
      refine .next h ?_
      split
      · exact finishOther_keepsServicing s _ _ fun t => .of_eq (servicing_advanceReceiveHead t)
      · exact .refl s
    | headerLoad | sendFetch | answerbackRead =>
      refine .next h ?_
      split
      · exact finishOther_keepsServicing s _ _ fun t => .of_eq rfl
      · exact .refl s
    | eligibilityRead data =>
      refine .next h ?_
      split
      · exact finishGrant_keepsServicing s _ fun t =>
          (KeepsServicing.of_frame (chooseRepeat_frame _) (by decide)).from_eq rfl
      · exact .refl s
    | scanPass readings =>
      refine .guarded h fun _ => ?_
      rw [scanPass_eq]
      exact .of_eq (servicing_scanEnded s _)
    | repeatTimerExpiry =>
      exact .ite_next h (fun _ => .of_frame (repeatExpiry_frame s) (by decide)) fun _ => .refl s
    | entryHandling =>
      refine .next h ?_
      split
      · exact .refl s
      · next e rest _ =>
        refine .ite (fun _ => .settled ?_) fun _ => .refl s
        exact .of_eq (servicing_handleEntry (consumeEntry rest s) e)
    | paperOut =>
      refine .ite_next h (fun _ => .ite (fun _ => .settled (.of_eq ?_)) fun _ => .of_eq rfl) fun _ => .refl s
      exact servicing_losePaper _
    | feedAppend | motionEnd | returnEnd | feedEnd | paperTimerExpiry | homeFound | seekTimerExpiry | strobeRelease
    | columnTimerExpiry | sensorReading => exact .guarded h fun _ => .of_eq (by simp)
    | settleExpiry => exact .ite_next h (fun _ => .of_eq (servicing_endSettle s)) fun _ => .refl s
    | backStep =>
      refine .next h ?_
      split
      · next made _ => exact .of_frame (completeBackStep_frame s made) (by decide)
      · exact .refl s
    | groupStart => exact .ite_next h (fun _ => .of_frame (startGroup_frame s) (by decide)) fun _ => .refl s
    | grantStart => exact .ite_next h (fun _ => .of_frame (startNextGrant_frame s) (by decide)) fun _ => .refl s
    | paperPresent | synthesisSample => exact .ite_next h (fun _ => .refl s) fun _ => .of_eq rfl
    | waitTimerExpiry | breakTimerExpiry | remotePauseTimerExpiry | sounderTimerExpiry | homeSeekStart =>
      exact .ite_next h (fun _ => .of_eq rfl) fun _ => .refl s
    | maskWrite byte data | joinRowWrite byte data | ringPlacementWrite byte data | keymapBaseWrite byte data
    | answerbackSetupWrite byte data | headerCapture byte data => cases byte <;> cases hc
    | _ => cases hc

end

/-- Settles O53: every command keeps the Attention Controller's fields legal, and the setup values and readings in their
ranges. -/
theorem hostFieldsInvariant : Obligations.HostFieldsInvariant := by
  rintro s t ⟨attention, range⟩ h
  unfold step at h
  split at h
  · cases h
    exact ⟨attention, range⟩
  · next command rest _ =>
    let waiting := { s with pending := rest }
    exact ⟨exec_keepsServicing waiting command h attention, exec_setupInRange (s := waiting) command range h⟩

end Sys2Proof.Machine
